-- ==== Sys2Proof/Word.lean ====
section
/-! DEFINITION. Word.lean: the plain words of the part (spec/00_scope.md 1.5, spec/13_formats.md 13.1). -/

namespace Sys2Proof

/-- One byte or one 8-bit character of the panel line, the radio line or the plan memory. -/
abbrev Byte := BitVec 8

/-- A position number 0..15 (1.5; 4 bits in every frame, 13.1). -/
abbrev Position := BitVec 4

/-- A mask over the places 1, 2, 3 of a stack group, place 1 in the most significant bit (13.1). -/
abbrev Mask := BitVec 3

/-- A priority class 0..3, 0 highest (2.2, 13.1). -/
abbrev Priority := BitVec 2

/-- An antenna number: 1..32, and 0 for none (1.5). -/
abbrev Antenna := Nat

/-- A band index: 1..10, and 0 for no band (1.5). -/
abbrev Band := Nat

/-- A frequency: none while invalid, otherwise a whole count of 100 Hz (1.5). -/
abbrev Freq := Option Nat

end Sys2Proof
end

