-- ==== Sys2Proof/Syntax.lean ====
section
/-! DEFINITION. Syntax.lean: the link frames' fields (spec/13_formats.md 13.1) and the commands, one constructor per row of spec/opcode_table.json. -/

namespace Sys2Proof

/-- The four slots of the Claim Table (1.5, R96). -/
inductive Slot
  | main | aux | nextA | nextB
  deriving DecidableEq, Repr

/-- One value per slot, in slot order. -/
structure Slots (α : Type) where
  main : α
  aux : α
  nextA : α
  nextB : α
  deriving DecidableEq, Repr

/-- The value of one slot. -/
def Slots.get {α : Type} (x : Slots α) : Slot → α
  | .main => x.main
  | .aux => x.aux
  | .nextA => x.nextA
  | .nextB => x.nextB

/-- The values with one slot's value changed. -/
def Slots.set {α : Type} (x : Slots α) (i : Slot) (v : α) : Slots α :=
  match i with
  | .main => { x with main := v }
  | .aux => { x with aux := v }
  | .nextA => { x with nextA := v }
  | .nextB => { x with nextB := v }

/-- Every slot with the same value. -/
def Slots.all {α : Type} (x : α) : Slots α := ⟨x, x, x, x⟩

/-- Three label codes, first character first (R22). -/
structure Label where
  c1 : BitVec 6
  c2 : BitVec 6
  c3 : BitVec 6
  deriving DecidableEq, Repr

/-- The receiver faults of R43. -/
inductive FaultKind
  | classFault | cadenceFault | lengthFault | crcFault | encodingFault
  deriving DecidableEq, Repr

/-- A slot entry of a STATUS as it stands on the link: 15 bits (13.1). -/
structure EntryCode where
  antenna : BitVec 6
  mask : Mask
  tenure : BitVec 6
  deriving DecidableEq, Repr

/-- The body of a STATUS frame, every field as coded on the link (13.1). The label and token stand
only in a SINGLE frame (R85). -/
structure StatusFrame where
  cadence : BitVec 2
  slice : BitVec 2
  periodCode : BitVec 4
  freq : BitVec 20
  band : BitVec 4
  keyed : Bool
  standby : Bool
  planValid : Bool
  linkLost : Bool
  keyTenure : BitVec 6
  priority : Priority
  planCheck : BitVec 8
  askTarget : Position
  askAntenna : BitVec 6
  askKind : BitVec 2
  answerTarget : Position
  answerAntenna : BitVec 6
  answer : BitVec 2
  entries : List EntryCode
  ident : Option (Label × BitVec 16)
  deriving DecidableEq, Repr

/-- The body of a CLAIM frame (13.1). -/
structure ClaimFrame where
  slot : Slot
  antenna : BitVec 6
  mask : Mask
  isAssert : Bool
  tenure : BitVec 6
  priority : Priority
  deriving DecidableEq, Repr

/-- The body of a RELEASE frame (13.1). -/
structure ReleaseFrame where
  slot : Slot
  antenna : BitVec 6
  reason : BitVec 3
  yieldValid : Bool
  yieldTo : Position
  deriving DecidableEq, Repr

/-- The body of a KEY frame (13.1). -/
structure KeyFrame where
  on : Bool
  isAssert : Bool
  band : BitVec 4
  freq : BitVec 20
  tenure : BitVec 6
  deriving DecidableEq, Repr

/-- The four station commands (13.1: QUIET 0, QUIET-END 1, REJOIN 2, RELEARN 3). -/
inductive CommandName
  | quiet | quietEnd | rejoin | relearn
  deriving DecidableEq, Repr

/-- The fields of a COMMAND frame after its command code (13.1). -/
structure CommandFields where
  all : Bool
  target : Position
  duration : BitVec 8
  deriving DecidableEq, Repr

/-- The body of a PROBE frame (13.1). -/
structure ProbeFrame where
  token : BitVec 16
  planCheck : BitVec 8
  planValid : Bool
  deriving DecidableEq, Repr

/-- The body of a frame of any class (R39). -/
inductive FrameBody
  | command (name : CommandName) (f : CommandFields)
  | key (f : KeyFrame)
  | claim (f : ClaimFrame)
  | release (f : ReleaseFrame)
  | status (f : StatusFrame)
  | probe (f : ProbeFrame)
  deriving DecidableEq, Repr

/-- A link frame: the position number of its contention head, and its body (R39). -/
structure LinkFrame where
  sender : Position
  body : FrameBody
  deriving DecidableEq, Repr

/-- The commands: one constructor per row of spec/opcode_table.json. A row about one slot, record or
reservation carries which; a received frame carries its sender and its fields; a key carries its argument. -/
inductive Instr
  | powerOnReset
  | planReadEnd (bytes : List Byte)
  | radioCharacterArrival (c : Byte) (framingError : Bool)
  | freshnessTimerExpiry
  | listenTimerExpiry
  | probeComplete
  | probeWaitExpiry
  | leavingComplete
  | receiverSynced
  | frameStart
  | contentionLost
  | senderLineFault
  | frameFault (kind : FaultKind)
  | adaptationPeriodEnd
  | statusReceived (sender : Position) (f : StatusFrame)
  | claimReceived (sender : Position) (f : ClaimFrame)
  | releaseReceived (sender : Position) (f : ReleaseFrame)
  | keyReceived (sender : Position) (f : KeyFrame)
  | probeReceived (number : Position) (f : ProbeFrame)
  | peerEntryExpiry (peer : Position) (slot : Slot)
  | peerRecordExpiry (peer : Position)
  | statusIntervalExpiry
  | statusComplete
  | recentChangeExpiry
  | selfDropLimit (slot : Slot)
  | claimComplete
  | claimWindowExpiry (slot : Slot)
  | tenurePeriodExpiry (slot : Slot)
  | releaseComplete
  | reservationExpiry (antenna : Antenna)
  | relearnQuietExpiry
  | growWindowExpiry
  | askLifeExpiry
  | keepLifeExpiry
  | pttPress
  | pttRelease
  | keyComplete
  | tSeqExpiry
  | tailExpiry
  | keyTenurePeriodExpiry
  | breakExpiry
  | makeExpiry
  | quietCommand (issuer : Position) (f : CommandFields)
  | quietEndCommand (issuer : Position) (f : CommandFields)
  | rejoinCommand (issuer : Position) (f : CommandFields)
  | relearnCommand (issuer : Position) (f : CommandFields)
  | commandComplete
  | quietSecondExpiry
  | selectMain (n : Nat)
  | selectAux (n : Nat)
  | selectNext (n : Nat)
  | dropMain
  | dropAux
  | dropNext
  | wait
  | cancel
  | ask (n : Nat)
  | give
  | keep
  | stackMask (m : Mask)
  | standby
  | quietKey
  | quietEndKey
  | relearnKey
  | rejoinPos (p : Option Position)
  | rejoinSelf
  | clearCounters
  | undefinedKeyCode (code : Byte) (framingError : Bool)
  | displayRecordSent
  | displayRefreshExpiry
  | startMarkReceived
  | askAgeWholePeriod
  deriving DecidableEq, Repr

end Sys2Proof
end

