-- ==== Sys2Proof/WellFormed.lean ====
section
/-! DEFINITION. WellFormed.lean: which operands a command can carry (R43, R191, 13.1 to 13.3). A command whose operands fail here still has a meaning: an out-of-range key is answered as R191 says, a frame with a fault code is taken as R43 says. -/

namespace Sys2Proof

/-- An antenna code that is no encoding fault (R43, 13.1). -/
def antennaCodeOk (a : BitVec 6) : Bool := a.toNat ≤ 32

/-- An antenna argument of a SELECT key (R191). -/
def antennaArgOk (n : Nat) : Bool := 1 ≤ n && n ≤ 32

/-- The number of slot entries a STATUS of this cadence code carries (R82, 13.1); 0 for the code that names no cadence. -/
def cadenceEntries (c : BitVec 2) : Nat :=
  match c.toNat with
  | 0 => 4
  | 1 => 2
  | 2 => 1
  | _ => 0

/-- The number of slices of a round (R82); 0 for the code that names no cadence. -/
def cadenceSlices (c : BitVec 2) : Nat :=
  match c.toNat with
  | 0 => 1
  | 1 => 2
  | 2 => 4
  | _ => 0

/-- The body has the length its cadence fixes (R39, 13.1): the entries of the slice, and the label and
token for SINGLE alone. -/
def StatusFrame.shapeOk (f : StatusFrame) : Bool :=
  f.entries.length == cadenceEntries f.cadence && (f.ident.isSome == (f.cadence == 0))

/-- No field of the STATUS holds a code R43 names an encoding fault. -/
def StatusFrame.codesOk (f : StatusFrame) : Bool :=
  decide (f.slice.toNat < cadenceSlices f.cadence) && f.entries.all (fun e => antennaCodeOk e.antenna) &&
    antennaCodeOk f.askAntenna && antennaCodeOk f.answerAntenna && f.answer != 3

/-- A release reason that R43 does not fault: VOLUNTARY 0 to REJOIN 4. -/
def reasonCodeOk (r : BitVec 3) : Bool := r.toNat ≤ 4

/-- The first fault of R43 that the fields of a received frame show, if any. -/
def FrameBody.fault : FrameBody → Option FaultKind
  | .command _ _ => none
  | .key _ => none
  | .claim f => if antennaCodeOk f.antenna then none else some .encodingFault
  | .release f =>
      if antennaCodeOk f.antenna && reasonCodeOk f.reason then none else some .encodingFault
  | .status f =>
      if f.cadence == 3 then some .cadenceFault
      else if !f.shapeOk then some .lengthFault
      else if f.codesOk then none
      else some .encodingFault
  | .probe _ => none

/-- A key code byte that names a key with its argument in range (R191, 13.3). -/
def definedKeyCode (c : Byte) : Bool :=
  let n := c.toNat
  (1 ≤ n && n ≤ 32) || (49 ≤ n && n ≤ 80) || (97 ≤ n && n ≤ 128) || (144 ≤ n && n ≤ 176) ||
    (193 ≤ n && n ≤ 216) || (224 ≤ n && n ≤ 236)

/-- The command's operands are ones the part's inputs can carry. -/
def Instr.wellFormed : Instr → Bool
  | .planReadEnd bytes => bytes.length ≤ 519
  | .statusReceived _ f => (FrameBody.status f).fault.isNone
  | .claimReceived _ f => (FrameBody.claim f).fault.isNone
  | .releaseReceived _ f => (FrameBody.release f).fault.isNone
  | .reservationExpiry a => antennaArgOk a
  | .selectMain n => antennaArgOk n
  | .selectAux n => antennaArgOk n
  | .selectNext n => antennaArgOk n
  | .ask n => n ≤ 32
  | .stackMask m => m != 0
  | .undefinedKeyCode c framingError => framingError || !definedKeyCode c
  | _ => true

end Sys2Proof
end

