-- ==== Sys2Proof/Decode.lean ====
section
/-! DEFINITION. Decode.lean: what the part's lines spell. The table of commands gives no row any bits, so no word spells a command; the spec's own encodings are here: the CRC-8 (R201), the link frames with fill bits and end mark (R38, R39, R43, 13.1) and the panel key codes (13.3), each decoded to a command and encoded back. -/

namespace Sys2Proof

/-- The command a word spells by the table's bits: the table gives no row bits, so none (log 39). -/
def decodeTableWord (_nbits _w : Nat) : Option Instr := none

/-! ### Bits, most significant first (Chapter 13) -/

/-- The bits of a field in the order sent. -/
def bitsOf {n : Nat} (v : BitVec n) : List Bool := (List.range n).map (fun i => v.getMsbD i)

/-- The field that bits spell, most significant first. -/
def ofBits (n : Nat) (l : List Bool) : BitVec n :=
  BitVec.ofNat n (l.foldl (fun acc b => 2 * acc + b.toNat) 0)

/-- Reads a field of n bits from the front. -/
def readBits (n : Nat) (l : List Bool) : Option (BitVec n × List Bool) :=
  if l.length < n then none else some (ofBits n (l.take n), l.drop n)

/-- One bit of the CRC-8 register (R201). -/
def crcStep (r : BitVec 8) (b : Bool) : BitVec 8 :=
  if r.msb == b then r <<< 1 else (r <<< 1) ^^^ 7

/-- The CRC-8 of the position link over a sequence of bits (R201). -/
def crc8 (l : List Bool) : BitVec 8 := l.foldl crcStep 0

/-- The CRC-8 over stored bytes, each from bit 7 to bit 0 (R201). -/
def crcBytes (l : List Byte) : BitVec 8 := crc8 (l.flatMap bitsOf)

/-! ### Sending a frame (R38, R39, 13.1). A dominant bit is 0 (log 31) -/

/-- The slot's code (13.1). -/
def slotCode : Slot → BitVec 2
  | .main => 0
  | .aux => 1
  | .nextA => 2
  | .nextB => 3

/-- The slot a code names (13.1). -/
def slotOfCode (c : BitVec 2) : Slot :=
  match c.toNat with
  | 0 => .main
  | 1 => .aux
  | 2 => .nextA
  | _ => .nextB

/-- The command's code (13.1). -/
def commandCode : CommandName → BitVec 3
  | .quiet => 0
  | .quietEnd => 1
  | .rejoin => 2
  | .relearn => 3

/-- The contention value of a frame's class (1.5). -/
def FrameBody.classValue : FrameBody → Nat
  | .command _ _ => 0
  | .key _ => 1
  | .claim _ => 2
  | .release _ => 3
  | .status _ => 4
  | .probe _ => 5

/-- One bit as a field. -/
def bitOf (b : Bool) : List Bool := [b]

/-- A slot entry's 15 bits (13.1). -/
def EntryCode.bits (e : EntryCode) : List Bool := bitsOf e.antenna ++ (bitsOf e.mask ++ bitsOf e.tenure)

/-- The label's three codes, first character first (13.1). -/
def Label.bits (l : Label) : List Bool := bitsOf l.c1 ++ (bitsOf l.c2 ++ bitsOf l.c3)

/-- The label and token of a SINGLE frame (13.1). -/
def identBits : Option (Label × BitVec 16) → List Bool
  | none => []
  | some (l, t) => l.bits ++ bitsOf t

/-- The class body of a frame (13.1). -/
def FrameBody.bits : FrameBody → List Bool
  | .command n f => bitsOf (commandCode n) ++ (bitOf f.all ++ (bitsOf f.target ++ bitsOf f.duration))
  | .key f => bitOf f.on ++ (bitOf f.isAssert ++ (bitsOf f.band ++ (bitsOf f.freq ++ bitsOf f.tenure)))
  | .claim f =>
      bitsOf (slotCode f.slot) ++ (bitsOf f.antenna ++ (bitsOf f.mask ++ (bitOf f.isAssert ++
        (bitsOf f.tenure ++ bitsOf f.priority))))
  | .release f =>
      bitsOf (slotCode f.slot) ++ (bitsOf f.antenna ++ (bitsOf f.reason ++ (bitOf f.yieldValid ++
        bitsOf f.yieldTo)))
  | .status f =>
      bitsOf f.cadence ++ (bitsOf f.slice ++ (bitsOf f.periodCode ++ (bitsOf f.freq ++ (bitsOf f.band ++
        (bitOf f.keyed ++ (bitOf f.standby ++ (bitOf f.planValid ++ (bitOf f.linkLost ++
          (bitsOf f.keyTenure ++ (bitsOf f.priority ++ (bitsOf f.planCheck ++ (bitsOf f.askTarget ++
            (bitsOf f.askAntenna ++ (bitsOf f.askKind ++ (bitsOf f.answerTarget ++
              (bitsOf f.answerAntenna ++ (bitsOf f.answer ++
                (f.entries.flatMap EntryCode.bits ++ identBits f.ident))))))))))))))))))
  | .probe f => bitsOf f.token ++ (bitsOf f.planCheck ++ bitOf f.planValid)

/-- The head and body of a frame: the bits its CRC covers (R39, R201). -/
def LinkFrame.coveredBits (f : LinkFrame) : List Bool :=
  bitsOf (BitVec.ofNat 3 f.body.classValue) ++ (bitsOf f.sender ++ f.body.bits)

/-- Fill bits: after every run of five bits of one level, one bit of the other (R38). `last` and
`run` are the level and length of the run so far. -/
def fill (last : Bool) (run : Nat) : List Bool → List Bool
  | [] => []
  | b :: bs =>
    if (if b == last then run + 1 else 1) = 5 then b :: (!b) :: fill (!b) 1 bs
    else b :: fill b (if b == last then run + 1 else 1) bs

/-- The bits after the start mark that take fill bits: head, body and CRC (R38, R39). -/
def LinkFrame.contentBits (f : LinkFrame) : List Bool := f.coveredBits ++ bitsOf (crc8 f.coveredBits)

/-- A frame on the line: start mark, head, body and CRC with fill bits, end mark (R39). -/
def LinkFrame.wireBits (f : LinkFrame) : List Bool :=
  false :: (fill false 1 f.contentBits ++ List.replicate 7 true)

/-! ### Receiving a frame (R38, R43) -/

/-- Where the receiver stands in the line: the level and length of the run so far and the bits to come. -/
structure LinePos where
  last : Bool
  run : Nat
  rest : List Bool
  deriving DecidableEq, Repr

/-- Removes the fill bit that a run of five calls for; a sixth bit of the level is a length fault (R38, R43). -/
def skipFill (p : LinePos) : Except FaultKind LinePos :=
  if p.run = 5 then
    match p.rest with
    | x :: xs => if x == p.last then .error .lengthFault else .ok ⟨x, 1, xs⟩
    | [] => .error .lengthFault
  else .ok p

/-- Takes n content bits, removing the fill bits before them; an early end is a length fault (R43). -/
def takeContent : Nat → LinePos → Except FaultKind (List Bool × LinePos)
  | 0, p => .ok ([], p)
  | n + 1, p =>
    match skipFill p with
    | .ok ⟨last, run, b :: bs⟩ =>
      (match takeContent n ⟨b, if b == last then run + 1 else 1, bs⟩ with
      | .ok (l, p) => .ok (b :: l, p)
      | .error k => .error k)
    | .ok ⟨_, _, []⟩ => .error .lengthFault
    | .error k => .error k

/-- The body length of a class (R39); for STATUS, by the first two body bits (13.1). -/
def bodyLength (cls : Nat) (cadence : BitVec 2) : Nat :=
  match cls with
  | 0 => 16
  | 1 => 32
  | 2 => 20
  | 3 => 16
  | 4 =>
    match cadence.toNat with
    | 0 => 170
    | 1 => 106
    | _ => 91
  | _ => 25

/-- Reads one bit. -/
def readBit : List Bool → Option (Bool × List Bool)
  | [] => none
  | b :: bs => some (b, bs)

/-- Reads slot entries (13.1). -/
def readEntries : Nat → List Bool → Option (List EntryCode × List Bool)
  | 0, l => some ([], l)
  | n + 1, l => do
    let (a, l) ← readBits 6 l
    let (m, l) ← readBits 3 l
    let (t, l) ← readBits 6 l
    let (es, l) ← readEntries n l
    return (⟨a, m, t⟩ :: es, l)

/-- Reads the label and token of a SINGLE frame (13.1). -/
def readIdent (cadence : BitVec 2) (l : List Bool) : Option (Option (Label × BitVec 16)) :=
  if cadence == 0 then do
    let (a, l) ← readBits 6 l
    let (b, l) ← readBits 6 l
    let (c, l) ← readBits 6 l
    let (t, _) ← readBits 16 l
    return some (⟨a, b, c⟩, t)
  else some none

/-- The command a code names; codes 4..7 are an encoding fault (R43). -/
def commandOfCode (c : BitVec 3) : Option CommandName :=
  match c.toNat with
  | 0 => some .quiet
  | 1 => some .quietEnd
  | 2 => some .rejoin
  | 3 => some .relearn
  | _ => none

/-- Reads a STATUS body (13.1). -/
def readStatus (l : List Bool) : Option FrameBody := do
  let (cadence, l) ← readBits 2 l
  let (slice, l) ← readBits 2 l
  let (periodCode, l) ← readBits 4 l
  let (freq, l) ← readBits 20 l
  let (band, l) ← readBits 4 l
  let (keyed, l) ← readBit l
  let (standby, l) ← readBit l
  let (planValid, l) ← readBit l
  let (linkLost, l) ← readBit l
  let (keyTenure, l) ← readBits 6 l
  let (priority, l) ← readBits 2 l
  let (planCheck, l) ← readBits 8 l
  let (askTarget, l) ← readBits 4 l
  let (askAntenna, l) ← readBits 6 l
  let (askKind, l) ← readBits 2 l
  let (answerTarget, l) ← readBits 4 l
  let (answerAntenna, l) ← readBits 6 l
  let (answer, l) ← readBits 2 l
  let (entries, l) ← readEntries (cadenceEntries cadence) l
  let ident ← readIdent cadence l
  return .status
    { cadence, slice, periodCode, freq, band, keyed, standby, planValid, linkLost, keyTenure,
      priority, planCheck, askTarget, askAntenna, askKind, answerTarget, answerAntenna, answer,
      entries, ident }

/-- Reads the body of a class (13.1); none where a COMMAND holds an undefined code. -/
def readBody (cls : Nat) (l : List Bool) : Option FrameBody :=
  match cls with
  | 0 => do
    let (c, l) ← readBits 3 l
    let (all, l) ← readBit l
    let (target, l) ← readBits 4 l
    let (duration, _) ← readBits 8 l
    let name ← commandOfCode c
    return .command name ⟨all, target, duration⟩
  | 1 => do
    let (on, l) ← readBit l
    let (isAssert, l) ← readBit l
    let (band, l) ← readBits 4 l
    let (freq, l) ← readBits 20 l
    let (tenure, _) ← readBits 6 l
    return .key ⟨on, isAssert, band, freq, tenure⟩
  | 2 => do
    let (slot, l) ← readBits 2 l
    let (antenna, l) ← readBits 6 l
    let (mask, l) ← readBits 3 l
    let (isAssert, l) ← readBit l
    let (tenure, l) ← readBits 6 l
    let (priority, _) ← readBits 2 l
    return .claim ⟨slotOfCode slot, antenna, mask, isAssert, tenure, priority⟩
  | 3 => do
    let (slot, l) ← readBits 2 l
    let (antenna, l) ← readBits 6 l
    let (reason, l) ← readBits 3 l
    let (yieldValid, l) ← readBit l
    let (yieldTo, _) ← readBits 4 l
    return .release ⟨slotOfCode slot, antenna, reason, yieldValid, yieldTo⟩
  | 4 => readStatus l
  | _ => do
    let (token, l) ← readBits 16 l
    let (planCheck, l) ← readBits 8 l
    let (planValid, _) ← readBit l
    return .probe ⟨token, planCheck, planValid⟩

/-- The encoding test, made on a frame whose CRC has matched (R43). -/
def judgeBody (sender : Position) (cls : Nat) (body : List Bool) : Except FaultKind LinkFrame :=
  match readBody cls body with
  | none => .error .encodingFault
  | some b =>
    match b.fault with
    | some k => .error k
    | none => .ok ⟨sender, b⟩

/-- The end mark's 7 cells, all recessive (R39, R43). -/
def endsWell (p : LinePos) : Bool :=
  match skipFill p with
  | .ok q => q.rest.take 7 == List.replicate 7 true
  | .error _ => false

/-- The receiver's check of the bits that follow a start mark, to the end mark (R39, R43): the frame,
or the first fault. The class is tested as soon as its three bits are read, the cadence as soon as its two
bits are. -/
def receiveBits (line : List Bool) : Except FaultKind LinkFrame := do
  let (cls, p) ← takeContent 3 ⟨false, 1, line⟩
  let c := (ofBits 3 cls).toNat
  if 6 ≤ c then .error .classFault
  let (sender, p) ← takeContent 4 p
  let (front, p) ← takeContent 2 p
  if c = 4 ∧ ofBits 2 front = 3 then .error .cadenceFault
  let (back, p) ← takeContent (bodyLength c (ofBits 2 front) - 2) p
  let (crc, p) ← takeContent 8 p
  if ofBits 8 crc ≠ crc8 (cls ++ (sender ++ (front ++ back))) then .error .crcFault
  if endsWell p then judgeBody (ofBits 4 sender) c (front ++ back) else .error .lengthFault

/-- The command that a good frame from another sender is (R45). -/
def LinkFrame.command (f : LinkFrame) : Instr :=
  match f.body with
  | .command .quiet c => .quietCommand f.sender c
  | .command .quietEnd c => .quietEndCommand f.sender c
  | .command .rejoin c => .rejoinCommand f.sender c
  | .command .relearn c => .relearnCommand f.sender c
  | .key k => .keyReceived f.sender k
  | .claim c => .claimReceived f.sender c
  | .release r => .releaseReceived f.sender r
  | .status st => .statusReceived f.sender st
  | .probe p => .probeReceived f.sender p

/-- The command that the bits after a start mark are: a frame received, or the fault R43 finds. -/
def commandOfLine (line : List Bool) : Instr :=
  match receiveBits line with
  | .ok f => f.command
  | .error k => .frameFault k

/-! ### Panel key codes (R191, 13.3) -/

/-- The command a character of the panel line is (13.3); `framingError` where its stop bit was not at
the idle level (R191). -/
def decodeKey (c : Byte) (framingError : Bool) : Instr :=
  let n := c.toNat
  if framingError || !definedKeyCode c then .undefinedKeyCode c framingError
  else if n < 48 then .selectMain n
  else if n < 96 then .selectAux (n - 48)
  else if n < 144 then .selectNext (n - 96)
  else if n < 192 then .ask (n - 144)
  else if n < 200 then .stackMask (BitVec.ofNat 3 (n - 192))
  else if n < 216 then .rejoinPos (some (BitVec.ofNat 4 (n - 200)))
  else
    match n with
    | 216 => .rejoinPos none
    | 224 => .wait
    | 225 => .cancel
    | 226 => .give
    | 227 => .keep
    | 228 => .standby
    | 229 => .quietKey
    | 230 => .quietEndKey
    | 231 => .relearnKey
    | 232 => .rejoinSelf
    | 233 => .clearCounters
    | 234 => .dropMain
    | 235 => .dropAux
    | _ => .dropNext

/-- The key code of a panel key (13.3); none for a command that is no key. -/
def encodeKey : Instr → Option Byte
  | .selectMain n => some (BitVec.ofNat 8 n)
  | .selectAux n => some (BitVec.ofNat 8 (48 + n))
  | .selectNext n => some (BitVec.ofNat 8 (96 + n))
  | .ask n => some (BitVec.ofNat 8 (144 + n))
  | .stackMask m => some (BitVec.ofNat 8 (192 + m.toNat))
  | .rejoinPos (some p) => some (BitVec.ofNat 8 (200 + p.toNat))
  | .rejoinPos none => some 216
  | .wait => some 224
  | .cancel => some 225
  | .give => some 226
  | .keep => some 227
  | .standby => some 228
  | .quietKey => some 229
  | .quietEndKey => some 230
  | .relearnKey => some 231
  | .rejoinSelf => some 232
  | .clearCounters => some 233
  | .dropMain => some 234
  | .dropAux => some 235
  | .dropNext => some 236
  | .undefinedKeyCode c _ => some c
  | _ => none

end Sys2Proof
end

