-- ==== Sys2Proof/Config.lean ====
section
/-! DEFINITION. Config.lean: the unit of the part's clock and the free values the spec leaves open. -/

namespace Sys2Proof.Config

/-- DESIGN CHOICE (log 1): the clock counts half milliseconds, so that P/4 is whole for every period code. -/
def unitsPerMs : Nat := 2

/-- A length in milliseconds as clock units. -/
def ms (n : Nat) : Nat := unitsPerMs * n

/-- A length in seconds as clock units. -/
def sec (n : Nat) : Nat := ms (1000 * n)

/-- FREE VALUE (log 3): whether, in the n-th step, the Interlock Evaluator takes the step's event
before the other blocks do (R13, R45, R72: the receivers of one event are not ordered). -/
opaque ieFirst : Nat → Bool

/-- FREE VALUE (log 3): whether, in the n-th step, the Interlock Evaluator also evaluates after the
Claim Table has acted and before the Relay Driver has (R152). -/
opaque ieMiddle : Nat → Bool

end Sys2Proof.Config
end

