-- ==== Sys2Proof/Machine/State.lean ====
section
/-! DEFINITION. Machine/State.lean: the part's state as plain data, block by block as spec/00_scope.md 1.3 lists them, and its value after power-on reset. INVENTORY.md lists every field with the rule that names it. -/

namespace Sys2Proof.Machine

/-- No command stops the part: the spec names no event after which it does not go on (log 29). The
type has no constructor, so that no step can answer a fault. -/
inductive Fault : Type
  deriving DecidableEq, Repr

/-- Why a command has no meaning here. -/
inductive Refusal
  /-- Raised only by an arm of exec whose row has no meaning yet; safe: nothing is claimed of it. -/
  | notModelled (mnemonic : String)
  deriving DecidableEq, Repr

/-- A timer: stopped, running out at a moment of `State.now`, or expired (R12, R81). -/
inductive Timer
  | stopped
  | running (due : Nat)
  | expired
  deriving DecidableEq, Repr

/-! ### Frequency Unit (Chapter 1) -/

/-- The sentence decoder's states (R2). -/
inductive DecoderState
  | hunt | digits | check | endMark
  deriving DecidableEq, Repr

/-- The sentence decoder record (R2). -/
structure Decoder where
  state : DecoderState
  digits : Nat
  hz : Nat
  sum : Nat
  checkDigits : Nat
  check : Nat
  deriving DecidableEq, Repr

/-- The Frequency Unit's state (Chapter 1, R15). -/
structure FreqUnit where
  freq : Freq
  band : Band
  freshness : Timer
  decoder : Decoder
  sentenceErrors : Nat
  deriving DecidableEq, Repr

/-! ### Plan Store (Chapter 2) -/

/-- A band table entry in force (2.2, R18). -/
structure BandEntry where
  lower : Nat
  upper : Nat
  spacing : Nat
  single : Bool
  warn : Bool
  deriving DecidableEq, Repr

/-- The antenna kinds (R20). -/
inductive Kind
  | absent | main | rxonly | stackPort | member
  deriving DecidableEq, Repr

/-- An antenna table entry in force (R20). Coverage bit 9 is band 1, through bit 0 for band 10 (13.2). -/
structure AntennaEntry where
  kind : Kind
  coverage : BitVec 10
  capacity : Nat
  owner : Option Position
  label : Label
  deriving DecidableEq, Repr

/-- A stack group in force (R21); a third member of 0 is absent. -/
structure GroupEntry where
  enabled : Bool
  port : Antenna
  m1 : Antenna
  m2 : Antenna
  m3 : Antenna
  mask : Mask
  deriving DecidableEq, Repr

/-- The harmonic guard (2.2, 13.2). -/
structure Harmonic where
  guardKHz : Nat
  h2 : Bool
  h3 : Bool
  warn : Bool
  deriving DecidableEq, Repr

/-- A row of the per-position table (2.2, 13.2): `defaults` holds the default MAIN antennas of bands 1 to 10. -/
structure PositionRow where
  mayCommand : Bool
  acceptCommands : Bool
  autoGive : Bool
  priority : Priority
  defaults : List Antenna
  deriving DecidableEq, Repr

/-- The timing values in force (R19), in the units of the plan. -/
structure Timing where
  periodCode : Nat
  tSeq : Nat
  tBreak : Nat
  tMake : Nat
  tFreqHalves : Nat
  askLife : Nat
  wMin : Nat
  wMax : Nat
  atkImm : Nat
  atkDly : Nat
  failSafe : Bool
  deriving DecidableEq, Repr

/-- A clamped plan (R18 to R22). -/
structure Plan where
  bands : List BandEntry
  antennas : List AntennaEntry
  groups : List GroupEntry
  harmonic : Harmonic
  rows : List PositionRow
  timing : Timing
  deriving DecidableEq, Repr

/-- The Plan Store's state (R16, R17, R24). -/
structure PlanStore where
  preferred : Position
  fixedNumber : Bool
  token : BitVec 16
  planValid : Bool
  planCheck : BitVec 8
  plan : Option Plan
  deriving DecidableEq, Repr

/-! ### Join Controller (2.7) -/

/-- The join states (1.4, 2.7). -/
inductive JoinState
  | load | listen | probe | run | leaving | unplanned | unnumbered | duplicate
  deriving DecidableEq, Repr

/-- The leaving case while it is not none (2.7). -/
inductive LeavingCase
  | rejoin | duplicate
  deriving DecidableEq, Repr

/-- The Join Controller's record (2.7). `probeOwed`: the queue refused the PROBE and it is to be
offered again (R50; log 8). -/
structure JoinCtl where
  state : JoinState
  number : Option Position
  tentative : Option Position
  failed : List Position
  attempts : Nat
  leaving : Option LeavingCase
  listenTimer : Timer
  probeWait : Timer
  probeOwed : Bool
  deriving DecidableEq, Repr

/-! ### Link Controller (Chapter 3) -/

/-- The receiver's states (R38). -/
inductive Receiver
  | sync | idle | frame
  deriving DecidableEq, Repr

/-- A frame in the transmit queue (R47): unsent or in flight, and marked for withdrawal or not (R51). -/
structure QueueEntry where
  frame : LinkFrame
  inFlight : Bool
  withdraw : Bool
  deriving DecidableEq, Repr

/-- The Link Controller's state (Chapter 3). -/
structure LinkCtl where
  receiver : Receiver
  queue : List QueueEntry
  heldStatus : Option LinkFrame
  heldKey : Option LinkFrame
  lineErrors : Nat
  overflows : Nat
  level : Nat
  errorCount : Nat
  adaptation : Timer
  deriving DecidableEq, Repr

/-! ### Peer Table (Chapter 4) -/

/-- A present entry of a peer record (R59); `since` is the moment its age was last 0 (R69). -/
structure PeerEntry where
  antenna : Antenna
  mask : Mask
  tenure : Nat
  since : Nat
  deriving DecidableEq, Repr

/-- The two answers to an ask (8.4, 13.1). -/
inductive AnswerKind
  | keep | giving
  deriving DecidableEq, Repr

/-- A peer record (R59); `headSince` is the moment its head age was last 0 (R69). -/
structure PeerRecord where
  pos : Position
  live : Bool
  slotsReported : Slots Bool
  token : Option (BitVec 16)
  label : Option Label
  priority : Option Priority
  planInfo : Option (BitVec 8 × Bool)
  periodCode : Option Nat
  freq : Freq
  band : Band
  keyed : Bool
  keyTenure : Nat
  standby : Bool
  linkLost : Bool
  ask : Option (Position × Antenna)
  answer : Option (Position × Antenna × AnswerKind)
  entries : Slots (Option PeerEntry)
  headSince : Nat
  mismatch : Bool
  deriving DecidableEq, Repr

/-- The Peer Table's state (R59, R75); records stand in position order. -/
structure PeerTable where
  records : List PeerRecord
  liveSeen : Bool
  linkLost : Bool
  deriving DecidableEq, Repr

/-! ### Status Generator (Chapter 5) -/

/-- The cadences (R82). -/
inductive Cadence
  | single | double | quad
  deriving DecidableEq, Repr

/-- The Status Generator's record (R81); `renewed` holds the moments the renewal ages were last 0 (R93). -/
structure StatusGen where
  running : Bool
  cadence : Cadence
  slice : Nat
  interval : Timer
  outstanding : Option (Cadence × Nat)
  recent : Timer
  obligation : Bool
  renewed : Slots Nat
  notified : Slots Bool
  deriving DecidableEq, Repr

/-! ### Claim Table (Chapters 6 and 7) -/

/-- The phase of a candidate or a grow (R96, R119). -/
inductive Phase
  | queued
  | window (expiry : Nat)
  deriving DecidableEq, Repr

/-- The reasons a RELEASE carries (R109, 13.1). -/
inductive ReleaseReason
  | voluntary | yielded | lost | selfDrop | rejoin
  deriving DecidableEq, Repr

/-- A pending shrink of a held port (R119, R123). -/
structure Shrink where
  mask : Mask
  yieldTo : Option Position
  deriving DecidableEq, Repr

/-- A grow of a held port (R119, R125): the grown mask, and the mask of the shrink to follow, if any. -/
structure Grow where
  mask : Mask
  phase : Phase
  andThen : Option Mask
  deriving DecidableEq, Repr

/-- A slot's held part (R96, R119); `lastAssert` is when its last assert was queued (R107). -/
structure HeldPart where
  antenna : Antenna
  mask : Mask
  drive : Mask
  tenure : Nat
  tenureLink : Nat
  period : Timer
  shrink : Option Shrink
  grow : Option Grow
  give : Option (Antenna × Position)
  lastAssert : Option Nat
  deriving DecidableEq, Repr

/-- A freeing part (R96, R110); `released`: its RELEASE has been offered and awaits its notice. -/
structure FreeingPart where
  antenna : Antenna
  mask : Mask
  drive : Mask
  tenure : Nat
  tenureLink : Nat
  reason : ReleaseReason
  yieldTo : Option Position
  released : Bool
  deriving DecidableEq, Repr

/-- A slot's candidate (R96). Its CLAIM carries tenure 0 (R100). `waits`: it counts as wait mode on
whatever the flag (R102; log 20). `readWait`: wait mode as the Claim Table read it at the last change that
filled the antenna while the CLAIM was queued (R102, R193; log 46). -/
structure Candidate where
  antenna : Antenna
  mask : Mask
  phase : Phase
  waits : Bool
  lastAssert : Option Nat
  readWait : Bool
  deriving DecidableEq, Repr

/-- A slot record (R96); freeing parts stand oldest first. -/
structure SlotRecord where
  held : Option HeldPart
  freeing : List FreeingPart
  cand : Option Candidate
  deriving DecidableEq, Repr

/-- A wait entry (R111). `waits`: placed by an ask or by auto-select (log 20). -/
structure WaitEntry where
  antenna : Antenna
  slot : Slot
  mask : Mask
  waits : Bool
  deriving DecidableEq, Repr

/-- A yield grace reservation (R113). -/
structure Reservation where
  antenna : Antenna
  position : Position
  due : Nat
  deriving DecidableEq, Repr

/-- The Claim Table's state (R96, R111, R113, R116, R120). `passDue` is the model's own: the queue refused a
CLAIM and so took a candidate out of its slot again, and a service pass follows (R100, R112; log 36). -/
structure ClaimTable where
  slots : Slots SlotRecord
  waitList : List WaitEntry
  reservations : List Reservation
  relearn : Timer
  panelMask : Option Mask
  passDue : Bool
  deriving DecidableEq, Repr

/-! ### Hand-over Unit (Chapter 8) -/

/-- The kind of an outgoing ask (R132). -/
inductive AskKind
  | main | aux | next
  deriving DecidableEq, Repr

/-- The outgoing ask (R132); `since` is when its age was 0, `periods` the whole periods passed. -/
inductive OutAsk
  | none
  | choosing (since periods : Nat)
  | standing (target : Position) (antenna : Antenna) (kind : AskKind) (since periods : Nat)
  deriving DecidableEq, Repr

/-- The incoming ask latch while occupied (R132). -/
structure Latch where
  asker : Position
  antenna : Antenna
  label : Option Label
  deriving DecidableEq, Repr

/-- The outgoing answer while there is one (R132). -/
structure OutAnswer where
  asker : Position
  antenna : Antenna
  kind : AnswerKind
  deriving DecidableEq, Repr

/-- The Hand-over Unit's record (R132). -/
structure HandOver where
  ask : OutAsk
  latch : Option Latch
  answer : Option OutAnswer
  keepTimer : Timer
  deriving DecidableEq, Repr

/-! ### Interlock Evaluator (Chapter 9) -/

/-- The fifteen inhibit reasons, in reporting order (R145). -/
inductive Reason
  | notJoined | plan | duplicate | standby | stationQuiet | linkLost | noFreq | outOfBand
  | noAntenna | antBand | switching | filter | bandBusy | spacing | harmonic
  deriving DecidableEq, Repr

/-- The kinds of warning, in list order (R144). -/
inductive WarningKind
  | spacing | harmonic2 | harmonic3
  deriving DecidableEq, Repr

/-- Key order marks other than none (R144). -/
inductive KeyMark
  | earlier | later
  deriving DecidableEq, Repr

/-- The Interlock Evaluator's record (R144). -/
structure Interlock where
  permit : Bool
  reason : Option Reason
  warnings : List (WarningKind × Position)
  marks : List (Position × KeyMark)
  deriving DecidableEq, Repr

/-! ### Key Sequencer (10.1) -/

/-- The sequencer's states (10.1). -/
inductive SeqState
  | receive | keyWait | announce | ampOn | transmit | tail | lockout
  deriving DecidableEq, Repr

/-- The tail cause while it is not none (R162). -/
inductive TailCause
  | release | drop
  deriving DecidableEq, Repr

/-- A lockout reason: an inhibit reason or QUEUE (R162). -/
inductive LockReason
  | inhibit (r : Reason)
  | queue
  deriving DecidableEq, Repr

/-- The Key Sequencer's record (R162) and the level of the PTT input. -/
structure KeySeq where
  state : SeqState
  timer : Timer
  tailCause : Option TailCause
  lockout : Option LockReason
  keyOnOutstanding : Bool
  keyTenure : Nat
  tenurePeriod : Timer
  keyTenureLink : Nat
  refusals : Nat
  overflowMark : Bool
  ptt : Bool
  deriving DecidableEq, Repr

/-! ### Relay Driver (10.2) -/

/-- A set of switching lines (R173): bit n-1 of `ant` is antenna line n, bit n-1 of `filter` filter
line n, bits 3(g-1).. of `member` the member lines of group g in place order, bits 2(g-1).. of `tap`
its TAP-1 and TAP-2. -/
structure Lines where
  ant : BitVec 32
  filter : BitVec 10
  member : BitVec 12
  tap : BitVec 8
  deriving DecidableEq, Repr

/-- The Relay Driver's transition states (R173). -/
inductive RelayState
  | steady | breaking | making
  deriving DecidableEq, Repr

/-- The Relay Driver's state (R173); `movesMain`: the transition changes a MAIN-path line (R151). -/
structure RelayDriver where
  lines : Lines
  target : Lines
  state : RelayState
  timer : Timer
  movesMain : Bool
  deriving DecidableEq, Repr

/-! ### Command Unit (Chapter 11) -/

/-- A station quiet in force (R180). -/
structure Quiet where
  issuer : Position
  remaining : Nat
  deriving DecidableEq, Repr

/-- The last command heard (R180). -/
structure LastCommand where
  name : CommandName
  issuer : Position
  all : Bool
  target : Position
  applied : Bool
  deriving DecidableEq, Repr

/-- The Command Unit's record (R180). -/
structure CommandUnit where
  quiet : Option Quiet
  quietTimer : Timer
  standby : Bool
  deferred : Bool
  last : Option LastCommand
  outstanding : Option CommandName
  deriving DecidableEq, Repr

/-! ### Panel Interface (Chapter 12) -/

/-- The blocks, in the order of the block table (1.3), as a display record names them (13.4, byte 67). -/
inductive Block
  | fu | ps | jc | lc | pt | sg | ct | hu | ie | ks | rd | cu | pi
  deriving DecidableEq, Repr

/-- The refusal reasons shown on the panel, in the order of their codes (13.4). -/
inductive Denial
  | notRunning | noSuchAntenna | wrongKind | privateOwner | notCovered | relearn | linkLost | planDiff
  | reserved | mine | busy | full | waitFull | queue | mask | reshaping | capacity | notHeld
  | notSingle | noAsk | notPermitted
  deriving DecidableEq, Repr

/-- The outcome of a request or report (R195, 13.4). -/
inductive PanelOutcome
  | accepted | waiting | asking | valueSet | unknown | wait | kept | giving | notSent
  | denied (d : Denial)
  deriving DecidableEq, Repr

/-- What an answer answers: no key and no block, a key code, or a report of a block (R195). -/
inductive AnswerSource
  | nothing
  | key (code : Byte)
  | block (b : Block)
  deriving DecidableEq, Repr

/-- The answer shown (R195). -/
structure PanelAnswer where
  source : AnswerSource
  outcome : PanelOutcome
  deriving DecidableEq, Repr

/-- The state of a slot part as it is shown (R199). -/
inductive PartState
  | held | freeing | queued | window
  deriving DecidableEq, Repr

/-- A slot part as it is shown (R199). -/
structure ShownPart where
  antenna : Antenna
  state : PartState
  tenure : Nat
  mask : Mask
  deriving DecidableEq, Repr

/-- What the Panel Interface reads of a peer record (R59); an entry without its age. -/
structure ShownPeer where
  pos : Position
  label : Option Label
  linkLost : Bool
  entries : Slots (Option (Antenna × Mask × Nat))
  deriving DecidableEq, Repr

/-- The displayed content: the characters of a record, and the values behind them whose change is a change
of displayed content though a record may not show it (R59, R117, R147, R178, R199; log 47). -/
structure Displayed where
  content : List Byte
  parts : Slots (List ShownPart)
  waits : List (Antenna × Slot × Mask)
  reservations : List (Antenna × Position)
  warnings : List (WarningKind × Position)
  peers : List ShownPeer
  target : Lines
  deriving DecidableEq, Repr

/-- The Panel Interface's state (Chapter 12, R200). -/
structure PanelIf where
  last : Option Displayed
  pendingChange : Bool
  inFlight : Bool
  waitMode : Bool
  answer : Option PanelAnswer
  refresh : Timer
  deriving DecidableEq, Repr

/-! ### The part -/

/-- The whole part, with its clock, the count of free choices taken and the waiting commands. -/
structure State where
  now : Nat
  choices : Nat
  fu : FreqUnit
  ps : PlanStore
  jc : JoinCtl
  lc : LinkCtl
  pt : PeerTable
  sg : StatusGen
  ct : ClaimTable
  hu : HandOver
  ie : Interlock
  ks : KeySeq
  rd : RelayDriver
  cu : CommandUnit
  pi : PanelIf
  pending : List Instr
  deriving DecidableEq, Repr

/-! Named updates, one per field (Laws/State.lean has their lemmas). -/

def State.setNow (s : State) (x : Nat) : State := { s with now := x }
def State.setChoices (s : State) (x : Nat) : State := { s with choices := x }
def State.setFu (s : State) (x : FreqUnit) : State := { s with fu := x }
def State.setPs (s : State) (x : PlanStore) : State := { s with ps := x }
def State.setJc (s : State) (x : JoinCtl) : State := { s with jc := x }
def State.setLc (s : State) (x : LinkCtl) : State := { s with lc := x }
def State.setPt (s : State) (x : PeerTable) : State := { s with pt := x }
def State.setSg (s : State) (x : StatusGen) : State := { s with sg := x }
def State.setCt (s : State) (x : ClaimTable) : State := { s with ct := x }
def State.setHu (s : State) (x : HandOver) : State := { s with hu := x }
def State.setIe (s : State) (x : Interlock) : State := { s with ie := x }
def State.setKs (s : State) (x : KeySeq) : State := { s with ks := x }
def State.setRd (s : State) (x : RelayDriver) : State := { s with rd := x }
def State.setCu (s : State) (x : CommandUnit) : State := { s with cu := x }
def State.setPi (s : State) (x : PanelIf) : State := { s with pi := x }
def State.setPending (s : State) (x : List Instr) : State := { s with pending := x }

/-- The decoder outside any sentence (R2, R15). -/
def Decoder.hunting : Decoder := ⟨.hunt, 0, 0, 0, 0, 0⟩

/-- An empty slot record (R96). -/
def SlotRecord.empty : SlotRecord := ⟨none, [], none⟩

/-- No line (R179). -/
def Lines.none : Lines := ⟨0, 0, 0, 0⟩

/-- The Frequency Unit after power-on reset (R15). -/
def FreqUnit.reset : FreqUnit := ⟨none, 0, .stopped, .hunting, 0⟩

/-- The Plan Store after power-on reset (R16, R17, R23). -/
def PlanStore.reset : PlanStore := ⟨0, false, 0, false, 0, none⟩

/-- The Join Controller after power-on reset (2.7). -/
def JoinCtl.reset : JoinCtl := ⟨.load, none, none, [], 0, none, .stopped, .stopped, false⟩

/-- The Link Controller after power-on reset (R38, R44, R52, R54, R58): the first adaptation period
lasts 8P of the default P, 2 s. -/
def LinkCtl.reset : LinkCtl := ⟨.sync, [], none, none, 0, 0, 0, 0, .running (Config.sec 2)⟩

/-- The Peer Table after power-on reset (R79). -/
def PeerTable.reset : PeerTable := ⟨[], false, false⟩

/-- The Status Generator after power-on reset (R81). -/
def StatusGen.reset : StatusGen :=
  ⟨false, .single, 0, .stopped, none, .stopped, true, .all 0, .all false⟩

/-- The Claim Table after power-on reset (R118, R131). -/
def ClaimTable.reset : ClaimTable := ⟨.all .empty, [], [], .stopped, none, false⟩

/-- The Hand-over Unit after power-on reset and on entry to LEAVING (R132). -/
def HandOver.reset : HandOver := ⟨.none, none, none, .stopped⟩

/-- The Interlock Evaluator after power-on reset (R144). -/
def Interlock.reset : Interlock := ⟨false, some .notJoined, [], []⟩

/-- The Key Sequencer after power-on reset (R162), with the PTT input released (log 24). -/
def KeySeq.reset : KeySeq := ⟨.receive, .stopped, none, none, false, 0, .stopped, 0, 0, false, false⟩

/-- The Relay Driver after power-on reset (R179). -/
def RelayDriver.reset : RelayDriver := ⟨.none, .none, .steady, .stopped, false⟩

/-- The Command Unit after power-on reset (R180). -/
def CommandUnit.reset : CommandUnit := ⟨none, .stopped, false, false, none, none⟩

/-- The Panel Interface after power-on reset (R200). -/
def PanelIf.reset : PanelIf := ⟨none, false, false, false, none, .stopped⟩

/-- The part right after power-on reset, with no command waiting (R15 to R200, "after power-on reset"). -/
def State.reset : State :=
  { now := 0, choices := 0, fu := .reset, ps := .reset, jc := .reset, lc := .reset, pt := .reset,
    sg := .reset, ct := .reset, hu := .reset, ie := .reset, ks := .reset, rd := .reset,
    cu := .reset, pi := .reset, pending := [] }

end Sys2Proof.Machine
end

