-- ==== Sys2Proof/Machine/Ops.lean ====
section
/-! DEFINITION. Machine/Ops.lean: the named operations every block uses: the clock and its timers, the plan in force, who holds which antenna, and the lines an antenna drives. -/

namespace Sys2Proof.Machine

/-! ### Clock and timers (log 1, log 2) -/

/-- The clock moved forward to a moment, where that is still ahead: the moment of an expiry (log 2). -/
def State.reach (s : State) (due : Nat) : State := s.setNow (max s.now due)

/-- A timer that runs out `len` clock units from now. -/
def State.timerFor (s : State) (len : Nat) : Timer := .running (s.now + len)

/-- The effect of a timer's expiry: none where the timer is not running; otherwise the clock stands at
the moment it ran out, and `body` is what the owning rule gives (log 2). -/
def State.onExpiry (s : State) (t : Timer) (body : State → State) : State :=
  match t with
  | .running due => body (s.reach due)
  | _ => s

/-- The timer is running. -/
def Timer.isRunning : Timer → Bool
  | .running _ => true
  | _ => false

/-! ### The plan in force (R18 to R22) -/

/-- The timing values of a plan built with defaults, in force until a valid plan is (R19). -/
def defaultTiming : Timing := ⟨1, 15, 10, 25, 4, 40, 20, 160, 4, 1, false⟩

/-- The timing values in force (R19). -/
def State.timing (s : State) : Timing :=
  match s.ps.plan with
  | some p => p.timing
  | none => defaultTiming

/-- The status period P of a period code, 200 + 50c ms (1.5). -/
def periodOf (code : Nat) : Nat := Config.ms (200 + 50 * code)

/-- The part's own status period P (1.5, R19). -/
def State.period (s : State) : Nat := periodOf s.timing.periodCode

/-- The claim window W = min(W_max, W_min + 10 ms x level) (R55). -/
def State.window (s : State) : Nat :=
  Config.ms (min s.timing.wMax (s.timing.wMin + 10 * s.lc.level))

/-- An antenna of kind ABSENT. -/
def absentAntenna : AntennaEntry := ⟨.absent, 0, 1, none, ⟨0, 0, 0⟩⟩

/-- A dead band entry. -/
def deadBand : BandEntry := ⟨1, 0, 0, false, false⟩

/-- A position row with every flag clear. -/
def blankRow : PositionRow := ⟨false, false, false, 3, []⟩

/-- The antenna table entry in force (R20); ABSENT with no plan or outside 1..32. -/
def State.antenna (s : State) (a : Antenna) : AntennaEntry :=
  match s.ps.plan with
  | some p => if a = 0 then absentAntenna else p.antennas.getD (a - 1) absentAntenna
  | none => absentAntenna

/-- The band table entry in force; dead with no plan or outside 1..10. -/
def State.bandEntry (s : State) (b : Band) : BandEntry :=
  match s.ps.plan with
  | some p => if b = 0 then deadBand else p.bands.getD (b - 1) deadBand
  | none => deadBand

/-- A position's row of the per-position table, if a plan is in force. -/
def State.row (s : State) (p : Position) : Option PositionRow :=
  s.ps.plan.bind (fun pl => pl.rows[p.toNat]?)

/-- The part's own row, in use while it has a position number (2.7). -/
def State.ownRow (s : State) : Option PositionRow := s.jc.number.bind s.row

/-- The priority class of the part's own row (R83). -/
def State.ownPriority (s : State) : Priority :=
  match s.ownRow with
  | some r => r.priority
  | none => 3

/-- The number the part puts into its frames' heads (2.7; log 38 for a part without one). -/
def State.self (s : State) : Position := s.jc.number.getD 0

/-- The antenna's coverage includes band b (R20, 13.2). -/
def AntennaEntry.covers (e : AntennaEntry) (b : Band) : Bool :=
  1 ≤ b && b ≤ 10 && e.coverage.getLsbD (10 - b)

/-! ### Stack groups and masks (R21, R74, R119) -/

/-- The mask of one place: 1, 2 or 3. -/
def placeMask (k : Nat) : Mask := if k = 1 then 4 else if k = 2 then 2 else if k = 3 then 1 else 0

/-- The places of the members a group has (R21). -/
def GroupEntry.present (g : GroupEntry) : Mask := if g.m3 = 0 then 6 else 7

/-- The member antennas standing at the places of a mask; a place for an absent member is dropped (R119). -/
def GroupEntry.members (g : GroupEntry) (m : Mask) : List Antenna :=
  (if m &&& 4 != 0 then [g.m1] else []) ++ (if m &&& 2 != 0 then [g.m2] else []) ++
    (if m &&& 1 != 0 && g.m3 != 0 then [g.m3] else [])

/-- The place mask of a member antenna in a group, 0 if it is none. -/
def GroupEntry.placeOf (g : GroupEntry) (a : Antenna) : Mask :=
  if a = 0 then 0 else if g.m1 = a then 4 else if g.m2 = a then 2 else if g.m3 = a then 1 else 0

/-- The number of places in a mask. -/
def maskCount (m : Mask) : Nat :=
  (m.getLsbD 0).toNat + (m.getLsbD 1).toNat + (m.getLsbD 2).toNat

/-- The enabled group whose port an antenna is, with its number 1..4 (R21). -/
def State.groupOf (s : State) (a : Antenna) : Option (Nat × GroupEntry) :=
  match s.ps.plan with
  | some p => ((List.range p.groups.length).zip p.groups).findSome?
      (fun (i, g) => if g.enabled && g.port == a && a != 0 then some (i + 1, g) else none)
  | none => none

/-- The antenna is the port of an enabled group. -/
def State.isPort (s : State) (a : Antenna) : Bool := (s.groupOf a).isSome

/-- The members a mask joins at a port; none for an antenna that is no enabled port (R74). -/
def State.membersOf (s : State) (a : Antenna) (m : Mask) : List Antenna :=
  match s.groupOf a with
  | some (_, g) => g.members m
  | none => []

/-- What holding an antenna with a mask takes: the antenna, and for a port the members in its mask (R73). -/
def State.uses (s : State) (a : Antenna) (m : Mask) : List Antenna := a :: s.membersOf a m

/-- The places of the members a port's group has (R21, R74). -/
def State.placesOf (s : State) (port : Antenna) : Mask :=
  match s.groupOf port with
  | some (_, g) => g.present
  | none => 0

/-- The place of a member in a port's group (R119). -/
def State.placeIn (s : State) (port member : Antenna) : Mask :=
  match s.groupOf port with
  | some (_, g) => g.placeOf member
  | none => 0

/-! ### Availability in the view (R73, R74) -/

/-- A present peer entry makes its position a holder of a (R73). -/
def State.entryHolds (s : State) (e : PeerEntry) (a : Antenna) : Bool :=
  (s.uses e.antenna e.mask).contains a

/-- The present entries of a record, in slot order. -/
def PeerRecord.present (r : PeerRecord) : List PeerEntry :=
  [r.entries.main, r.entries.aux, r.entries.nextA, r.entries.nextB].filterMap id

/-- The peer is a holder of a (R73). -/
def State.peerHolds (s : State) (r : PeerRecord) (a : Antenna) : Bool :=
  r.present.any (fun e => s.entryHolds e a)

/-- The peer records that hold a (R73). -/
def State.holders (s : State) (a : Antenna) : List PeerRecord :=
  s.pt.records.filter (fun r => s.peerHolds r a)

/-- The holder count of a (R73). -/
def State.holderCount (s : State) (a : Antenna) : Nat := (s.holders a).length

/-- The capacity of a (R20, R73). -/
def State.capacity (s : State) (a : Antenna) : Nat := (s.antenna a).capacity

/-- Antenna a is available in the view (R73). -/
def State.available (s : State) (a : Antenna) : Bool := s.holderCount a < s.capacity a

/-- The first antenna of a list that is not available in the view. -/
def State.firstFull (s : State) (l : List Antenna) : Option Antenna :=
  l.find? (fun a => !s.available a)

/-- BUSY when the capacity is 1, FULL otherwise (R99 check 11). -/
def State.fullDenial (s : State) (a : Antenna) : Denial := if s.capacity a = 1 then .busy else .full

/-- The peer record of a position. -/
def PeerTable.find (pt : PeerTable) (p : Position) : Option PeerRecord :=
  pt.records.find? (fun r => r.pos == p)

/-- At least one LIVE record stands in the table (R75). -/
def PeerTable.anyLive (pt : PeerTable) : Bool := pt.records.any (fun r => r.live)

/-- Plan disagreement holds: a LIVE record has plan-mismatch set (R77). -/
def PeerTable.disagreement (pt : PeerTable) : Bool := pt.records.any (fun r => r.live && r.mismatch)

/-! ### The part's own state read by several blocks -/

/-- AMP KEY is on in AMP-ON, TRANSMIT and TAIL (R162). -/
def State.ampKey (s : State) : Bool :=
  match s.ks.state with
  | .ampOn | .transmit | .tail => true
  | _ => false

/-- RADIO INHIBIT is asserted in every state except TRANSMIT (R162). -/
def State.radioInhibit (s : State) : Bool := s.ks.state != .transmit

/-- LEAVING with case DUPLICATE: the part sends nothing (R34). -/
def State.leavingSilently (s : State) : Bool :=
  s.jc.state == .leaving && s.jc.leaving == some .duplicate

/-- A slot record. -/
def State.slot (s : State) (i : Slot) : SlotRecord := s.ct.slots.get i

/-- A slot record replaced. -/
def State.setSlot (s : State) (i : Slot) (r : SlotRecord) : State :=
  s.setCt { s.ct with slots := s.ct.slots.set i r }

/-- The four slots. -/
def allSlots : List Slot := [.main, .aux, .nextA, .nextB]

/-- A counter that saturates at its maximum (1.5). -/
def satSucc (limit n : Nat) : Nat := min limit (n + 1)

/-! ### Line sets (R173) -/

/-- The antenna line of an antenna. -/
def antBit (a : Antenna) : BitVec 32 := if 1 ≤ a ∧ a ≤ 32 then 1#32 <<< (a - 1) else 0

/-- The filter line of a band. -/
def filterBit (b : Band) : BitVec 10 := if 1 ≤ b ∧ b ≤ 10 then 1#10 <<< (b - 1) else 0

/-- The combiner member lines of the places of a mask, for group number g (R127). -/
def memberBits (g : Nat) (m : Mask) : BitVec 12 :=
  ((if m &&& 4 != 0 then 1#12 else 0) ||| (if m &&& 2 != 0 then 2#12 else 0) |||
    (if m &&& 1 != 0 then 4#12 else 0)) <<< (3 * (g - 1))

/-- The tap lines that carry a count of members, for group number g: TAP-1 for 1, TAP-2 for 2, both for 3 (R127). -/
def tapBits (g count : Nat) : BitVec 8 :=
  (if count = 1 then 1#8 else if count = 2 then 2#8 else if count = 3 then 3#8 else 0) <<< (2 * (g - 1))

/-- The member lines a mask takes at a port (R128). -/
def State.portMemberBits (s : State) (port : Antenna) (m : Mask) : BitVec 12 :=
  match s.groupOf port with
  | some (n, g) => memberBits n (m &&& g.present)
  | none => 0

/-- The union of two line sets. -/
def Lines.or (x y : Lines) : Lines := ⟨x.ant ||| y.ant, x.filter ||| y.filter, x.member ||| y.member, x.tap ||| y.tap⟩

/-- The lines common to two sets. -/
def Lines.and (x y : Lines) : Lines := ⟨x.ant &&& y.ant, x.filter &&& y.filter, x.member &&& y.member, x.tap &&& y.tap⟩

/-- The lines of x that are not in y. -/
def Lines.diff (x y : Lines) : Lines :=
  ⟨x.ant &&& ~~~y.ant, x.filter &&& ~~~y.filter, x.member &&& ~~~y.member, x.tap &&& ~~~y.tap⟩

/-- The lines in exactly one of two sets. -/
def Lines.xor (x y : Lines) : Lines := ⟨x.ant ^^^ y.ant, x.filter ^^^ y.filter, x.member ^^^ y.member, x.tap ^^^ y.tap⟩

/-- Every line. -/
def Lines.every : Lines := ⟨BitVec.allOnes 32, BitVec.allOnes 10, BitVec.allOnes 12, BitVec.allOnes 8⟩

/-- The antenna lines of RXONLY antennas: the AUX path (R174). -/
def State.auxPathAnt (s : State) : BitVec 32 :=
  (List.range 32).foldl
    (fun acc i => if (s.antenna (i + 1)).kind == .rxonly then acc ||| antBit (i + 1) else acc) 0

/-- The AUX antenna lines as a line set. -/
def State.auxPath (s : State) : Lines := ⟨s.auxPathAnt, 0, 0, 0⟩

/-- The MAIN-path lines: every line that is no AUX antenna line (10.2, R151). -/
def State.mainPath (s : State) : Lines := Lines.every.diff s.auxPath

end Sys2Proof.Machine
end

