-- ==== Sys2Proof/Machine/Operands.lean ====
section
/-! DEFINITION. Machine/Operands.lean: how operands are read: the plan memory's bytes with checks and clamping (R16 to R22, 13.2), the fields of received frames (R64), the characters of the radio line (R1), and how values are coded into frames (13.1). -/

namespace Sys2Proof.Machine

/-! ### Radio characters (R1) -/

/-- The classes of a radio character (R1). -/
inductive CharClass
  | hash
  | digit (v : Nat)
  | hexLetter (v : Nat)
  | cr
  | other
  deriving DecidableEq, Repr

/-- A character sorted into its class; a framing error is OTHER (R1). -/
def charClass (c : Byte) (framingError : Bool) : CharClass :=
  let n := c.toNat
  if framingError then .other
  else if n = 35 then .hash
  else if 48 ≤ n ∧ n ≤ 57 then .digit (n - 48)
  else if 65 ≤ n ∧ n ≤ 70 then .hexLetter (n - 55)
  else if n = 13 then .cr
  else .other

/-! ### Plan memory (13.2) -/

/-- The stored value of one byte. -/
def byteAt (l : List Byte) (i : Nat) : Nat := (l.getD i 0).toNat

/-- Bit k of a stored byte. -/
def bitAt (l : List Byte) (i k : Nat) : Bool := (l.getD i 0).getLsbD k

/-- A two-byte value, most significant byte first (13.2). -/
def word16At (l : List Byte) (i : Nat) : Nat := 256 * byteAt l i + byteAt l (i + 1)

/-- A three-byte value, most significant byte first (13.2). -/
def word24At (l : List Byte) (i : Nat) : Nat := 65536 * byteAt l i + 256 * byteAt l (i + 1) + byteAt l (i + 2)

/-- A value brought into its range (R18). -/
def clampTo (lo hi x : Nat) : Nat := max lo (min hi x)

/-- A band table entry read at a byte offset, edges clamped (R18, 13.2). -/
def readBandEntry (l : List Byte) (at_ : Nat) : BandEntry :=
  { lower := min 1000000 (word24At l at_), upper := min 1000000 (word24At l (at_ + 3)),
    spacing := byteAt l (at_ + 6), single := bitAt l (at_ + 7) 7, warn := bitAt l (at_ + 7) 6 }

/-- The kind a code names; the codes outside the five kinds read as ABSENT (R20, 13.2). -/
def kindOfCode (n : Nat) : Kind :=
  match n with
  | 1 => .main
  | 2 => .rxonly
  | 3 => .stackPort
  | 4 => .member
  | _ => .absent

/-- The character a label code is shown as (R22). -/
def labelChar (c : BitVec 6) : Char :=
  let n := c.toNat
  if 1 ≤ n ∧ n ≤ 26 then Char.ofNat (64 + n)
  else if 27 ≤ n ∧ n ≤ 36 then Char.ofNat (21 + n)
  else if n = 37 then '-'
  else if n = 38 then '/'
  else ' '

/-- The characters a label is shown as (R22). -/
def labelText (l : Label) : List Char := [labelChar l.c1, labelChar l.c2, labelChar l.c3]

/-- A position number in label codes: its decimal digits, left aligned (R22, R59; log 48). -/
def positionLabel (p : Position) : Label :=
  let digit (n : Nat) : BitVec 6 := BitVec.ofNat 6 (27 + n)
  if p.toNat < 10 then ⟨digit p.toNat, 0, 0⟩ else ⟨digit 1, digit (p.toNat - 10), 0⟩

/-- A label code in bits 5-0 of a byte (13.2). -/
def labelCodeAt (l : List Byte) (i : Nat) : BitVec 6 := (l.getD i 0).truncate 6

/-- An antenna table entry read at a byte offset (R20, 13.2). -/
def readAntennaEntry (l : List Byte) (at_ : Nat) : AntennaEntry :=
  let kind := kindOfCode (byteAt l at_ / 32)
  { kind := kind,
    coverage := BitVec.ofNat 10 (word16At l (at_ + 1)),
    capacity := if kind = .rxonly then clampTo 1 4 (byteAt l at_ % 16) else 1,
    owner := if bitAt l (at_ + 3) 7 then some ((l.getD (at_ + 3) 0).truncate 4) else none,
    label := ⟨labelCodeAt l (at_ + 4), labelCodeAt l (at_ + 5), labelCodeAt l (at_ + 6)⟩ }

/-- The kind of an antenna number in a table under load; ABSENT outside 1..32. -/
def kindIn (antennas : List AntennaEntry) (a : Antenna) : Kind :=
  if a = 0 then .absent else (antennas.getD (a - 1) absentAntenna).kind

/-- A stored group is enabled, given the antennas that earlier enabled groups use (R21). -/
def groupEnabled (antennas : List AntennaEntry) (used : List Antenna) (port m1 m2 m3 : Nat) : Bool :=
  let named := [m1, m2] ++ (if m3 = 0 then [] else [m3])
  decide (1 ≤ port ∧ port ≤ 32) && kindIn antennas port == .stackPort &&
    decide (1 ≤ m1 ∧ m1 ≤ 32 ∧ 1 ≤ m2 ∧ m2 ≤ 32 ∧ m3 ≤ 32) &&
    named.all (fun m => kindIn antennas m == .member) && decide (port :: named).Nodup &&
    (port :: named).all (fun a => !used.contains a)

/-- The default mask read over the members present; a mask left empty is all of them (R21). -/
def defaultMask (stored : Mask) (m3 : Nat) : Mask :=
  let present : Mask := if m3 = 0 then 6 else 7
  if stored &&& present = 0 then present else stored &&& present

/-- The four stack groups, examined in index order (R21, 13.2). -/
def readGroups (l : List Byte) (antennas : List AntennaEntry) :
    List Nat → List Antenna → List GroupEntry
  | [], _ => []
  | at_ :: rest, used =>
    let port := byteAt l at_
    let m1 := byteAt l (at_ + 1)
    let m2 := byteAt l (at_ + 2)
    let m3 := byteAt l (at_ + 3)
    let ok := groupEnabled antennas used port m1 m2 m3
    { enabled := ok, port := port, m1 := m1, m2 := m2, m3 := m3,
      mask := defaultMask ((l.getD (at_ + 4) 0).truncate 3) m3 } ::
      readGroups l antennas rest (if ok then port :: m1 :: m2 :: m3 :: used else used)

/-- A row of the per-position table read at a byte offset; an antenna number above 32 reads as 0 (R18, 13.2). -/
def readRow (l : List Byte) (at_ : Nat) : PositionRow :=
  { mayCommand := bitAt l at_ 7, acceptCommands := bitAt l at_ 6, autoGive := bitAt l at_ 5,
    priority := (l.getD at_ 0).truncate 2,
    defaults := (List.range 10).map (fun i =>
      let a := byteAt l (at_ + 1 + i)
      if a ≤ 32 then a else 0) }

/-- The timing values, clamped; W_min before W_max (R18, R19, 13.2). -/
def readTiming (l : List Byte) : Timing :=
  let wMin := clampTo 10 100 (byteAt l 512)
  { periodCode := min 12 (byteAt l 506), tSeq := clampTo 5 50 (byteAt l 507),
    tBreak := clampTo 5 50 (byteAt l 508), tMake := clampTo 5 100 (byteAt l 509),
    tFreqHalves := clampTo 1 10 (byteAt l 510), askLife := clampTo 8 63 (byteAt l 511),
    wMin := wMin, wMax := clampTo wMin 500 (word16At l 513), atkImm := clampTo 1 15 (byteAt l 515),
    atkDly := clampTo 1 15 (byteAt l 516), failSafe := bitAt l 517 7 }

/-- The clamped plan of a stored plan section (R18 to R22, 13.2). -/
def readPlan (l : List Byte) : Plan :=
  let antennas := (List.range 32).map (fun i => readAntennaEntry l (84 + 7 * i))
  { bands := (List.range 10).map (fun i => readBandEntry l (4 + 8 * i)),
    antennas := antennas,
    groups := readGroups l antennas [308, 313, 318, 323] [],
    harmonic := ⟨byteAt l 328, bitAt l 329 7, bitAt l 329 6, bitAt l 329 5⟩,
    rows := (List.range 16).map (fun i => readRow l (330 + 11 * i)),
    timing := readTiming l }

/-- The read reached the last byte, 518 (13.2, R23; log 25). -/
def readWhole (l : List Byte) : Bool := 519 ≤ l.length

/-- The unit section passes its check (R16). -/
def unitOk (l : List Byte) : Bool := readWhole l && crcBytes (l.take 3) == l.getD 3 0

/-- The CRC-8 over the plan section as stored, its own check left out (R17). -/
def planCrc (l : List Byte) : BitVec 8 := crcBytes ((l.drop 4).take 514)

/-- The plan section passes its check (R17). -/
def planOk (l : List Byte) : Bool := readWhole l && planCrc l == l.getD 518 0

/-- The Plan Store after the read (R16, R17, R24, R25). -/
def storeAfterRead (l : List Byte) : PlanStore :=
  { preferred := if unitOk l then (l.getD 0 0).truncate 4 else 0,
    fixedNumber := unitOk l && bitAt l 0 7,
    token := if unitOk l then BitVec.ofNat 16 (word16At l 1) else 0,
    planValid := planOk l,
    planCheck := if planOk l then planCrc l else 0,
    plan := if planOk l then some (readPlan l) else none }

/-! ### Fields of received frames (R64) -/

/-- A frequency code: the top code is invalid, codes above 1,000,000 read as 1,000,000 (R64). -/
def readFreq (c : BitVec 20) : Freq := if c = 1048575 then none else some (min 1000000 c.toNat)

/-- A band code: 11 to 15 read as 0 (R64). -/
def readBand (c : BitVec 4) : Band := if c.toNat ≤ 10 then c.toNat else 0

/-- A period code: 13 to 15 read as 12 (R64). -/
def readPeriodCode (c : BitVec 4) : Nat := min 12 c.toNat

/-- The duration of a QUIET: 0 reads as 1 s (R182). -/
def readDuration (c : BitVec 8) : Nat := max 1 c.toNat

/-- The cadence a code names; code 3 never passes R43. -/
def cadenceOfCode (c : BitVec 2) : Cadence :=
  match c.toNat with
  | 0 => .single
  | 1 => .double
  | _ => .quad

/-- The slots a slice carries (R82). -/
def sliceSlots (c : Cadence) (slice : Nat) : List Slot :=
  match c, slice with
  | .single, _ => [.main, .aux, .nextA, .nextB]
  | .double, 0 => [.main, .aux]
  | .double, _ => [.nextA, .nextB]
  | .quad, 0 => [.main]
  | .quad, 1 => [.aux]
  | .quad, 2 => [.nextA]
  | .quad, _ => [.nextB]

/-- The slots a received STATUS carries. -/
def statusSlots (f : StatusFrame) : List Slot := sliceSlots (cadenceOfCode f.cadence) f.slice.toNat

/-- The slots with the entries a STATUS carries for them. -/
def statusEntries (f : StatusFrame) : List (Slot × EntryCode) := (statusSlots f).zip f.entries

/-- The ask a STATUS head carries; antenna 0 is no ask (R64, R202). -/
def statusAsk (f : StatusFrame) : Option (Position × Antenna) :=
  if f.askAntenna = 0 then none else some (f.askTarget, f.askAntenna.toNat)

/-- The answer a STATUS head carries; antenna 0 or code 0 is no answer (R64, R202). -/
def statusAnswer (f : StatusFrame) : Option (Position × Antenna × AnswerKind) :=
  if f.answerAntenna = 0 then none
  else if f.answer = 1 then some (f.answerTarget, f.answerAntenna.toNat, .keep)
  else if f.answer = 2 then some (f.answerTarget, f.answerAntenna.toNat, .giving)
  else none

/-- A release reason's code names YIELDED, etc. (13.1); codes 5..7 never pass R43. -/
def reasonOfCode (c : BitVec 3) : ReleaseReason :=
  match c.toNat with
  | 0 => .voluntary
  | 1 => .yielded
  | 2 => .lost
  | 3 => .selfDrop
  | _ => .rejoin

/-! ### Coding values into frames (13.1) -/

/-- A frequency as sent: an invalid F is the top code (R13, 13.1). -/
def freqCode (f : Freq) : BitVec 20 :=
  match f with
  | none => 1048575
  | some n => BitVec.ofNat 20 n

/-- A band as sent. -/
def bandCode (b : Band) : BitVec 4 := BitVec.ofNat 4 b

/-- An antenna as sent, 0 for none. -/
def antennaCode (a : Antenna) : BitVec 6 := BitVec.ofNat 6 a

/-- A tenure as sent. -/
def tenureCode (t : Nat) : BitVec 6 := BitVec.ofNat 6 t

/-- A cadence as sent. -/
def cadenceCode : Cadence → BitVec 2
  | .single => 0
  | .double => 1
  | .quad => 2

/-- A release reason as sent. -/
def reasonCode : ReleaseReason → BitVec 3
  | .voluntary => 0
  | .yielded => 1
  | .lost => 2
  | .selfDrop => 3
  | .rejoin => 4

/-- The slices of a round (R82). -/
def sliceCount : Cadence → Nat
  | .single => 1
  | .double => 2
  | .quad => 4

/-- The frame interval: P, P/2 or P/4 (R82). -/
def State.frameInterval (s : State) (c : Cadence) : Nat := s.period / sliceCount c

end Sys2Proof.Machine
end

