-- ==== Sys2Proof/Machine/Flags.lean ====
section
/-! DEFINITION. Machine/Flags.lean: what the Interlock Evaluator computes from the part's state: the inhibit reasons, the warnings, key rank and the key order marks (Chapter 9). -/

namespace Sys2Proof.Machine

/-! ### The peers that are judged (R153) -/

/-- A counted peer: LIVE, not in standby, frequency valid (R153). -/
def PeerRecord.counted (r : PeerRecord) : Bool := r.live && !r.standby && r.freq.isSome

/-- A counted peer that is keyed on the own band b; band 0 is no band (R157, R158). -/
def State.keyedOnBand (s : State) (r : PeerRecord) : Bool :=
  r.counted && r.keyed && r.band == s.fu.band && s.fu.band != 0

/-- The own key is announced (R157). -/
def State.announced (s : State) : Bool := s.ampKey

/-- The priority class read for a peer: its own as announced, else the own plan's for that number, 3
while no plan is in force (R59). -/
def State.peerPriority (s : State) (r : PeerRecord) : Priority :=
  match r.priority with
  | some p => p
  | none =>
    match s.row r.pos with
    | some row => row.priority
    | none => 3

/-- The order of two ranks: tenure, greater first; then class, 0 first; then position, lower first (R108, R159). -/
def rankBefore (t1 : Nat) (c1 : Priority) (p1 : Position) (t2 : Nat) (c2 : Priority) (p2 : Position) : Bool :=
  decide (t2 < t1) || (t1 == t2 && (decide (c1.toNat < c2.toNat) || (c1 == c2 && decide (p1.toNat < p2.toNat))))

/-- The peer ranks before this part by key rank (R159). -/
def State.peerKeyRanksFirst (s : State) (r : PeerRecord) : Bool :=
  rankBefore r.keyTenure (s.peerPriority r) r.pos s.ks.keyTenureLink s.ownPriority s.self

/-- The key order mark of a peer, if any (R144). -/
def State.markOf (s : State) (p : Position) : Option KeyMark :=
  (s.ie.marks.find? (fun m => m.1 == p)).map (fun m => m.2)

/-- A counted keyed peer on b is ahead of this part (R157). -/
def State.peerAhead (s : State) (r : PeerRecord) : Bool :=
  if s.announced then s.markOf r.pos == some .earlier else true

/-! ### Spacing and harmonics (R154, R155) -/

/-- The distance of two counts. -/
def distance (x y : Nat) : Nat := (x - y) + (y - x)

/-- A spacing conflict stands with the peer (R154). -/
def State.spacingConflict (s : State) (r : PeerRecord) : Bool :=
  match s.fu.freq, r.freq with
  | some f, some fp =>
    r.counted && r.band == s.fu.band && s.fu.band != 0 &&
      decide ((s.bandEntry s.fu.band).spacing ≠ 0 ∧
        distance f fp < (s.bandEntry s.fu.band).spacing * 10)
  | _, _ => false

/-- The harmonic guard in force; none while no plan is. -/
def State.harmonic (s : State) : Option Harmonic := s.ps.plan.map (fun p => p.harmonic)

/-- The guard checks harmonic k (R155). -/
def Harmonic.enables (h : Harmonic) (k : Nat) : Bool := (k == 2 && h.h2) || (k == 3 && h.h3)

/-- A conflict of kind HARMONIC k stands with the peer (R155). -/
def State.harmonicConflict (s : State) (k : Nat) (r : PeerRecord) : Bool :=
  match s.fu.freq, r.freq, s.harmonic with
  | some f, some fp, some h =>
    r.counted && h.enables k && decide (h.guardKHz ≠ 0 ∧ distance (k * f) fp < h.guardKHz * 10 * k)
  | _, _, _ => false

/-- Spacing conflicts have action WARN on the own band (R154). -/
def State.spacingWarns (s : State) : Bool := (s.bandEntry s.fu.band).warn

/-- Harmonic conflicts have action WARN (R155). -/
def State.harmonicWarns (s : State) : Bool :=
  match s.harmonic with
  | some h => h.warn
  | none => false

/-- The warnings of one kind, in position order. -/
def State.warningsOf (s : State) (kind : WarningKind) (hit : PeerRecord → Bool) :
    List (WarningKind × Position) :=
  (s.pt.records.filter hit).map (fun r => (kind, r.pos))

/-- The warning set as it stands (R156), in order of kind and then position (R144). -/
def State.warningSet (s : State) : List (WarningKind × Position) :=
  (if s.spacingWarns then s.warningsOf .spacing s.spacingConflict else []) ++
    (if s.harmonicWarns then
      s.warningsOf .harmonic2 (s.harmonicConflict 2) ++ s.warningsOf .harmonic3 (s.harmonicConflict 3)
    else [])

/-! ### The inhibit reasons (R145) -/

/-- The MAIN-path lines are not settled on their target (R151). -/
def State.switching (s : State) : Bool :=
  (s.rd.lines.xor s.rd.target).and s.mainPath != .none || (s.rd.state != .steady && s.rd.movesMain)

/-- The filter line that is on is not the line of b (R152). -/
def State.filterWrong (s : State) : Bool :=
  s.fu.freq.isSome && s.fu.band != 0 && s.rd.lines.filter != filterBit s.fu.band

/-- BAND_BUSY holds (R157). -/
def State.bandBusy (s : State) : Bool :=
  (s.bandEntry s.fu.band).single && s.fu.band != 0 &&
    s.pt.records.any (fun r => s.keyedOnBand r && s.peerAhead r)

/-- One inhibit reason holds (R145, R148 to R157). -/
def State.inhibits (s : State) : Reason → Bool
  | .notJoined =>
    match s.jc.state with
    | .load | .listen | .probe | .unnumbered | .leaving => true
    | _ => false
  | .plan => s.jc.state == .unplanned
  | .duplicate => s.jc.state == .duplicate
  | .standby => s.cu.standby
  | .stationQuiet => s.cu.quiet.isSome
  | .linkLost => s.pt.linkLost && s.timing.failSafe
  | .noFreq => s.fu.freq.isNone
  | .outOfBand => s.fu.freq.isSome && s.fu.band == 0
  | .noAntenna => (s.slot .main).held.isNone
  | .antBand =>
    match (s.slot .main).held with
    | some h => !(s.antenna h.antenna).covers s.fu.band
    | none => false
  | .switching => s.switching
  | .filter => s.filterWrong
  | .bandBusy => s.bandBusy
  | .spacing => !s.spacingWarns && s.pt.records.any s.spacingConflict
  | .harmonic =>
    !s.harmonicWarns && s.pt.records.any (fun r => s.harmonicConflict 2 r || s.harmonicConflict 3 r)

/-- The fifteen reasons in reporting order (R145). -/
def allReasons : List Reason :=
  [.notJoined, .plan, .duplicate, .standby, .stationQuiet, .linkLost, .noFreq, .outOfBand, .noAntenna,
    .antBand, .switching, .filter, .bandBusy, .spacing, .harmonic]

/-- The first reason that holds, in reporting order (R145). -/
def State.reasonNow (s : State) : Option Reason := allReasons.find? s.inhibits

/-- An evaluation: permit, reason and warning set formed from the inputs as they stand (R146). -/
def State.evaluate (s : State) : State :=
  s.setIe { s.ie with permit := s.reasonNow.isNone, reason := s.reasonNow, warnings := s.warningSet }

/-! ### Key order marks (R158 to R160) -/

/-- A KEY on frame told to the Interlock Evaluator with its flags (R72). -/
inductive KeyHeard
  | nothing
  | plainOn (p : Position)
  | assertOn (p : Position)
  deriving DecidableEq, Repr

/-- The mark key rank gives a peer (R158). -/
def State.rankMark (s : State) (r : PeerRecord) : KeyMark :=
  if s.peerKeyRanksFirst r then .earlier else .later

/-- The peer starts to count as a keyed peer on b between two states: it did not count before, the own
band has changed, or another unit's record has replaced it (R158, R160). -/
def startsKeyed (before s : State) (r : PeerRecord) : Bool :=
  before.fu.band != s.fu.band ||
    match before.pt.find r.pos with
    | none => true
    | some r0 => !before.keyedOnBand r0 || (r0.token.isSome && r.token.isSome && r0.token != r.token)

/-- The mark of one peer after a change (R158, R160). -/
def markAfter (heard : KeyHeard) (before s : State) (r : PeerRecord) : Option (Position × KeyMark) :=
  if s.keyedOnBand r then
    if startsKeyed before s r then
      some (r.pos, if heard = .plainOn r.pos then .later else s.rankMark r)
    else
      match s.markOf r.pos with
      | some m => some (r.pos, if heard = .assertOn r.pos then s.rankMark r else m)
      | none => none
  else none

/-- The key order marks after a change: none while the own key is not announced (R158, R160). -/
def State.remark (heard : KeyHeard) (before s : State) : State :=
  s.setIe { s.ie with
    marks := if s.announced then s.pt.records.filterMap (markAfter heard before s) else [] }

end Sys2Proof.Machine
end

