-- ==== Sys2Proof/Machine/Link.lean ====
section
/-! DEFINITION. Machine/Link.lean: the Link Controller's operations: the transmit queue with its coalescing, held offers and withdrawals (R47 to R51), the line error count and window adaptation (R44, R56, R57). -/

namespace Sys2Proof.Machine

/-! ### Frames by kind -/

/-- The frame is a STATUS. -/
def isStatus (f : LinkFrame) : Bool :=
  match f.body with
  | .status _ => true
  | _ => false

/-- The frame is a KEY. -/
def isKey (f : LinkFrame) : Bool :=
  match f.body with
  | .key _ => true
  | _ => false

/-- The frame is a KEY on without the assert flag. -/
def isPlainKeyOn (f : LinkFrame) : Bool :=
  match f.body with
  | .key k => k.on && !k.isAssert
  | _ => false

/-- The frame is a COMMAND. -/
def isCommand (f : LinkFrame) : Bool :=
  match f.body with
  | .command _ _ => true
  | _ => false

/-- The frame is a RELEASE. -/
def isRelease (f : LinkFrame) : Bool :=
  match f.body with
  | .release _ => true
  | _ => false

/-- The frame is a PROBE. -/
def isProbe (f : LinkFrame) : Bool :=
  match f.body with
  | .probe _ => true
  | _ => false

/-- The frame is a CLAIM, plain or assert, for a slot and an antenna. -/
def isClaimFor (i : Slot) (a : Antenna) (f : LinkFrame) : Bool :=
  match f.body with
  | .claim c => c.slot == i && c.antenna.toNat == a
  | _ => false

/-- The frame is a plain CLAIM for a slot and an antenna. -/
def isPlainClaimFor (i : Slot) (a : Antenna) (f : LinkFrame) : Bool :=
  match f.body with
  | .claim c => c.slot == i && c.antenna.toNat == a && !c.isAssert
  | _ => false

/-! ### The transmit queue (R47) -/

/-- The class value of a queued frame (R47). -/
def QueueEntry.cls (e : QueueEntry) : Nat := e.frame.body.classValue

/-- Enters a frame in the queue's order: by class, then after those of its class (R47). -/
def enqueue (e : QueueEntry) : List QueueEntry → List QueueEntry
  | [] => [e]
  | x :: xs => if x.cls ≤ e.cls then x :: enqueue e xs else e :: x :: xs

/-- The entry in flight, if any (R40). -/
def flying (q : List QueueEntry) : Option QueueEntry := q.find? (fun e => e.inFlight)

/-- The frames in flight, in queue order. -/
def flights (q : List QueueEntry) : List LinkFrame := (q.filter (fun e => e.inFlight)).map (fun e => e.frame)

/-- An entry in flight satisfies p. -/
def flyingIs (p : LinkFrame → Bool) (q : List QueueEntry) : Bool := q.any (fun e => e.inFlight && p e.frame)

/-- The first unsent frame that satisfies p. -/
def unsent (p : LinkFrame → Bool) (q : List QueueEntry) : Option LinkFrame :=
  (q.find? (fun e => !e.inFlight && p e.frame)).map (fun e => e.frame)

/-- The queue without its unsent frames that satisfy p. -/
def dropUnsent (p : LinkFrame → Bool) (q : List QueueEntry) : List QueueEntry :=
  q.filter (fun e => e.inFlight || !p e.frame)

/-- The queue with f in the place of its unsent frames that satisfy p. -/
def replaceUnsent (p : LinkFrame → Bool) (f : LinkFrame) (q : List QueueEntry) : List QueueEntry :=
  q.map (fun e => if !e.inFlight && p e.frame then { e with frame := f } else e)

/-- The queue with its frames in flight that satisfy p marked for withdrawal (R51). -/
def markFlying (p : LinkFrame → Bool) (q : List QueueEntry) : List QueueEntry :=
  q.map (fun e => if e.inFlight && p e.frame then { e with withdraw := true } else e)

/-- What becomes of an offer (R47 to R50). -/
inductive OfferResult
  | entered | displacing | heldOffer | replaced | cancelled | refused
  deriving DecidableEq, Repr

/-- An offer that does not coalesce (R50, R52). -/
def LinkCtl.enter (lc : LinkCtl) (f : LinkFrame) : LinkCtl × OfferResult :=
  if lc.queue.length < 8 then ({ lc with queue := enqueue ⟨f, false, false⟩ lc.queue }, .entered)
  else if f.body.classValue < 4 && (unsent isStatus lc.queue).isSome then
    ({ lc with queue := enqueue ⟨f, false, false⟩ (dropUnsent isStatus lc.queue) }, .displacing)
  else ({ lc with overflows := satSucc 255 lc.overflows }, .refused)

/-- A frame offered to the queue: the held offers of R49, the coalescing of R48, else R50. A KEY off
that meets an unsent KEY off takes its place (R47 allows one KEY; log 17). -/
def LinkCtl.offer (lc : LinkCtl) (f : LinkFrame) : LinkCtl × OfferResult :=
  match f.body with
  | .status _ =>
    if flyingIs isStatus lc.queue then ({ lc with heldStatus := some f }, .heldOffer)
    else if (unsent isStatus lc.queue).isSome then
      ({ lc with queue := replaceUnsent isStatus f lc.queue }, .replaced)
    else lc.enter f
  | .key k =>
    if flyingIs isKey lc.queue then ({ lc with heldKey := some f }, .heldOffer)
    else
      match unsent isKey lc.queue with
      | some old =>
        if !k.on && isPlainKeyOn old then ({ lc with queue := dropUnsent isKey lc.queue }, .cancelled)
        else ({ lc with queue := replaceUnsent isKey f lc.queue }, .replaced)
      | none => lc.enter f
  | .release r =>
    if (unsent (isClaimFor r.slot r.antenna.toNat) lc.queue).isSome then
      ({ lc with queue := dropUnsent (isClaimFor r.slot r.antenna.toNat) lc.queue }, .cancelled)
    else lc.enter f
  | _ => lc.enter f

/-- A frame offered by a block of the part: a displaced STATUS leaves the Status Generator with none
outstanding (R50, R88). -/
def State.offer (s : State) (f : LinkFrame) : State × OfferResult :=
  let r := s.lc.offer f
  let s := s.setLc r.1
  (if r.2 = .displacing then s.setSg { s.sg with outstanding := none } else s, r.2)

/-- A withdrawal request for the frames that satisfy p: unsent ones and held offers go at once, one in
flight is marked (R51). -/
def LinkCtl.withdraw (lc : LinkCtl) (p : LinkFrame → Bool) : LinkCtl :=
  { lc with queue := markFlying p (dropUnsent p lc.queue), heldStatus := lc.heldStatus.filter (fun f => !p f),
            heldKey := lc.heldKey.filter (fun f => !p f) }

/-- The frames a withdrawal request removes at once (R51). -/
def LinkCtl.withdrawn (lc : LinkCtl) (p : LinkFrame → Bool) : List LinkFrame :=
  ((lc.queue.filter (fun e => !e.inFlight && p e.frame)).map (fun e => e.frame)) ++
    (lc.heldStatus.filter p).toList ++ (lc.heldKey.filter p).toList

/-- The frames of the part that satisfy p withdrawn (R51). -/
def State.withdraw (s : State) (p : LinkFrame → Bool) : State := s.setLc (s.lc.withdraw p)

/-- Only the unsent frames that satisfy p removed: the request of step 3 of R110. -/
def State.withdrawUnsent (s : State) (p : LinkFrame → Bool) : State :=
  s.setLc { s.lc with queue := dropUnsent p s.lc.queue }

/-- The frame in flight, if it satisfies p: the frame a completion event is about (R46; log 5). -/
def State.flight (s : State) (p : LinkFrame → Bool) : Option LinkFrame :=
  match flying s.lc.queue with
  | some e => if p e.frame then some e.frame else none
  | none => none

/-- The receiver after a whole frame: FRAME ends in IDLE, and no other state is left by one (R38; log 6). -/
def Receiver.afterFrame : Receiver → Receiver
  | .frame => .idle
  | r => r

/-- At completion the frame leaves the queue, and the line is free again (R38, R46; log 6). -/
def State.landed (s : State) : State :=
  s.setLc { s.lc with
    queue := s.lc.queue.filter (fun e => !e.inFlight), receiver := s.lc.receiver.afterFrame }

/-- The receiver gathers a frame: in SYNC and IDLE none comes in (R38, R43; log 6). -/
def State.gathering (s : State) : Bool := s.lc.receiver == .frame

/-- After a frame from another sender the line is free again, unless a frame of the part is in flight
(R38; log 6). -/
def State.heardFrame (s : State) : State :=
  s.setLc { s.lc with receiver := if (flying s.lc.queue).isSome then .frame else .idle }

/-- The first frame that is not in flight goes into flight (R40, R47). -/
def launchHead : List QueueEntry → List QueueEntry
  | [] => []
  | e :: q => if e.inFlight then e :: launchHead q else { e with inFlight := true } :: q

/-! ### Line errors and window adaptation (R44, R56, R57) -/

/-- The level raised by one, staying at 15 (R56, R57). -/
def raiseLevel (n : Nat) : Nat := satSucc 15 n

/-- One line error event (R44, R56). A count that a new plan's ATK_IMM has already reached is judged at the next
event (log 59). -/
def State.lineError (s : State) : State :=
  let n := s.lc.errorCount + 1
  if s.timing.atkImm ≤ n then
    s.setLc { s.lc with lineErrors := satSucc 255 s.lc.lineErrors, level := raiseLevel s.lc.level, errorCount := 0 }
  else s.setLc { s.lc with lineErrors := satSucc 255 s.lc.lineErrors, errorCount := n }

/-- The level at the end of an adaptation period (R57). -/
def levelAtPeriodEnd (atkDly count level : Nat) : Nat :=
  if atkDly ≤ count then raiseLevel level else if count = 0 then level - 1 else level

/-! ### Answers on the panel (R195) -/

/-- The answer replaced by a key's answer (R195). -/
def State.answerKey (s : State) (c : Instr) (o : PanelOutcome) : State :=
  s.setPi { s.pi with answer := some ⟨.key ((encodeKey c).getD 0), o⟩ }

/-- The answer replaced by a block's report (R195). -/
def State.report (s : State) (b : Block) (o : PanelOutcome) : State :=
  s.setPi { s.pi with answer := some ⟨.block b, o⟩ }

end Sys2Proof.Machine
end

