-- ==== Sys2Proof/Machine/Status.lean ====
section
/-! DEFINITION. Machine/Status.lean: the Status Generator's operations: what a STATUS carries, building and offering it, and the choice of cadence (Chapter 5). -/

namespace Sys2Proof.Machine

/-- The entry a STATUS carries for a slot (R84, R126). -/
def slotEntry (r : SlotRecord) : EntryCode :=
  match r.cand with
  | some ⟨a, m, .window _, _, _, _⟩ => ⟨antennaCode a, m, 0⟩
  | _ =>
    match r.held with
    | some h =>
      match h.grow with
      | some ⟨m, .window _, _⟩ => ⟨antennaCode h.antenna, m, 0⟩
      | _ => ⟨antennaCode h.antenna, h.mask, tenureCode h.tenure⟩
    | none =>
      match r.freeing.getLast? with
      | some p => ⟨antennaCode p.antenna, p.mask, tenureCode p.tenure⟩
      | none => ⟨0, 0, 0⟩

/-- The part's own label: that of the antenna entry numbered its position number plus one (R22). -/
def State.ownLabel (s : State) : Label := (s.antenna (s.self.toNat + 1)).label

/-- The ask field of a STATUS head: target and antenna, 0 while none is standing (R83, R202). -/
def askFields : OutAsk → Position × BitVec 6
  | .standing target a _ _ _ => (target, antennaCode a)
  | _ => (0, 0)

/-- The answer fields of a STATUS head, all 0 while there is none (R83, 13.1). -/
def answerFields : Option OutAnswer → Position × BitVec 6 × BitVec 2
  | none => (0, 0, 0)
  | some ⟨p, a, .keep⟩ => (p, antennaCode a, 1)
  | some ⟨p, a, .giving⟩ => (p, antennaCode a, 2)

/-- The STATUS for a cadence and slice, built from the state as it stands (R83 to R85). -/
def State.statusBody (s : State) (c : Cadence) (slice : Nat) : StatusFrame :=
  { cadence := cadenceCode c, slice := BitVec.ofNat 2 slice,
    periodCode := BitVec.ofNat 4 s.timing.periodCode, freq := freqCode s.fu.freq,
    band := bandCode s.fu.band, keyed := s.ampKey, standby := s.cu.standby,
    planValid := s.ps.planValid, linkLost := s.pt.linkLost, keyTenure := tenureCode s.ks.keyTenure,
    priority := s.ownPriority, planCheck := s.ps.planCheck, askTarget := (askFields s.hu.ask).1,
    askAntenna := (askFields s.hu.ask).2, askKind := 0, answerTarget := (answerFields s.hu.answer).1,
    answerAntenna := (answerFields s.hu.answer).2.1, answer := (answerFields s.hu.answer).2.2,
    entries := (sliceSlots c slice).map (fun i => slotEntry (s.slot i)),
    ident := if c = .single then some (s.ownLabel, s.ps.token) else none }

/-- The STATUS for the cadence in force and the slice index as they stand (R86). -/
def State.statusFrame (s : State) : LinkFrame :=
  ⟨s.self, .status (s.statusBody s.sg.cadence s.sg.slice)⟩

/-- Builds and offers a STATUS, which becomes the outstanding frame unless refused (R86, R88). While
STOPPED nothing is built (R81). -/
def State.offerStatus (s : State) : State :=
  if s.sg.running then
    let r := s.offer s.statusFrame
    r.1.setSg { r.1.sg with
      outstanding := if r.2 = .refused then none else some (s.sg.cadence, s.sg.slice) }
  else s

/-- The wanted cadence (R90). -/
def State.wantedCadence (s : State) : Cadence :=
  match s.ks.state with
  | .announce | .ampOn | .transmit | .tail => .quad
  | _ => if s.sg.recent.isRunning then .double else .single

/-- The cadence chosen at a round end (R91). -/
def State.roundCadence (s : State) : Cadence :=
  if 4 ≤ s.lc.queue.length || s.cu.standby || s.sg.obligation then .single else s.wantedCadence

/-- The round has ended: the next round's cadence comes into force, with the timer restarted if it
differs (R91). -/
def State.roundEnd (s : State) : State :=
  let c := s.roundCadence
  s.setSg { s.sg with
    slice := 0, cadence := c,
    interval := if c = s.sg.cadence then s.sg.interval else s.timerFor (s.frameInterval c) }

/-- The renewal ages of slots set to 0, their self-drop notified marks cleared (R87, R93). -/
def State.renewSlots (s : State) (l : List Slot) : State :=
  s.setSg { s.sg with
    renewed := l.foldl (fun x i => x.set i s.now) s.sg.renewed,
    notified := l.foldl (fun x i => x.set i false) s.sg.notified }

/-- The Status Generator becomes STOPPED (R95). -/
def State.stopStatus (s : State) : State :=
  s.setSg { s.sg with running := false, interval := .stopped, outstanding := none }

/-- The Status Generator becomes RUNNING at entry to RUN and offers its first SINGLE frame (R95). -/
def State.startStatus (s : State) : State :=
  let s := s.setSg { s.sg with
    running := true, cadence := .single, slice := 0, renewed := .all s.now, notified := .all false,
    obligation := true, outstanding := none, interval := s.timerFor s.period }
  s.offerStatus

end Sys2Proof.Machine
end

