-- ==== Sys2Proof/Machine/Keyer.lean ====
section
/-! DEFINITION. Machine/Keyer.lean: the Key Sequencer's operations: judging a press, announcing, the tail, KEY frames and the refusal count (10.1). -/

namespace Sys2Proof.Machine

/-- KEY on outstanding: a plain KEY on of the part stands in the queue, in flight or held (R162, R166). -/
def LinkCtl.hasKeyOn (lc : LinkCtl) : Bool :=
  lc.queue.any (fun e => isPlainKeyOn e.frame) || (lc.heldKey.filter isPlainKeyOn).isSome

/-- The outstanding mark follows the notices: it stands while a plain KEY on has had none (R162; log 16). -/
def State.syncKeyOn (s : State) : State :=
  s.setKs { s.ks with keyOnOutstanding := s.lc.hasKeyOn }

/-- A KEY frame with the band and frequency as they stand (R169). -/
def State.keyFrame (s : State) (on isAssert : Bool) (tenure : Nat) : LinkFrame :=
  ⟨s.self, .key ⟨on, isAssert, bandCode s.fu.band, freqCode s.fu.freq, tenureCode tenure⟩⟩

/-- A KEY frame offered. -/
def State.offerKey (s : State) (f : LinkFrame) : State × OfferResult :=
  let r := s.offer f
  (r.1.syncKeyOn, r.2)

/-- A KEY off built and offered, except in LEAVING with case DUPLICATE (R167, R169). -/
def State.offerKeyOff (s : State) : State :=
  if s.leavingSilently then s else (s.offerKey (s.keyFrame false false s.ks.keyTenure)).1

/-- An assert KEY built and offered, except in LEAVING with case DUPLICATE (R169, R170). -/
def State.offerKeyAssert (s : State) : State :=
  if s.leavingSilently then s else (s.offerKey (s.keyFrame true true s.ks.keyTenure)).1

/-- The refusal count raised by one; from 9999 it wraps and the overflow mark is set (R171). -/
def State.countRefusal (s : State) : State :=
  if 9999 ≤ s.ks.refusals then s.setKs { s.ks with refusals := 0, overflowMark := true }
  else s.setKs { s.ks with refusals := s.ks.refusals + 1 }

/-- The sequencer enters LOCKOUT and the refusal count rises (R163, R171). -/
def State.lockOut (s : State) (r : Option LockReason) : State :=
  (s.setKs { s.ks with state := .lockout, lockout := r }).countRefusal

/-- The sequencer enters ANNOUNCE with a KEY on offered; a refused one takes it to LOCKOUT with QUEUE (R163). -/
def State.announceKey (s : State) : State :=
  let r := (s.setKs { s.ks with state := .announce }).offerKey (s.keyFrame true false 0)
  if r.2 = .refused then r.1.lockOut (some .queue) else r.1

/-- A press judged by the permit and reason as they stand and by the obligation (R163). -/
def State.judgePress (s : State) : State :=
  if s.ie.permit then
    if s.sg.obligation then s.setKs { s.ks with state := .keyWait } else s.announceKey
  else
    match s.ie.reason with
    | some .switching => s.setKs { s.ks with state := .keyWait }
    | some r => s.lockOut (some (.inhibit r))
    | none => s.lockOut none

/-- The transmission ends: RADIO INHIBIT asserted, the tail begun, a KEY off offered (R167). -/
def State.startTail (s : State) (cause : TailCause) (lockout : Option LockReason) : State :=
  (s.setKs { s.ks with
    state := .tail, timer := s.timerFor (Config.ms s.timing.tSeq), tailCause := some cause,
    lockout := lockout }).offerKeyOff

/-- What the Key Sequencer does when told of the permit and reason (R147, R164, R167). -/
def State.sequencerTold (s : State) : State :=
  match s.ks.state with
  | .keyWait => s.judgePress
  | .ampOn | .transmit => if s.ie.permit then s else s.startTail .drop (s.ie.reason.map .inhibit)
  | _ => s

/-- The Interlock Evaluator evaluates and the Key Sequencer takes what it is told (R146, R147). -/
def State.interlockTurn (s : State) : State := s.evaluate.sequencerTold

/-- Notice that frames of the part have been withdrawn, as the Key Sequencer takes it: a KEY on
withdrawn in ANNOUNCE for a cause other than PTT release ends in LOCKOUT (R166). -/
def State.keyWithdrawn (s : State) (frames : List LinkFrame) : State :=
  let s := s.syncKeyOn
  if frames.any isPlainKeyOn && s.ks.state == .announce && !s.ks.keyOnOutstanding then
    s.lockOut (s.reasonNow.map .inhibit)
  else s

/-- The held KEY is offered when its flight has ended; a KEY on refused in ANNOUNCE ends in LOCKOUT with
QUEUE (R49, R163). -/
def State.offerHeldKey (s : State) : State :=
  match s.lc.heldKey with
  | none => s
  | some f =>
    let r := (s.setLc { s.lc with heldKey := none }).offerKey f
    if r.2 = .refused ∧ isPlainKeyOn f = true ∧ r.1.ks.state = .announce then r.1.lockOut (some .queue) else r.1

/-- The key tenure raised by one at its period timer's expiry, held at 63 (R169). -/
def State.raiseKeyTenure (s : State) : State :=
  let t := satSucc 63 s.ks.keyTenure
  s.setKs { s.ks with
    keyTenure := t, tenurePeriod := if 63 ≤ t then .stopped else s.timerFor s.period }

/-- The Relay Driver is in a transition that moves a MAIN-path line (R165). -/
def State.mainMoving (s : State) : Bool := s.rd.state != .steady && s.rd.movesMain

/-- The read at the completion of the part's own KEY on, in ANNOUNCE (R165). A permit already false gives its
own reason, a MAIN-path transition that also runs notwithstanding (log 57). -/
def State.announceRead (s : State) : State :=
  if s.ie.permit && !s.mainMoving then
    s.setKs { s.ks with
      state := .ampOn, timer := s.timerFor (Config.ms s.timing.tSeq), keyTenure := 0,
      tenurePeriod := s.timerFor s.period }
  else
    s.offerKeyOff.lockOut
      (some (.inhibit (if s.ie.permit then .switching else s.ie.reason.getD .switching)))

end Sys2Proof.Machine
end

