-- ==== Sys2Proof/Machine/Peers.lean ====
section
/-! DEFINITION. Machine/Peers.lean: the Peer Table's operations: creating and applying frames to records, expiry and removal (Chapter 4). -/

namespace Sys2Proof.Machine

/-! ### Records and their limits -/

/-- The sender's status period as the record holds it, the own P while its code is absent (R59). -/
def State.peerPeriod (s : State) (r : PeerRecord) : Nat :=
  periodOf (r.periodCode.getD s.timing.periodCode)

/-- The limit of the ages in a record: 9 x P_s (R69 to R71). -/
def State.peerLimit (s : State) (r : PeerRecord) : Nat := 9 * s.peerPeriod r

/-- A record as creation leaves it (R61). -/
def PeerRecord.fresh (p : Position) (now : Nat) : PeerRecord :=
  { pos := p, live := false, slotsReported := .all false, token := none, label := none,
    priority := none, planInfo := none, periodCode := none, freq := none, band := 0, keyed := false,
    keyTenure := 0, standby := false, linkLost := false, ask := none, answer := none,
    entries := .all none, headSince := now, mismatch := false }

/-- Puts a record into its place in position order, in the place of one of its number (R59). -/
def putRecord (r : PeerRecord) : List PeerRecord → List PeerRecord
  | [] => [r]
  | x :: xs =>
    if x.pos.toNat < r.pos.toNat then x :: putRecord r xs
    else if x.pos = r.pos then r :: xs
    else r :: x :: xs

/-- The frame's sender carries the part's own position number (R60). -/
def State.isOwn (s : State) (p : Position) : Bool := s.jc.number == some p

/-- The record a frame from p is applied to: the one there is, or a new one where R60 allows it. -/
def State.recordFor (s : State) (p : Position) : Option PeerRecord :=
  if s.isOwn p then none
  else
    match s.pt.find p with
    | some r => some r
    | none => if s.pt.records.length < 15 then some (PeerRecord.fresh p s.now) else none

/-- A record put back into the table. -/
def State.putPeer (s : State) (r : PeerRecord) : State :=
  s.setPt { s.pt with records := putRecord r s.pt.records }

/-- Plan-mismatch of a record (R77). -/
def State.mismatchOf (s : State) (r : PeerRecord) : Bool :=
  match r.planInfo with
  | some (check, valid) => valid && s.ps.plan.isSome && check != s.ps.planCheck
  | none => false

/-! ### Entries -/

/-- The entry a received code sets; antenna 0 is none (R64). -/
def entryOf (a : BitVec 6) (m : Mask) (t : BitVec 6) (now : Nat) : Option PeerEntry :=
  if a = 0 then none else some ⟨a.toNat, m, t.toNat, now⟩

/-- The entry is of antenna a. -/
def entryIs (a : Antenna) (e : Option PeerEntry) : Bool :=
  match e with
  | some e => e.antenna == a
  | none => false

/-- The entries with those of antenna a in slots outside a list made absent (R65, R66). -/
def clearElsewhere (a : Antenna) (keep : List Slot) (x : Slots (Option PeerEntry)) : Slots (Option PeerEntry) :=
  allSlots.foldl (fun x i => if !keep.contains i && entryIs a (x.get i) then x.set i none else x) x

/-- The entries after a STATUS: the slice replaced, its antennas absent elsewhere (R65). -/
def applyEntries (f : StatusFrame) (now : Nat) (x : Slots (Option PeerEntry)) : Slots (Option PeerEntry) :=
  let x := (statusEntries f).foldl (fun x e => x.set e.1 (entryOf e.2.antenna e.2.mask e.2.tenure now)) x
  (statusEntries f).foldl
    (fun x e => if e.2.antenna = 0 then x else clearElsewhere e.2.antenna.toNat (statusSlots f) x) x

/-- The entries present whose age has reached a limit made absent (R69, R70). -/
def expireEntries (now limit : Nat) (x : Slots (Option PeerEntry)) : Slots (Option PeerEntry) :=
  allSlots.foldl
    (fun x i =>
      match x.get i with
      | some e => if e.since + limit ≤ now then x.set i none else x
      | none => x) x

/-- The record has no entry present. -/
def PeerRecord.noEntries (r : PeerRecord) : Bool := r.present.isEmpty

/-- All four slots have been reported (R62). -/
def allReported (x : Slots Bool) : Bool := x.main && x.aux && x.nextA && x.nextB

/-! ### Removal (R72) -/

/-- A peer's record has gone: the latch and a KEEP for it are emptied, and its reservations end
(R113, R139, R142). -/
def State.peerGone (s : State) (p : Position) : State :=
  let hu := s.hu
  let hu := match hu.latch with
    | some l => if l.asker = p then { hu with latch := none } else hu
    | none => hu
  let hu := match hu.answer with
    | some ⟨a, _, .keep⟩ => if a = p then { hu with answer := none, keepTimer := .stopped } else hu
    | _ => hu
  (s.setHu hu).setCt { s.ct with reservations := s.ct.reservations.filter (fun r => r.position != p) }

/-- The record of p removed, with what its readers do at any removal; nothing where there is none. -/
def State.removePeer (s : State) (p : Position) : State :=
  if (s.pt.find p).isSome then
    (s.setPt { s.pt with records := s.pt.records.filter (fun r => r.pos != p) }).peerGone p
  else s

/-- The record of p removed by expiry; link lost follows (R71, R75). -/
def State.expirePeer (s : State) (p : Position) : State :=
  let s := s.removePeer p
  s.setPt { s.pt with linkLost := s.pt.linkLost || (s.pt.liveSeen && !s.pt.anyLive) }

/-- Every record removed, with the link-lost flag and the live-seen mark cleared (R80). -/
def State.emptyPeers (s : State) : State :=
  let s := s.pt.records.foldl (fun s r => s.removePeer r.pos) s
  s.setPt { s.pt with liveSeen := false, linkLost := false }

/-! ### Applying frames (R61 to R68) -/

/-- The head, label, token and entries of a record after a STATUS (R65). -/
def State.statusRecord (s : State) (f : StatusFrame) (r : PeerRecord) : PeerRecord :=
  let r : PeerRecord := { r with
    periodCode := some (readPeriodCode f.periodCode), freq := readFreq f.freq, band := readBand f.band,
    keyed := f.keyed, keyTenure := f.keyTenure.toNat, standby := f.standby, linkLost := f.linkLost,
    planInfo := some (f.planCheck, f.planValid), priority := some f.priority, ask := statusAsk f,
    answer := statusAnswer f,
    token := (f.ident.map (fun i => i.2)).orElse (fun _ => r.token),
    label := (f.ident.map (fun i => i.1)).orElse (fun _ => r.label),
    entries := applyEntries f s.now r.entries,
    slotsReported := (statusSlots f).foldl (fun x i => x.set i true) r.slotsReported,
    headSince := s.now }
  { r with live := r.live || allReported r.slotsReported, mismatch := s.mismatchOf r }

/-- Another unit sends with the number: the tokens are known and differ (R63). -/
def tokenDiffers (f : StatusFrame) (r : PeerRecord) : Bool :=
  match f.ident, r.token with
  | some (_, t), some t0 => t != t0
  | _, _ => false

/-- A STATUS applied to the table (R61 to R65, R69, R75). -/
def State.applyStatus (s : State) (p : Position) (f : StatusFrame) : State :=
  match s.recordFor p with
  | none => s
  | some r0 =>
    let replaced := tokenDiffers f r0
    let s := if replaced then s.removePeer p else s
    let r0 := if replaced then PeerRecord.fresh p s.now else r0
    let r := s.statusRecord f r0
    let r := if s.peerPeriod r0 = s.peerPeriod r then r
      else { r with entries := expireEntries s.now (s.peerLimit r) r.entries }
    let s := s.putPeer r
    if r.live && !r0.live then s.setPt { s.pt with linkLost := false } else s

/-- A CLAIM applied to the table (R66). -/
def State.applyClaim (s : State) (p : Position) (f : ClaimFrame) : State :=
  match s.recordFor p with
  | none => s
  | some r =>
    let x := r.entries.set f.slot (entryOf f.antenna f.mask f.tenure s.now)
    let x := if f.antenna = 0 then x else clearElsewhere f.antenna.toNat [f.slot] x
    s.putPeer { r with entries := x, priority := some f.priority, headSince := s.now }

/-- The entry after a RELEASE of antenna a: emptied, without the member, or as it was (R67). -/
def State.releasedEntry (s : State) (a : Antenna) (e : PeerEntry) : Option PeerEntry :=
  if e.antenna = a then none
  else
    let place := s.placeIn e.antenna a
    if e.mask &&& place = 0 then some e
    else if e.mask &&& ~~~place &&& s.placesOf e.antenna = 0 then none
    else some { e with mask := e.mask &&& ~~~place }

/-- A RELEASE applied to the table (R67). -/
def State.applyRelease (s : State) (p : Position) (f : ReleaseFrame) : State :=
  match s.recordFor p with
  | none => s
  | some r =>
    s.putPeer { r with
      entries := r.entries.set f.slot ((r.entries.get f.slot).bind (s.releasedEntry f.antenna.toNat)),
      headSince := s.now }

/-- A KEY applied to the table (R68). -/
def State.applyKey (s : State) (p : Position) (f : KeyFrame) : State :=
  match s.recordFor p with
  | none => s
  | some r =>
    s.putPeer { r with
      keyed := f.on, band := readBand f.band, freq := readFreq f.freq, keyTenure := f.tenure.toNat,
      headSince := s.now }

/-- Every record's plan-mismatch recomputed (R77). -/
def State.recomputeMismatch (s : State) : State :=
  s.setPt { s.pt with records := s.pt.records.map (fun r => { r with mismatch := s.mismatchOf r }) }

end Sys2Proof.Machine
end

