-- ==== Sys2Proof/Machine/Claims.lean ====
section
/-! DEFINITION. Machine/Claims.lean: the Claim Table's operations: the local checks, requests, candidates, holds and freeing, assert and rank, the wait list, auto-select and promotion (Chapters 6 and 7). -/

namespace Sys2Proof.Machine

/-! ### What the part's own slots use -/

/-- The antennas a slot has: HELD, FREEING and candidate (R96). -/
def SlotRecord.antennas (r : SlotRecord) : List Antenna :=
  (r.held.map (fun h => h.antenna)).toList ++ r.freeing.map (fun p => p.antenna) ++
    (r.cand.map (fun c => c.antenna)).toList

/-- The mask a held part claims or is claiming: its held mask, with its grow's (R119). -/
def HeldPart.fullMask (h : HeldPart) : Mask :=
  match h.grow with
  | some g => h.mask ||| g.mask
  | none => h.mask

/-- The members joined by the ports a slot has (R99 check 10). -/
def State.slotMembers (s : State) (r : SlotRecord) : List Antenna :=
  (match r.held with
    | some h => s.membersOf h.antenna h.fullMask
    | none => []) ++
  r.freeing.flatMap (fun p => s.membersOf p.antenna p.mask) ++
  (match r.cand with
    | some c => s.membersOf c.antenna c.mask
    | none => [])

/-- The antennas every slot has. -/
def State.ownAntennas (s : State) : List Antenna := allSlots.flatMap (fun i => (s.slot i).antennas)

/-- The members joined by the part's own ports. -/
def State.ownMembers (s : State) : List Antenna := allSlots.flatMap (fun i => s.slotMembers (s.slot i))

/-- The part holds antenna n: HELD in a slot, or a member in the held mask of a HELD port (R117). -/
def State.holds (s : State) (n : Antenna) : Bool :=
  allSlots.any (fun i =>
    match (s.slot i).held with
    | some h => (s.uses h.antenna h.mask).contains n
    | none => false)

/-! ### Local checks (R97, R99) -/

/-- The kinds a slot takes (R97). -/
def slotTakes (i : Slot) (k : Kind) : Bool :=
  match i with
  | .aux => k == .rxonly
  | _ => k == .main || k == .member || k == .stackPort

/-- The antenna is private to this position (R78). -/
def State.privateHere (s : State) (a : Antenna) : Bool :=
  (s.antenna a).owner.isSome && (s.antenna a).owner == s.jc.number

/-- The antenna is private to another position (R99 check 4). -/
def State.privateElsewhere (s : State) (a : Antenna) : Bool :=
  (s.antenna a).owner.isSome && (s.antenna a).owner != s.jc.number

/-- A yield grace reservation holds the antenna for another position (R113). -/
def State.reservedElsewhere (s : State) (a : Antenna) : Bool :=
  s.ct.reservations.any (fun r => r.antenna == a && some r.position != s.jc.number)

/-- ABSENT, or a STACKPORT that is the port of no enabled group (R99 check 2, R134 check 2, R198). -/
def State.noSuchAntenna (s : State) (a : Antenna) : Bool :=
  (s.antenna a).kind == .absent || ((s.antenna a).kind == .stackPort && !s.isPort a)

/-- A disabled group names the antenna as its port, so every claim of it is refused (R21): a MEMBER stays
claimable on its own feedline, and the port of an enabled group stays that group's (log 49). -/
def State.disabledPort (s : State) (a : Antenna) : Bool :=
  match s.ps.plan with
  | some p => p.groups.any (fun g => !g.enabled && g.port == a) && !s.isPort a && (s.antenna a).kind != .member
  | none => false

/-- Check 10: the antenna or a member of its mask is already this part's (R99; log 21). -/
def State.isMine (s : State) (i : Slot) (a : Antenna) (m : Mask) : Bool :=
  allSlots.any (fun j => j != i && ((s.slot j).antennas).contains a) ||
    ((s.slot i).freeing.any (fun p => p.antenna == a)) ||
    (s.membersOf a m).any (fun x => s.ownAntennas.contains x) || s.ownMembers.contains a

/-- The part takes no new claim: not in RUN, or the first full status is owed (R92, R99 check 1). -/
def State.claimsClosed (s : State) : Bool := s.jc.state != .run || s.sg.obligation

/-- The local checks of a new claim, in order: the first that fails (R99, with R21 in check 2). -/
def State.localCheck (s : State) (i : Slot) (a : Antenna) (m : Mask) : Option Denial :=
  if s.claimsClosed then some .notRunning
  else if s.noSuchAntenna a || s.disabledPort a then some .noSuchAntenna
  else if !slotTakes i (s.antenna a).kind then some .wrongKind
  else if s.privateElsewhere a then some .privateOwner
  else if i == .main && s.fu.band != 0 && !(s.antenna a).covers s.fu.band then some .notCovered
  else if s.ct.relearn.isRunning then some .relearn
  else if s.pt.linkLost then some .linkLost
  else if s.pt.disagreement && !s.privateHere a then some .planDiff
  else if s.reservedElsewhere a then some .reserved
  else if s.isMine i a m then some .mine
  else
    match s.firstFull (s.uses a m) with
    | some x => some (s.fullDenial x)
    | none => none

/-- A refusal that may wait: BUSY or FULL (R99, R101). -/
def Denial.waitable : Denial → Bool
  | .busy | .full => true
  | _ => false

/-! ### Masks of new port claims (R120) -/

/-- The mask of a port claim into a slot: for MAIN the panel mask where it names a present member, else
the default; 0 for an antenna that is no port (R120). -/
def State.claimMask (s : State) (i : Slot) (a : Antenna) : Mask :=
  match s.groupOf a with
  | none => 0
  | some (_, g) =>
    match i, s.ct.panelMask with
    | .main, some m => if m &&& g.present = 0 then g.mask else m &&& g.present
    | _, _ => g.mask

/-- The panel mask is consumed by a MAIN claim of a port (R120). -/
def State.consumeMask (s : State) (i : Slot) (a : Antenna) : State :=
  if i = .main ∧ s.isPort a = true then s.setCt { s.ct with panelMask := none } else s

/-! ### Frames of the Claim Table (R100, R107, R110) -/

/-- A CLAIM frame. -/
def State.claimFrame (s : State) (i : Slot) (a : Antenna) (m : Mask) (isAssert : Bool) (t : Nat) : LinkFrame :=
  ⟨s.self, .claim ⟨i, antennaCode a, m, isAssert, tenureCode t, s.ownPriority⟩⟩

/-- A RELEASE frame; the yield-to is sent as 0 where there is none (R202). -/
def State.releaseFrame (s : State) (i : Slot) (a : Antenna) (reason : ReleaseReason)
    (yieldTo : Option Position) : LinkFrame :=
  ⟨s.self, .release ⟨i, antennaCode a, reasonCode reason, yieldTo.isSome, yieldTo.getD 0⟩⟩

/-- A RELEASE offered after the unsent CLAIMs for its slot and antenna have been withdrawn (R100, R110
step 3); in LEAVING with case DUPLICATE none is offered, as if refused (R34). -/
def State.offerRelease (s : State) (i : Slot) (a : Antenna) (reason : ReleaseReason)
    (yieldTo : Option Position) : State × OfferResult :=
  if s.leavingSilently then (s, .refused)
  else (s.withdrawUnsent (isClaimFor i a)).offer (s.releaseFrame i a reason yieldTo)

/-- The pacing mark of a slot's hold or candidate of antenna a set to now (R107). -/
def SlotRecord.paced (r : SlotRecord) (a : Antenna) (now : Nat) : SlotRecord :=
  { r with
    held := r.held.map (fun h => if h.antenna = a then { h with lastAssert := some now } else h),
    cand := r.cand.map (fun c => if c.antenna = a then { c with lastAssert := some now } else c) }

/-- An assert CLAIM offered; a refused one is not retried (R107, R115, R123, R126). -/
def State.offerAssert (s : State) (i : Slot) (a : Antenna) (m : Mask) (t : Nat) : State :=
  let r := s.offer (s.claimFrame i a m true t)
  if r.2 = .refused then r.1 else r.1.setSlot i ((r.1.slot i).paced a r.1.now)

/-- The pacing of R107 allows an assert for slot and antenna. -/
def State.mayAssert (s : State) (i : Slot) (a : Antenna) (last : Option Nat) : Bool :=
  (unsent (isClaimFor i a) s.lc.queue).isNone &&
    match last with
    | some t => t + s.window ≤ s.now
    | none => true

/-! ### Hand-over notices (R141) -/

/-- A GIVING answer to a position about one of some antennas has gone out or lapsed (R141). -/
def State.givingDone (s : State) (asker : Position) (antennas : List Antenna) : State :=
  match s.hu.answer with
  | some ⟨p, a, .giving⟩ =>
    if p = asker ∧ antennas.contains a = true then s.setHu { s.hu with answer := none } else s
  | _ => s

/-- The GIVING of a freeing part that yields is done (R141). -/
def State.givingPartDone (s : State) (p : FreeingPart) : State :=
  match p.yieldTo with
  | some y => s.givingDone y (s.uses p.antenna p.mask)
  | none => s

/-- Member hand-overs of a port that are dropped lapse (R129; log 22). -/
def State.handOversLapse (s : State) (h : HeldPart) : State :=
  let s := match h.shrink with
    | some ⟨m, some y⟩ => s.givingDone y (s.membersOf h.antenna (h.mask &&& ~~~m))
    | _ => s
  match h.give with
  | some (a, y) => s.givingDone y [a]
  | none => s

/-! ### Giving up a hold (R109, R110) -/

/-- The slot's HELD part becomes FREEING; its shrink, grow and deferred give are dropped (R110, R128). -/
def State.freeHold (s : State) (i : Slot) (reason : ReleaseReason) (yieldTo : Option Position) : State :=
  match (s.slot i).held with
  | none => s
  | some h =>
    let r := s.slot i
    (s.setSlot i { r with
      held := none,
      freeing := r.freeing ++
        [⟨h.antenna, h.mask, h.drive, h.tenure, h.tenureLink, reason, yieldTo, false⟩] }).handOversLapse h

/-- The slot's candidate is dropped: a QUEUED one has its CLAIM withdrawn, a WINDOW one sends a RELEASE
at once (R98, R104, R109, R114). -/
def State.dropCandidate (s : State) (i : Slot) (reason : ReleaseReason) : State :=
  match (s.slot i).cand with
  | none => s
  | some c =>
    let s1 := s.setSlot i { s.slot i with cand := none }
    match c.phase with
    | .queued => s1.withdraw (isPlainClaimFor i c.antenna)
    | .window _ => (s1.offerRelease i c.antenna reason none).1

/-- A drop request for a slot (R109): a WINDOW candidate's RELEASE is offered before the hold's (log 68). -/
def State.dropSlot (s : State) (i : Slot) : State :=
  (s.freeHold i .voluntary none).dropCandidate i .voluntary

/-- A self-drop notice for a slot (R109): a QUEUED candidate stays, and a WINDOW candidate's RELEASE is offered before
the hold's (log 68). -/
def State.selfDrop (s : State) (i : Slot) : State :=
  let s := s.freeHold i .selfDrop none
  match (s.slot i).cand with
  | some ⟨_, _, .window _, _, _, _⟩ => s.dropCandidate i .selfDrop
  | _ => s

/-! ### New claims (R98, R100, R101) -/

/-- The wait entry of an antenna. -/
def State.waitEntry (s : State) (a : Antenna) : Option WaitEntry :=
  s.ct.waitList.find? (fun e => e.antenna == a)

/-- The wait entry of an antenna removed. -/
def State.unwait (s : State) (a : Antenna) : State :=
  s.setCt { s.ct with waitList := s.ct.waitList.filter (fun e => e.antenna != a) }

/-- Whether a service pass is due for a candidate that the queue's refusal of its CLAIM took out (R100, R112). -/
def State.owePass (s : State) (due : Bool) : State := s.setCt { s.ct with passDue := due }

/-- A claim that passed the checks: any candidate of the slot is dropped, the new one is QUEUED and its
CLAIM offered; a refused CLAIM removes it again, and a service pass is due (R98, R100, R112). -/
def State.startClaim (s : State) (i : Slot) (a : Antenna) (m : Mask) (waits : Bool) : State × PanelOutcome :=
  let s := (s.unwait a).dropCandidate i .voluntary
  let s := s.setSlot i { s.slot i with cand := some ⟨a, m, .queued, waits, none, false⟩ }
  let r := s.offer (s.claimFrame i a m false 0)
  if r.2 = .refused then
    ((r.1.setSlot i { r.1.slot i with cand := none }).owePass true, .denied .queue)
  else (r.1, .accepted)

/-- A wait entry placed at the tail; none answers WAITFULL (R101, R111). -/
def State.placeWait (s : State) (e : WaitEntry) : State × PanelOutcome :=
  if s.ct.waitList.length < 4 then (s.setCt { s.ct with waitList := s.ct.waitList ++ [e] }, .waiting)
  else (s, .denied .waitFull)

/-- A new claim run through the checks, with waiting or without (R98, R99, R101). A wait entry that stood before keeps
its own wait flag, under auto-select too (R102, R114; log 20). A direct request that passes removes the entry and is a
new claim of its own (R98): where an ask placed the entry, it does not count as the ask's claim, which R102 and R136 leave
open (log 74). -/
def State.newClaim (s : State) (i : Slot) (a : Antenna) (m : Mask) (waits always : Bool) :
    State × PanelOutcome :=
  match s.localCheck i a m with
  | none => s.startClaim i a m always
  | some d =>
    if d.waitable && waits then
      if (s.waitEntry a).isSome then (s, .waiting) else s.placeWait ⟨a, i, m, always⟩
    else (s, .denied d)

/-! ### Reshaping a held port (R122 to R126) -/

/-- The checks a grow passes for its added members (R125). -/
def State.growCheck (s : State) (added : List Antenna) : Option Denial :=
  if s.claimsClosed then some .notRunning
  else if s.ct.relearn.isRunning then some .relearn
  else if s.pt.linkLost then some .linkLost
  else if s.pt.disagreement && added.any (fun a => !s.privateHere a) then some .planDiff
  else if added.any s.reservedElsewhere then some .reserved
  else if added.any (fun a => s.ownAntennas.contains a || s.ownMembers.contains a) then some .mine
  else
    match s.firstFull added with
    | some x => some (s.fullDenial x)
    | none => none

/-- A grow begun: recorded QUEUED and its CLAIM offered; a refused CLAIM drops it (R125). -/
def State.startGrow (s : State) (i : Slot) (h : HeldPart) (full : Mask) (andThen : Option Mask) :
    State × PanelOutcome :=
  match s.growCheck (s.membersOf h.antenna (full &&& ~~~h.mask)) with
  | some d => (s, .denied d)
  | none =>
    let r := s.offer (s.claimFrame i h.antenna full false 0)
    if r.2 = .refused then (r.1, .denied .queue)
    else
      (r.1.setSlot i { r.1.slot i with held := some { h with grow := some ⟨full, .queued, andThen⟩ } },
        .accepted)

/-- A reshape of the HELD port in MAIN to a mask (R122); `present` are the group's places. -/
def State.reshape (s : State) (h : HeldPart) (present requested : Mask) : State × PanelOutcome :=
  let m := requested &&& present
  if s.jc.state != .run then (s, .denied .notRunning)
  else if m = 0 then (s, .denied .mask)
  else if h.shrink.isSome || h.grow.isSome || (s.slot .main).cand.isSome then (s, .denied .reshaping)
  else if m = h.mask then (s, .accepted)
  else if m &&& ~~~h.mask = 0 then
    (s.setSlot .main { s.slot .main with held := some { h with shrink := some ⟨m, none⟩ } }, .accepted)
  else
    s.startGrow .main h (h.mask ||| m) (if h.mask &&& ~~~m = 0 then none else some m)

/-! ### Promotion (R115) -/

/-- The NEXT slot whose HELD part is antenna a, if any. -/
def State.nextHolding (s : State) (a : Antenna) : Option Slot :=
  [Slot.nextA, Slot.nextB].find? (fun i =>
    match (s.slot i).held with
    | some h => h.antenna == a
    | none => false)

/-- The HELD part of a NEXT slot moves into MAIN (R115). -/
def State.promote (s : State) (n : Slot) : State :=
  match (s.slot n).held with
  | none => s
  | some h =>
    let s := (s.dropCandidate .main .voluntary).freeHold .main .voluntary none
    let s := s.setSlot n { s.slot n with held := none }
    let s := s.setSlot .main { s.slot .main with held := some { h with drive := h.mask } }
    s.offerAssert .main h.antenna h.mask h.tenure

/-- A MAIN request for an antenna HELD in a NEXT slot: NOT_RUNNING and NOT_COVERED alone are checked (R115). -/
def State.requestPromotion (s : State) (n : Slot) (a : Antenna) : State × PanelOutcome :=
  if s.claimsClosed then (s, .denied .notRunning)
  else if s.fu.band != 0 && !(s.antenna a).covers s.fu.band then (s, .denied .notCovered)
  else (s.promote n, .accepted)

/-! ### Claim requests (R98) -/

/-- The slot has neither a HELD part nor a candidate. -/
def State.slotOpen (s : State) (i : Slot) : Bool := (s.slot i).held.isNone && (s.slot i).cand.isNone

/-- The slot a NEXT request goes to (R98). -/
def State.nextSlot (s : State) : Slot := if s.slotOpen .nextA then .nextA else .nextB

/-- A claim request for a slot (R98 to R101, R115, R120, R122): `waits` is wait mode for this request,
`always` marks one that waits whatever the flag. -/
def State.request (s : State) (i : Slot) (a : Antenna) (waits always : Bool) : State × PanelOutcome :=
  match (if i = .main then s.nextHolding a else none) with
  | some n => s.requestPromotion n a
  | none =>
    let m := s.claimMask i a
    let s := s.consumeMask i a
    if ((s.slot i).held.map (fun h => h.antenna)) = some a then
      match i, (s.slot i).held, s.groupOf a with
      | .main, some h, some (_, g) => if m = h.mask then (s, .accepted) else s.reshape h g.present m
      | _, _, _ => (s, .accepted)
    else
      match (s.slot i).cand with
      | some c =>
        if c.antenna = a then
          (s, if i = .main ∧ s.isPort a = true ∧ c.mask ≠ m then .denied .reshaping else .accepted)
        else s.newClaim i a m waits always
      | none => s.newClaim i a m waits always

/-! ### Service of the wait list (R111 to R113) -/

/-- A service pass may be made (R112). -/
def State.serviceOpen (s : State) : Bool :=
  !s.claimsClosed && !s.ct.relearn.isRunning && !s.pt.linkLost

/-- One wait entry taken in a pass (R112); the flag says that its CLAIM was refused. An entry that passes
the checks consumes the panel mask, one that fails them does not (R120; log 53). -/
def State.serveEntry (s : State) (e : WaitEntry) : State × Bool :=
  if (s.slot e.slot).cand.isSome then (s, false)
  else if s.pt.disagreement && !s.privateHere e.antenna then (s, false)
  else
    match s.localCheck e.slot e.antenna e.mask with
    | none =>
      let r := (s.consumeMask e.slot e.antenna).startClaim e.slot e.antenna e.mask e.waits
      if r.2 = .accepted then (r.1, false) else (r.1.report .ct r.2, true)
    | some d =>
      if d.waitable || d == .notCovered || d == .reserved then (s, false)
      else ((s.unwait e.antenna).report .ct (.denied d), false)

/-- The entries of a list taken in order; the flag says that some CLAIM was refused. -/
def State.serveEntries (s : State) : List WaitEntry → State × Bool
  | [] => (s, false)
  | e :: es =>
    let r := s.serveEntry e
    let q := r.1.serveEntries es
    (q.1, r.2 || q.2)

/-- Service passes: another one follows while a CLAIM refused in the last left a slot without its
candidate (R112). -/
def servicePasses : Nat → State → State
  | 0, s => s
  | n + 1, s =>
    if s.serviceOpen then
      let r := s.serveEntries s.ct.waitList
      if r.2 then servicePasses n r.1 else r.1
    else s

/-- A service pass over the wait list (R112). -/
def State.servicePass (s : State) : State := servicePasses (s.ct.waitList.length + 1) s

/-- The entry for an antenna yielded to this part is served ahead of the others (R113); while no pass may be
made it stays untouched (R112; log 51). -/
def State.serveFirst (s : State) (a : Antenna) : State :=
  match s.waitEntry a with
  | some e => if s.serviceOpen then (s.serveEntry e).1 else s
  | none => s

/-! ### Auto-select (R114) -/

/-- The MAIN slot has a candidate or a HELD part that covers b. -/
def State.mainCovers (s : State) : Bool :=
  (match (s.slot .main).cand with
    | some c => (s.antenna c.antenna).covers s.fu.band
    | none => false) ||
  (match (s.slot .main).held with
    | some h => (s.antenna h.antenna).covers s.fu.band
    | none => false)

/-- The NEXT slot whose HELD part covers b, NEXT-A first (R114 step 2). -/
def State.nextCovering (s : State) : Option Slot :=
  [Slot.nextA, Slot.nextB].find? (fun i =>
    match (s.slot i).held with
    | some h => (s.antenna h.antenna).covers s.fu.band
    | none => false)

/-- The default MAIN antenna of the own row for b, 0 for none (R114 step 3). -/
def State.defaultMain (s : State) : Antenna :=
  match s.ownRow with
  | some r => if s.fu.band = 0 then 0 else r.defaults.getD (s.fu.band - 1) 0
  | none => 0

/-- A refusal met by auto-select is shown; other outcomes are not (R114, R195). -/
def State.showRefusal (r : State × PanelOutcome) : State :=
  match r.2 with
  | .denied d => r.1.report .ct (.denied d)
  | _ => r.1

/-- Auto-select of the MAIN slot (R114). -/
def State.autoSelect (s : State) : State :=
  if s.fu.band = 0 ∨ s.claimsClosed = true ∨ s.mainCovers = true then s
  else
    let s := s.dropCandidate .main .voluntary
    match s.nextCovering with
    | some n => s.promote n
    | none => if s.defaultMain = 0 then s else State.showRefusal (s.request .main s.defaultMain true true)

/-! ### A candidate or a grow withdrawn while QUEUED (R102, R125) -/

/-- BUSY or FULL for the first of some antennas that is not available, else for the antenna itself. -/
def State.busyOrFull (s : State) (a : Antenna) (l : List Antenna) : Denial :=
  s.fullDenial ((s.firstFull l).getD a)

/-- The slot's QUEUED candidate, if it is of antenna a. -/
def State.queuedCand (s : State) (i : Slot) (a : Antenna) : Option Candidate :=
  (s.slot i).cand.filter (fun c => c.antenna == a && c.phase == .queued)

/-- The QUEUED grow of the port a HELD in a slot, if any, with its hold. -/
def State.queuedGrow (s : State) (i : Slot) (a : Antenna) : Option (HeldPart × Grow) :=
  match (s.slot i).held with
  | some h =>
    match h.grow with
    | some g => if h.antenna = a ∧ g.phase = .queued then some (h, g) else none
    | none => none
  | none => none

/-- A QUEUED candidate whose CLAIM has been withdrawn: it waits, or is dropped and reported, by wait mode as
read when the change came (R102, R193). -/
def State.candidateWithdrawn (s : State) (i : Slot) (c : Candidate) : State :=
  let s := s.setSlot i { s.slot i with cand := none }
  if c.waits || c.readWait then
    let r := s.placeWait ⟨c.antenna, i, c.mask, c.waits⟩
    if r.2 = .waiting then r.1 else r.1.report .ct r.2
  else s.report .ct (.denied (s.busyOrFull c.antenna (s.uses c.antenna c.mask)))

/-- A QUEUED grow whose CLAIM has been withdrawn is dropped and reported (R125). -/
def State.growWithdrawn (s : State) (i : Slot) (h : HeldPart) (g : Grow) : State :=
  (s.setSlot i { s.slot i with held := some { h with grow := none } }).report .ct
    (.denied (s.busyOrFull h.antenna (s.membersOf h.antenna (g.mask &&& ~~~h.mask))))

/-! ### Judging a peer's entry (R102, R104, R107, R108, R125, R126) -/

/-- How an entry arrived, with its tenure. -/
inductive News
  | status (tenure : Nat)
  | assertClaim
  | plainClaim (tenure : Nat)
  deriving DecidableEq, Repr

/-- The entry states a hold older than a claim in its window (R104). -/
def News.strong : News → Bool
  | .status t => 1 ≤ t
  | .assertClaim => true
  | .plainClaim t => 1 ≤ t

/-- The entry puts the holders in order (R108). -/
def News.ranks : News → Bool
  | .status _ => true
  | .assertClaim => true
  | .plainClaim t => 1 ≤ t

/-- The entry is a late plain CLAIM that an assert answers (R107). -/
def News.late : News → Bool
  | .plainClaim t => t == 0
  | _ => false

/-- The tenure of a peer's entry that holds a; of two entries that do, the first in slot order (R108; log 55). -/
def State.peerTenure (s : State) (r : PeerRecord) (a : Antenna) : Nat :=
  match r.present.find? (fun e => s.entryHolds e a) with
  | some e => e.tenure
  | none => 0

/-- The holders of a that stand before this part's hold in rank (R108). -/
def State.ranksBefore (s : State) (h : HeldPart) (a : Antenna) : Nat :=
  ((s.holders a).filter (fun r =>
    rankBefore (s.peerTenure r a) (s.peerPriority r) r.pos h.tenureLink s.ownPriority s.self)).length

/-- This part's hold has lost antenna a by rank: the count is at or above capacity and its place beyond it (R108). -/
def State.losesRank (s : State) (h : HeldPart) (a : Antenna) : Bool :=
  !s.available a && decide (s.capacity a ≤ s.ranksBefore h a)

/-- The antennas of a list that an entry touched and that are not available. -/
def State.filled (s : State) (touched l : List Antenna) : Bool :=
  l.any (fun a => touched.contains a && !s.available a)

/-- A slot's QUEUED candidate after a peer's change (R102): its CLAIM is withdrawn, and wait mode is read at
this moment, for a CLAIM in flight too (R193; log 46). -/
def State.judgeQueued (s : State) (touched : List Antenna) (i : Slot) : State :=
  match (s.slot i).cand with
  | some c =>
    if c.phase = .queued ∧ s.filled touched (s.uses c.antenna c.mask) = true then
      let gone := (unsent (isPlainClaimFor i c.antenna) s.lc.queue).isSome
      let c := { c with readWait := s.pi.waitMode }
      let s := (s.withdraw (isPlainClaimFor i c.antenna)).setSlot i { s.slot i with cand := some c }
      if gone then s.candidateWithdrawn i c else s
    else s
  | none => s

/-- A slot's QUEUED grow after a peer's change (R125). -/
def State.judgeQueuedGrow (s : State) (touched : List Antenna) (i : Slot) : State :=
  match (s.slot i).held with
  | some h =>
    match h.grow with
    | some g =>
      if g.phase = .queued ∧ s.filled touched (s.membersOf h.antenna (g.mask &&& ~~~h.mask)) = true then
        let gone := (unsent (isPlainClaimFor i h.antenna) s.lc.queue).isSome
        let s := s.withdraw (isPlainClaimFor i h.antenna)
        if gone then s.growWithdrawn i h g else s
      else s
    | none => s
  | none => s

/-- A slot's WINDOW candidate after a peer's entry: defeated, answered with an assert, or untouched (R104,
R107). A late CLAIM of a peer that held the antenna before it is answered too (log 54). -/
def State.judgeWindow (s : State) (touched : List Antenna) (n : News) (i : Slot) : State :=
  match (s.slot i).cand with
  | some c =>
    match c.phase with
    | .queued => s
    | .window _ =>
      if s.filled touched (s.uses c.antenna c.mask) then
        if n.strong then s.dropCandidate i .lost
        else if n.late && s.mayAssert i c.antenna c.lastAssert then s.offerAssert i c.antenna c.mask 0
        else s
      else s
  | none => s

/-- The grow has lost: it is dropped with the shrink to follow, and an assert takes the members back out
of the peers' views (R126). -/
def State.growLost (s : State) (i : Slot) (h : HeldPart) : State :=
  let s := s.setSlot i { s.slot i with held := some { h with grow := none } }
  s.offerAssert i h.antenna h.mask h.tenure

/-- A slot's grow in WINDOW after a peer's entry (R126). -/
def State.judgeGrow (s : State) (touched : List Antenna) (n : News) (i : Slot) : State :=
  match (s.slot i).held with
  | some h =>
    match h.grow with
    | some ⟨m, .window _, _⟩ =>
      if s.filled touched (s.membersOf h.antenna (m &&& ~~~h.mask)) then
        if n.strong then s.growLost i h
        else if n.late && s.mayAssert i h.antenna h.lastAssert then s.offerAssert i h.antenna m 0
        else s
      else s
    | _ => s
  | none => s

/-- A slot's HELD part after a peer's entry: lost by rank, answered with an assert of its held mask and tenure,
or untouched (R107, R108). A late CLAIM of a peer that held the antenna before it is answered too (log 54). -/
def State.judgeHeld (s : State) (touched : List Antenna) (n : News) (i : Slot) : State :=
  match (s.slot i).held with
  | some h =>
    let mine := (s.uses h.antenna h.mask).filter (fun a => touched.contains a)
    if n.ranks then
      if mine.any (s.losesRank h) then s.freeHold i .lost none else s
    else if n.late && mine.any (fun a => !s.available a) && s.mayAssert i h.antenna h.lastAssert then
      s.offerAssert i h.antenna h.mask h.tenure
    else s
  | none => s

/-- A peer's entry judged against one slot. One that touches members of a grow in WINDOW and of its port's held
mask draws the grow's assert, and the pacing of R107 holds the other back (log 18). One that both defeats such a grow
and outranks the hold drops the grow with its assert first, and then frees the port (R126; log 61). -/
def State.judgeSlot (s : State) (touched : List Antenna) (n : News) (i : Slot) : State :=
  ((((s.judgeQueued touched i).judgeQueuedGrow touched i).judgeWindow touched n i).judgeGrow touched n i).judgeHeld
    touched n i

/-- A peer's entry of antenna a with a mask, as it arrived, judged against the four slots in the order of
their numbers (log 68). -/
def State.judgeEntry (s : State) (a : Antenna) (m : Mask) (n : News) : State :=
  if a = 0 then s else allSlots.foldl (fun s i => s.judgeSlot (s.uses a m) n i) s

/-! ### Yield grace (R113, R128) -/

/-- A reservation of an antenna for a position, for 2W; one already held is replaced (R113). -/
def State.reserve (s : State) (a : Antenna) (p : Position) : State :=
  s.setCt { s.ct with
    reservations := s.ct.reservations.filter (fun r => r.antenna != a) ++ [⟨a, p, s.now + 2 * s.window⟩] }

/-- A reservation of antenna a for position p ends at its CLAIM (R113). -/
def State.unreserve (s : State) (a : Antenna) (p : Position) : State :=
  s.setCt { s.ct with
    reservations := s.ct.reservations.filter (fun r => !(r.antenna == a && r.position == p)) }

/-- The yield grace of released antennas: reservations, or this part's own entries served first, those of a
port before its members' in place order (R113, R128; log 52). The pass over the other entries is the one a
fallen holder count calls for (log 60). -/
def State.yieldGrace (s : State) (y : Position) (antennas : List Antenna) : State :=
  if s.jc.number = some y then antennas.foldl (fun s a => s.serveFirst a) s
  else antennas.foldl (fun s a => s.reserve a y) s

end Sys2Proof.Machine
end

