-- ==== Sys2Proof/Machine/Relays.lean ====
section
/-! DEFINITION. Machine/Relays.lean: the Relay Driver's operations and the Claim Table's waits for its lines: the target, the break, and what follows lines turning off (10.2, R110, R123 to R130). -/

namespace Sys2Proof.Machine

/-! ### The target (R97, R127, R173) -/

/-- The lines the MAIN slot's HELD part takes: its antenna line and, for a port, member and tap lines (R127, R173). -/
def State.mainLines (s : State) : Lines :=
  match (s.slot .main).held with
  | none => .none
  | some h =>
    match s.groupOf h.antenna with
    | none => ⟨antBit h.antenna, 0, 0, 0⟩
    | some (g, grp) =>
      ⟨antBit h.antenna, 0, memberBits g (h.drive &&& grp.present), tapBits g (maskCount (h.drive &&& grp.present))⟩

/-- The line the AUX slot's HELD part takes (R173). -/
def State.auxLines (s : State) : Lines :=
  match (s.slot .aux).held with
  | none => .none
  | some h => ⟨antBit h.antenna, 0, 0, 0⟩

/-- The target formed from its owners as they stand (R173). -/
def State.formTarget (s : State) : Lines :=
  ((s.mainLines.and s.mainPath).or (s.auxLines.and s.auxPath)).or ⟨0, filterBit s.fu.band, 0, 0⟩

/-- The lines the Relay Driver may change: every line, or the AUX antenna lines while AMP KEY is on (R174). -/
def State.movable (s : State) : Lines := if s.ampKey then s.auxPath else .every

/-- The movable lines that differ from a target. -/
def State.moves (s : State) (target : Lines) : Lines := (s.rd.lines.xor target).and s.movable

/-- Some of these lines are MAIN-path lines (R151). -/
def State.touchesMain (s : State) (l : Lines) : Bool := l.and s.mainPath != .none

/-! ### Transitions (R175 to R177) -/

/-- BREAK begins: the movable lines that are on and not in the target turn off (R175). A transition begun for
a MAIN-path difference counts as moving the MAIN path to its end, though the target takes the difference
back (R151; log 56). -/
def State.startBreak (s : State) : State :=
  s.setRd { s.rd with
    lines := s.rd.lines.diff ((s.rd.lines.diff s.rd.target).and s.movable),
    state := .breaking, timer := s.timerFor (Config.ms s.timing.tBreak),
    movesMain := s.touchesMain (s.moves s.rd.target) }

/-- A transition starts from STEADY where the movable lines differ from the target (R175). -/
def State.settle (s : State) : State :=
  if s.rd.state = .steady ∧ s.moves s.rd.target ≠ .none then s.startBreak else s

/-- The target taken from its owners, and a transition started where it calls for one (R173 to R175). -/
def State.rdSync (s : State) : State := (s.setRd { s.rd with target := s.formTarget }).settle

/-- The break time is over: lines that the target has dropped meanwhile turn off in another BREAK;
otherwise the target's lines are made (R176). -/
def State.breakEnds (s : State) : State :=
  let off := (s.rd.lines.diff s.rd.target).and s.movable
  if off ≠ .none then
    s.setRd { s.rd with
      lines := s.rd.lines.diff off, timer := s.timerFor (Config.ms s.timing.tBreak),
      movesMain := s.rd.movesMain || s.touchesMain off }
  else
    let on := (s.rd.target.diff s.rd.lines).and s.movable
    s.setRd { s.rd with
      lines := s.rd.lines.or on, state := .making, timer := s.timerFor (Config.ms s.timing.tMake),
      movesMain := s.rd.movesMain || s.touchesMain on }

/-- The make time is over: STEADY, or another BREAK where the movable lines differ from the target (R177). That BREAK
begins a transition of its own for SWITCHING (R151; log 56). -/
def State.makeEnds (s : State) : State :=
  if s.moves s.rd.target = .none then
    s.setRd { s.rd with state := .steady, timer := .stopped, movesMain := false }
  else s.startBreak

/-! ### Handing over a member (R129, R130) -/

/-- A member of the port HELD in a slot given to a position: lapsed where it is not joined, given with the
whole port where it is the only one, else deferred behind a reshape or handed over by a shrink (R129, R130). -/
def State.giveMember (s : State) (i : Slot) (a : Antenna) (asker : Position) : State :=
  match (s.slot i).held with
  | none => s
  | some h =>
    let place := s.placeIn h.antenna a
    if h.mask &&& place = 0 then s.givingDone asker [a]
    else if h.mask &&& ~~~place = 0 then s.freeHold i .yielded (some asker)
    else if h.shrink.isSome || h.grow.isSome then
      s.setSlot i { s.slot i with held := some { h with give := some (a, asker) } }
    else
      s.setSlot i { s.slot i with held := some { h with shrink := some ⟨h.mask &&& ~~~place, some asker⟩ } }

/-! ### What the Claim Table waits for (R110, R123, R126, R128, R129) -/

/-- While AMP KEY is off, the drive mask of the port in MAIN follows its shrink or its held mask (R123, R126). Where a
shrink follows a grow, the drive mask goes to the shrink's mask at once (log 70). -/
def State.driveStep (s : State) : State :=
  match (s.slot .main).held with
  | some h =>
    if s.ampKey then s
    else
      s.setSlot .main { s.slot .main with
        held := some { h with drive := match h.shrink with
          | some x => x.mask
          | none => h.mask } }
  | none => s

/-- Steps 1 and 2 of a shrink are done: AMP KEY is off, the drive mask is the new mask and the lines of the
members it removes are off; in a NEXT slot none is driven (R123). -/
def State.shrinkReady (s : State) (i : Slot) (h : HeldPart) (x : Shrink) : Bool :=
  i != .main ||
    (!s.ampKey && h.drive == x.mask &&
      s.rd.lines.member &&& s.portMemberBits h.antenna (h.mask &&& ~~~x.mask) == 0)

/-- Step 3 of a shrink: the held mask changes and the peers are told (R123, R129). -/
def State.shrinkStep (s : State) (i : Slot) : State :=
  match (s.slot i).held with
  | some h =>
    match h.shrink with
    | some x =>
      if s.shrinkReady i h x then
        let s1 := s.setSlot i { s.slot i with held := some { h with mask := x.mask, shrink := none } }
        match x.yieldTo with
        | none => s1.offerAssert i h.antenna x.mask h.tenure
        | some y =>
          (s.membersOf h.antenna (h.mask &&& ~~~x.mask)).foldl
            (fun s a =>
              let r := s.offerRelease i a .yielded (some y)
              if r.2 = .refused then r.1.givingDone y [a] else r.1) s1
      else s
    | none => s
  | none => s

/-- A deferred give is taken once the port has neither a shrink nor a grow (R129). -/
def State.giveStep (s : State) (i : Slot) : State :=
  match (s.slot i).held with
  | some h =>
    match h.give with
    | some (a, y) =>
      if h.shrink.isNone && h.grow.isNone then
        (s.setSlot i { s.slot i with held := some { h with give := none } }).giveMember i a y
      else s
    | none => s
  | none => s

/-- The wait of a freeing part is over: its antenna line is off and, for a port, the member lines of its
drive mask (R110, R128). -/
def State.freeingReady (s : State) (i : Slot) (p : FreeingPart) : Bool :=
  match i with
  | .main =>
    s.rd.lines.ant &&& antBit p.antenna == 0 && s.rd.lines.member &&& s.portMemberBits p.antenna p.drive == 0
  | .aux => s.rd.lines.ant &&& antBit p.antenna == 0
  | _ => true

/-- The freeing parts of a slot taken oldest first: those whose wait is over offer their RELEASE; one
refused is gone (R110). -/
def State.releaseParts (s : State) (i : Slot) : List FreeingPart → State × List FreeingPart
  | [] => (s, [])
  | p :: ps =>
    if p.released || !s.freeingReady i p then
      let r := s.releaseParts i ps
      (r.1, p :: r.2)
    else
      let r := s.offerRelease i p.antenna p.reason p.yieldTo
      if r.2 = .refused then (r.1.givingPartDone p).releaseParts i ps
      else
        let q := r.1.releaseParts i ps
        (q.1, { p with released := true } :: q.2)

/-- The freeing parts of a slot whose wait is over offer their RELEASE (R110 steps 2 to 4). -/
def State.freeingStep (s : State) (i : Slot) : State :=
  let r := s.releaseParts i (s.slot i).freeing
  r.1.setSlot i { r.1.slot i with freeing := r.2 }

/-- The Claim Table takes what the lines and AMP KEY allow in one slot: a shrink, a give, the freeing parts (log 68). -/
def State.slotProgress (s : State) (i : Slot) : State := ((s.shrinkStep i).giveStep i).freeingStep i

/-- The Claim Table takes what the lines and AMP KEY allow, slot after slot (log 68). -/
def State.ctProgress (s : State) : State := allSlots.foldl (fun s i => s.slotProgress i) s.driveStep

/-- One exchange between the Claim Table and the Relay Driver. -/
def State.relayRound (s : State) : State := s.ctProgress.rdSync

/-- The Claim Table and the Relay Driver settle with each other: a hand-over taken up after a shrink can
need four exchanges (log 4). -/
def State.relayReact (s : State) : State := s.relayRound.relayRound.relayRound.relayRound

end Sys2Proof.Machine
end

