-- ==== Sys2Proof/Machine/HandOver.lean ====
section
/-! DEFINITION. Machine/HandOver.lean: the Hand-over Unit's operations: the ask, the latch and the answers (Chapter 8). -/

namespace Sys2Proof.Machine

/-- The ask life as clock units (R135). -/
def State.askLife (s : State) : Nat := s.timing.askLife * s.period

/-- The antenna is held FREEING or as a candidate, HELD, or as a member of a HELD port's mask: the MINE
check of an ask (R117, R134). -/
def State.askMine (s : State) (n : Antenna) : Bool := s.ownAntennas.contains n || s.holds n

/-- The kind of an ask whose wait entry names a slot (R132). -/
def askKindOf : Slot → AskKind
  | .main => .main
  | .aux => .aux
  | _ => .next

/-! ### Giving (R140) -/

/-- The slot whose HELD part satisfies a test. -/
def State.heldSlot (s : State) (hit : HeldPart → Bool) : Option Slot :=
  allSlots.find? (fun i =>
    match (s.slot i).held with
    | some h => hit h
    | none => false)

/-- The Claim Table gives an antenna to a position: the hold itself, or a member of a HELD port (R140). -/
def State.giveAntenna (s : State) (a : Antenna) (asker : Position) : State :=
  match s.heldSlot (fun h => h.antenna == a) with
  | some i => s.freeHold i .yielded (some asker)
  | none =>
    match s.heldSlot (fun h => (s.membersOf h.antenna h.mask).contains a) with
    | some i => s.giveMember i a asker
    | none => s.givingDone asker [a]

/-- A GIVE taken with the latch occupied (R140). -/
def State.give (s : State) (l : Latch) : State :=
  (s.setHu { s.hu with
    latch := none, answer := some ⟨l.asker, l.antenna, .giving⟩, keepTimer := .stopped }).giveAntenna
    l.antenna l.asker

/-- A KEEP taken with the latch occupied (R142). -/
def State.keep (s : State) (l : Latch) : State :=
  s.setHu { s.hu with
    latch := none, answer := some ⟨l.asker, l.antenna, .keep⟩, keepTimer := s.timerFor s.askLife }

/-- The own row has auto-give set (R143). -/
def State.autoGives (s : State) : Bool :=
  match s.ownRow with
  | some r => r.autoGive
  | none => false

/-- A part in standby with auto-give answers an occupied latch (R143). -/
def State.autoGive (s : State) : State :=
  match s.hu.latch with
  | some l => if s.cu.standby && s.autoGives then s.give l else s
  | none => s

/-! ### Reading a peer's head (R137 to R139, R142) -/

/-- The peer's ask still names this part and antenna a. -/
def State.asksFor (s : State) (r : PeerRecord) (a : Antenna) : Bool :=
  match r.ask, s.jc.number with
  | some (t, n), some p => t == p && n == a
  | _, _ => false

/-- The answer in a peer's head is read: a KEEP from the target clears the standing ask, and each answer
to this part is shown (R137), one that is not the standing ask's like the target's (log 71). -/
def State.readAnswer (s : State) (r : PeerRecord) : State :=
  match r.answer with
  | some (t, a, k) =>
    if s.jc.number = some t then
      let s := match k, s.hu.ask with
        | .keep, .standing target n _ _ _ => if target = r.pos ∧ n = a then s.setHu { s.hu with ask := .none } else s
        | _, _ => s
      s.report .hu (match k with
        | .keep => .kept
        | .giving => .giving)
    else s
  | none => s

/-- The latch and a KEEP are emptied when their asker's head no longer names this part and antenna (R139, R142). -/
def State.dropAnswered (s : State) (r : PeerRecord) : State :=
  let s := match s.hu.latch with
    | some l => if l.asker = r.pos ∧ s.asksFor r l.antenna = false then s.setHu { s.hu with latch := none } else s
    | none => s
  match s.hu.answer with
  | some ⟨p, a, .keep⟩ =>
    if p = r.pos ∧ s.asksFor r a = false then s.setHu { s.hu with answer := none, keepTimer := .stopped } else s
  | _ => s

/-- A head's ask is latched where R138 allows it; auto-give follows at once (R138, R143). -/
def State.latchAsk (s : State) (r : PeerRecord) : State :=
  match r.ask with
  | some (_, a) =>
    if s.jc.state = .run ∧ s.hu.latch.isNone = true ∧ s.asksFor r a = true ∧ s.holds a = true then
      (s.setHu { s.hu with latch := some ⟨r.pos, a, r.label⟩ }).autoGive
    else s
  | none => s

/-- A STATUS arrival at the Hand-over Unit (R137 to R139, R142). -/
def State.headHeard (s : State) (p : Position) : State :=
  if s.isOwn p then s
  else
    match s.pt.find p with
    | some r => ((s.readAnswer r).dropAnswered r).latchAsk r
    | none => s

/-! ### What the part's own state and the view clear (R136, R139) -/

/-- A claim for n is still wanted or under way: a wait entry or a candidate for it stands. -/
def State.claimStands (s : State) (n : Antenna) : Bool :=
  (s.waitEntry n).isSome ||
    allSlots.any (fun i =>
      match (s.slot i).cand with
      | some c => c.antenna == n
      | none => false)

/-- A position is a holder of n in the view. -/
def State.peerHolding (s : State) (p : Position) (n : Antenna) : Bool :=
  match s.pt.find p with
  | some r => s.peerHolds r n
  | none => false

/-- The standing ask and the latch cleared where what they rest on has gone (R136, R139). -/
def State.huReact (s : State) : State :=
  let s := match s.hu.ask with
    | .standing target n _ _ _ =>
      if s.holds n || !s.peerHolding target n || !s.claimStands n then s.setHu { s.hu with ask := .none } else s
    | _ => s
  match s.hu.latch with
  | some l => if s.holds l.antenna then s else s.setHu { s.hu with latch := none }
  | none => s

/-! ### The sequencer's report of RECEIVE, and standby (R172, R188) -/

/-- The standby flag is set and the Hand-over Unit told (R143, R188). -/
def State.enterStandby (s : State) : State :=
  (s.setCu { s.cu with standby := true, deferred := false }).autoGive

/-- The sequencer enters RECEIVE and reports it: a deferred standby entry is taken (R168, R172, R188).
The lockout reason is cleared at this entry from TAIL too (log 64). -/
def State.enterReceive (s : State) : State :=
  let s := s.setKs { s.ks with state := .receive, lockout := none }
  if s.cu.deferred then s.enterStandby else s

end Sys2Proof.Machine
end

