-- ==== Sys2Proof/Machine/Joining.lean ====
section
/-! DEFINITION. Machine/Joining.lean: the Join Controller's operations: choosing a number, probing, entering RUN and LEAVING, and what a good frame's sender means (2.7 to 2.12). -/

namespace Sys2Proof.Machine

/-! ### Choosing a number (R27) -/

/-- A number is free: no record holds it and it has not failed (R27). -/
def State.numberFree (s : State) (n : Position) : Bool :=
  (s.pt.find n).isNone && !s.jc.failed.contains n

/-- The first free number from n upward, wrapping from 15 to 0 (R27). -/
def State.chooseFrom (s : State) (n : Position) : Option Position :=
  ((List.range 16).map (fun k => n + BitVec.ofNat 4 k)).find? s.numberFree

/-! ### Probing (R29) -/

/-- A PROBE for the tentative number (R29). -/
def State.probeFrame (s : State) (n : Position) : LinkFrame :=
  ⟨n, .probe ⟨s.ps.token, s.ps.planCheck, s.ps.planValid⟩⟩

/-- A PROBE offered; a refused one is owed (R50). -/
def State.offerProbe (s : State) (n : Position) : State :=
  let r := s.offer (s.probeFrame n)
  r.1.setJc { r.1.jc with probeOwed := r.2 == .refused }

/-- A number chosen from n upward: an attempt in PROBE begins, or the part enters UNNUMBERED (R28, R29, R31). -/
def State.attemptFrom (s : State) (n : Position) : State :=
  match s.chooseFrom n with
  | some t =>
    (s.setJc { s.jc with
      state := .probe, tentative := some t, attempts := satSucc 255 s.jc.attempts }).offerProbe t
  | none => s.setJc { s.jc with state := .unnumbered, tentative := none }

/-- The attempt in PROBE for number t fails (R29). -/
def State.attemptFailed (s : State) (t : Position) : State :=
  let s := s.withdraw isProbe
  (s.setJc { s.jc with
    probeWait := .stopped, probeOwed := false, failed := s.jc.failed ++ [t] }).attemptFrom (t + 1)

/-- A record has gone by expiry: in UNNUMBERED its number is free again and a choice follows (R31). -/
def State.numberFreed (s : State) (p : Position) : State :=
  if s.jc.state = .unnumbered then
    (s.setJc { s.jc with failed := s.jc.failed.filter (fun n => n != p) }).attemptFrom s.ps.preferred
  else s

/-- A record removed by expiry, with what its readers and the Join Controller do (R31, R71, R75). -/
def State.recordExpires (s : State) (p : Position) : State := (s.expirePeer p).numberFreed p

/-- An entry reaches its limit: it becomes absent, and with the last entry of a record whose head age is
at the limit the record goes too (R70, R71). -/
def State.entryExpires (s : State) (r : PeerRecord) (i : Slot) : State :=
  let r := { r with entries := r.entries.set i none }
  let s := s.putPeer r
  if r.noEntries && decide (r.headSince + s.peerLimit r ≤ s.now) then s.recordExpires r.pos else s

/-- Entries and records already beyond their limits expire at once (R69): when the own P comes into
force for records whose period code is unknown. -/
def State.sweepUnknown (s : State) : State :=
  s.pt.records.foldl
    (fun s r =>
      if r.periodCode.isSome then s
      else
        let r := { r with entries := expireEntries s.now (s.peerLimit r) r.entries }
        let s := s.putPeer r
        if r.noEntries && decide (r.headSince + s.peerLimit r ≤ s.now) then s.recordExpires r.pos else s) s

/-! ### Entering states (R28, R32, R35) -/

/-- LISTEN is entered: its timer runs 2P and the attempts start at 0 (R28). -/
def State.enterListen (s : State) : State :=
  s.setJc { s.jc with
    state := .listen, tentative := none, attempts := 0, leaving := none, failed := [], probeOwed := false,
    listenTimer := s.timerFor (2 * s.period), probeWait := .stopped }

/-- RUN is entered with a position number (R28, R30, R32, R60, R95). -/
def State.enterRun (s : State) (n : Position) : State :=
  let s := s.setJc { s.jc with
    state := .run, number := some n, tentative := none, failed := [], listenTimer := .stopped,
    probeWait := .stopped, probeOwed := false }
  (s.removePeer n).startStatus

/-! ### Withdrawing every frame (R51, R54) -/

/-- Every frame and held offer of the part satisfies this. -/
def anyFrame (_ : LinkFrame) : Bool := true

/-- Frames withdrawn at once go to their producers as withdrawn: the RELEASE of a freeing part counts as
gone, a COMMAND shows not sent, a KEY on is taken by the sequencer (R51, R110, R166, R181). -/
def State.withdrawnNotices (s : State) (frames : List LinkFrame) : State :=
  let s := if frames.any isCommand then
      (s.setCu { s.cu with outstanding := none }).report .cu .notSent else s
  let s := allSlots.foldl
    (fun s i =>
      s.setSlot i { s.slot i with
        freeing := (s.slot i).freeing.filter (fun p =>
          !(p.released && frames.any (fun f =>
            match f.body with
            | .release r => r.slot == i && r.antenna.toNat == p.antenna
            | _ => false))) }) s
  s.keyWithdrawn frames

/-- Every frame of the part withdrawn, with its notices (R51). -/
def State.withdrawAll (s : State) : State :=
  let gone := s.lc.withdrawn anyFrame
  ((s.withdraw anyFrame).withdrawnNotices gone)

/-! ### Leaving (R34 to R36) -/

/-- A grow's CLAIM withdrawn (R131). -/
def State.withdrawGrow (s : State) (i : Slot) : State :=
  match (s.slot i).held with
  | some h => if h.grow.isSome then s.withdraw (isPlainClaimFor i h.antenna) else s
  | none => s

/-- A slot as LEAVING takes it: a grow's and a QUEUED candidate's CLAIM withdrawn, a WINDOW candidate
released, the held part made FREEING (R34, R131). -/
def State.leaveSlot (s : State) (i : Slot) : State :=
  ((s.withdrawGrow i).dropCandidate i .rejoin).freeHold i .rejoin none

/-- The DUPLICATE measures: every frame is withdrawn and the Status Generator stops (R33, R34). -/
def State.fallSilent (s : State) : State := s.withdrawAll.stopStatus

/-- LEAVING is entered with a case (R34, R118, R131, R132, R187). The slots are left in the order of their numbers
(log 68). -/
def State.enterLeaving (s : State) (c : LeavingCase) : State :=
  let s := s.setJc { s.jc with
    state := .leaving, leaving := some c, listenTimer := .stopped, probeWait := .stopped, tentative := none,
    probeOwed := false }
  let s := s.setHu .reset
  let s := allSlots.foldl (fun s i => s.leaveSlot i) s
  let s := s.setCt { s.ct with waitList := [], reservations := [], panelMask := none }
  let s := s.setCu { s.cu with standby := false, deferred := false }
  if c = .duplicate then s.fallSilent else s

/-- A rejoin request is taken in this join state (R36). -/
def State.rejoinOpen (s : State) : Bool :=
  match s.jc.state with
  | .run | .listen | .probe | .unnumbered | .duplicate => true
  | _ => false

/-- A rejoin request (R36). -/
def State.rejoinRequest (s : State) : State :=
  match s.jc.state with
  | .run | .listen | .unnumbered | .duplicate => s.enterLeaving .rejoin
  | .probe => (s.withdraw isProbe).enterLeaving .rejoin
  | _ => s

/-- Another unit sends with the own number (R33): in RUN the part leaves with case DUPLICATE, in LEAVING
with case REJOIN the case changes. -/
def State.duplicateFound (s : State) : State :=
  match s.jc.state, s.jc.leaving with
  | .run, _ => s.enterLeaving .duplicate
  | .leaving, some .rejoin => (s.setJc { s.jc with leaving := some .duplicate }).fallSilent
  | _, _ => s

/-- Leaving is complete (R35). -/
def State.leavingDone (s : State) : Bool :=
  s.jc.state == .leaving && s.rd.state == .steady && s.rd.lines.ant == 0 &&
    (s.jc.leaving != some .rejoin ||
      !s.lc.queue.any (fun e => isRelease e.frame || isKey e.frame || isCommand e.frame))

/-- The part leaves LEAVING (R35, R118, R131): its frames withdrawn, its view and slots emptied, and the
next state entered. -/
def State.finishLeaving (s : State) : State :=
  let wasDuplicate := s.jc.leaving == some .duplicate
  let s := s.fallSilent.emptyPeers
  let s := s.setCt { s.ct with slots := .all .empty, waitList := [], reservations := [] }
  if wasDuplicate && s.ps.fixedNumber then
    s.setJc { s.jc with state := .duplicate, failed := [], leaving := none }
  else if wasDuplicate then (s.setJc { s.jc with number := none }).enterListen
  else s.enterListen

/-! ### The sender of a good frame (R29, R33, R45) -/

/-- A good frame of another sender, as the Join Controller takes it: it can fail an attempt or show a
duplicate; `isProbe` says that it is a PROBE (R29, R33). -/
def State.senderHeard (s : State) (p : Position) (probe : Bool) : State :=
  if s.jc.state = .probe ∧ s.jc.tentative = some p then s.attemptFailed p
  else if s.isOwn p && !probe then s.duplicateFound
  else s

end Sys2Proof.Machine
end

