-- ==== Sys2Proof/Machine/React.lean ====
section
/-! DEFINITION. Machine/React.lean: what the blocks do with the changes one event makes: each reads the part before and after the event and acts as its own chapter gives (R13, R72, R146, R172, R178). The order of the blocks is log 3 and log 4. -/

namespace Sys2Proof.Machine

/-! ### Peer Table (R75) and Status Generator (R89, R90) -/

/-- The live-seen mark is set in RUN while a record is LIVE (R75). -/
def State.ptReact (s : State) : State :=
  if s.jc.state = .run ∧ s.pt.anyLive = true then s.setPt { s.pt with liveSeen := true } else s

/-- A change of F restarts the recent-change timer with the own P (R90). -/
def State.recentReact (before s : State) : State :=
  if before.fu.freq = s.fu.freq then s else s.setSg { s.sg with recent := s.timerFor s.period }

/-- A change of the link-lost flag or of plan disagreement calls for a STATUS at once (R89), and the two together in
one step for one STATUS (log 66). -/
def State.sgReact (before s : State) : State :=
  if before.pt.linkLost = s.pt.linkLost ∧ before.pt.disagreement = s.pt.disagreement then s else s.offerStatus

/-! ### Claim Table (R94, R112, R114) -/

/-- The candidate's antenna of a slot, if any. -/
def State.candAntenna (s : State) (i : Slot) : Option Antenna := (s.slot i).cand.map (fun c => c.antenna)

/-- A slot's candidate has left it between two states. -/
def candidateLeft (before s : State) : Bool :=
  allSlots.any (fun i => (before.candAntenna i).isSome && before.candAntenna i != s.candAntenna i)

/-- The holder count of some antenna has fallen between two states. -/
def countFell (before s : State) : Bool :=
  before.pt.records != s.pt.records &&
    (List.range 32).any (fun k => decide (s.holderCount (k + 1) < before.holderCount (k + 1)))

/-- A yield grace has ended between two states. -/
def graceEnded (before s : State) : Bool :=
  before.ct.reservations.any (fun r => !s.ct.reservations.any (fun q => q.antenna == r.antenna))

/-- b has changed between two states to a band other than 0. -/
def bandEntered (before s : State) : Bool := before.fu.band != s.fu.band && s.fu.band != 0

/-- The first-full-status obligation has cleared between two states. -/
def obligationCleared (before s : State) : Bool := before.sg.obligation && !s.sg.obligation

/-- One of the events of R112 lies between two states. -/
def serviceDue (before s : State) : Bool :=
  countFell before s || candidateLeft before s || graceEnded before s ||
    (before.ct.relearn.isRunning && !s.ct.relearn.isRunning) || (before.pt.linkLost && !s.pt.linkLost) ||
    (before.pt.disagreement && !s.pt.disagreement) || before.fu.band != s.fu.band || obligationCleared before s ||
    s.ct.passDue

/-- A service pass where one of its events lies between two states (R112; log 36). None is due afterwards: a pass
repeats by itself for the CLAIMs refused in it. -/
def State.serviceReact (before s : State) : State :=
  (if serviceDue before s then s.servicePass else s).owePass false

/-- A service pass where a candidate has left its slot since an earlier state, or has been refused (R112). -/
def State.serviceLeft (before s : State) : State :=
  (if candidateLeft before s || s.ct.passDue then s.servicePass else s).owePass false

/-- Auto-select at a change of b or at the clearing of the obligation, with the pass that a candidate it
drops calls for (R112, R114). -/
def State.autoReact (before s : State) : State :=
  if bandEntered before s || obligationCleared before s then State.serviceLeft s s.autoSelect else s

/-- A slot holds a HELD part or a WINDOW candidate (R94). -/
def State.slotLive (s : State) (i : Slot) : Bool :=
  (s.slot i).held.isSome ||
    match (s.slot i).cand with
    | some ⟨_, _, .window _, _, _, _⟩ => true
    | _ => false

/-- The slot's renewal age is at or beyond 8P (R94). -/
def State.slotOld (s : State) (i : Slot) : Bool := decide (s.sg.renewed.get i + 8 * s.period ≤ s.now)

/-- The self-drop notice for a slot: the mark is set and the Claim Table releases (R94, R109). -/
def State.selfDropNotice (s : State) (i : Slot) : State :=
  (s.setSg { s.sg with notified := s.sg.notified.set i true }).selfDrop i

/-- A slot that has gained a HELD part or a WINDOW candidate beyond 8P is dropped at once (R94; log 14). -/
def State.gainedReact (before s : State) : State :=
  allSlots.foldl (fun s i => if !before.slotLive i && s.slotLive i && s.slotOld i then s.selfDropNotice i else s) s

/-- The Claim Table takes what has changed: service, auto-select, and drops at the self-drop limit. -/
def State.ctReact (before s : State) : State :=
  let s1 := State.autoReact before (State.serviceReact before s)
  State.serviceLeft s1 (State.gainedReact before s1)

/-! ### Join Controller (R50) -/

/-- A PROBE that was refused is offered again once a frame has left the queue (R50; log 8). -/
def State.jcReact (s : State) : State :=
  match s.jc.tentative with
  | some t => if s.jc.probeOwed && s.jc.state == .probe && decide (s.lc.queue.length < 8) then s.offerProbe t else s
  | none => s

end Sys2Proof.Machine
end

