-- ==== Sys2Proof/Machine/Panel.lean ====
section
/-! DEFINITION. Machine/Panel.lean: the Panel Interface's operations: the lamps, the 79 content characters of a display record, and when a record is sent (12.5, 12.6, 13.4). Content with nothing to show is 0 (log 9). -/

namespace Sys2Proof.Machine

/-- A byte of a value. -/
def byte (n : Nat) : Byte := BitVec.ofNat 8 n

/-- A flag as a number. -/
def flag (b : Bool) (weight : Nat) : Nat := if b then weight else 0

/-! ### Lamps (R198, 13.4) -/

/-- A slot lights its lamp for antenna a: it has it, or it joins it at a HELD or FREEING port (R198 order 2; log 75). -/
def State.slotShows (s : State) (i : Slot) (a : Antenna) : Bool :=
  ((s.slot i).antennas).contains a ||
    (match (s.slot i).held with
      | some h => (s.membersOf h.antenna h.mask).contains a
      | none => false) ||
    (s.slot i).freeing.any (fun p => (s.membersOf p.antenna p.mask).contains a)

/-- The standing ask names antenna a. -/
def State.asked (s : State) (a : Antenna) : Bool :=
  match s.hu.ask with
  | .standing _ n _ _ _ => n == a
  | _ => false

/-- The lamp of an antenna: DARK 0, FREE 1, MAIN 2, AUX 3, NEXT 4, OTHER 5, WAITING 6, RESERVED 7, ASKED 8 (R198, 13.4). -/
def State.lamp (s : State) (a : Antenna) : Nat :=
  if s.noSuchAntenna a then 0
  else if s.slotShows .main a then 2
  else if s.slotShows .aux a then 3
  else if s.slotShows .nextA a || s.slotShows .nextB a then 4
  else if s.asked a then 8
  else if (s.waitEntry a).isSome then 6
  else if s.reservedElsewhere a then 7
  else if s.available a then 1
  else 5

/-! ### Codes of the display record (13.4) -/

/-- The join state's code. -/
def joinCode : JoinState → Nat
  | .load => 0
  | .listen => 1
  | .probe => 2
  | .run => 3
  | .leaving => 4
  | .unplanned => 5
  | .unnumbered => 6
  | .duplicate => 7

/-- An inhibit reason's code, in reporting order from 1. -/
def inhibitCode (r : Reason) : Nat := allReasons.idxOf r + 1

/-- The sequencer state's code. -/
def seqCode : SeqState → Nat
  | .receive => 0
  | .keyWait => 1
  | .announce => 2
  | .ampOn => 3
  | .transmit => 4
  | .tail => 5
  | .lockout => 6

/-- The lockout reason's code. -/
def lockCode : Option LockReason → Nat
  | none => 0
  | some (.inhibit r) => inhibitCode r
  | some .queue => 16

/-- A warning's byte. -/
def warningByte (w : WarningKind × Position) : Byte :=
  byte (16 * (match w.1 with
    | .spacing => 1
    | .harmonic2 => 2
    | .harmonic3 => 3) + w.2.toNat)

/-- An answer's code: KEEP 1, GIVING 2. -/
def answerCode : AnswerKind → Nat
  | .keep => 1
  | .giving => 2

/-- A block's code: 2 to 14 in the order of the block table. -/
def blockCode : Block → Nat
  | .fu => 2
  | .ps => 3
  | .jc => 4
  | .lc => 5
  | .pt => 6
  | .sg => 7
  | .ct => 8
  | .hu => 9
  | .ie => 10
  | .ks => 11
  | .rd => 12
  | .cu => 13
  | .pi => 14

/-- A refusal reason's code: 16 to 36 in the order of 13.4. -/
def denialCode : Denial → Nat
  | .notRunning => 16
  | .noSuchAntenna => 17
  | .wrongKind => 18
  | .privateOwner => 19
  | .notCovered => 20
  | .relearn => 21
  | .linkLost => 22
  | .planDiff => 23
  | .reserved => 24
  | .mine => 25
  | .busy => 26
  | .full => 27
  | .waitFull => 28
  | .queue => 29
  | .mask => 30
  | .reshaping => 31
  | .capacity => 32
  | .notHeld => 33
  | .notSingle => 34
  | .noAsk => 35
  | .notPermitted => 36

/-- An outcome's code. -/
def outcomeCode : PanelOutcome → Nat
  | .accepted => 1
  | .waiting => 2
  | .asking => 3
  | .valueSet => 4
  | .unknown => 5
  | .wait => 6
  | .kept => 7
  | .giving => 8
  | .notSent => 9
  | .denied d => denialCode d

/-- A slot's parts as they are shown: its candidate, its HELD part, its FREEING parts with the most recent
first (R199). -/
def SlotRecord.shown (r : SlotRecord) : List ShownPart :=
  (r.cand.map (fun c => ⟨c.antenna, (match c.phase with
    | .queued => .queued
    | .window _ => .window), 0, c.mask⟩)).toList ++
  (r.held.map (fun h => ⟨h.antenna, .held, h.tenure, h.mask⟩)).toList ++
  r.freeing.reverse.map (fun p => ⟨p.antenna, .freeing, p.tenure, p.mask⟩)

/-- A part state's code (13.4). -/
def partCode : PartState → Nat
  | .held => 1
  | .freeing => 2
  | .queued => 3
  | .window => 4

/-- A slot's three bytes, most significant first: the first of its parts, 0 for an empty slot. -/
def slotBytes (r : SlotRecord) : List Byte :=
  let w :=
    match r.shown with
    | [] => 0
    | p :: _ => 262144 * p.antenna + 32768 * partCode p.state + 512 * p.tenure + 64 * p.mask.toNat
  [byte (w / 65536), byte (w / 256), byte w]

/-- The number of the lowest line that is on, counting from 1; 0 for none. -/
def lineOn (n : Nat) (l : BitVec n) : Nat :=
  match (List.range n).find? (fun i => l.getLsbD i) with
  | some i => i + 1
  | none => 0

/-- Positions flagged by a test, one bit each, position 15 in bit 7 of the first byte. -/
def State.positionBytes (s : State) (hit : PeerRecord → Bool) : List Byte :=
  let w := (s.pt.records.filter hit).foldl (fun acc r => acc ||| 1#16 <<< r.pos.toNat) 0
  [w.extractLsb' 8 8, w.extractLsb' 0 8]

/-! ### The groups of content (R199, 13.4) -/

/-- Bytes 2 to 17: the lamps, two per byte. -/
def State.lampBytes (s : State) : List Byte :=
  (List.range 16).map (fun k => byte (16 * s.lamp (2 * k + 1) + s.lamp (2 * k + 2)))

/-- The number the record shows: the position number, or in PROBE the tentative number (R26). -/
def State.shownNumber (s : State) : Option Position :=
  if s.jc.state = .probe then s.jc.tentative else s.jc.number

/-- Bytes 18 to 22: joining, plan check, flags, panel mask and window level. -/
def State.joinBytes (s : State) : List Byte :=
  [byte (32 * joinCode s.jc.state + (match s.shownNumber with
      | some p => 16 + p.toNat
      | none => 0)),
    byte s.jc.attempts, s.ps.planCheck,
    byte (flag s.ps.planValid 128 + flag s.pi.waitMode 64 + flag s.ct.relearn.isRunning 32 +
      flag s.cu.standby 16 + flag s.cu.deferred 8 + flag s.pt.linkLost 4 + flag s.pt.disagreement 2 +
      flag s.cu.quiet.isSome 1),
    byte (32 * (s.ct.panelMask.getD 0).toNat + flag s.ks.overflowMark 16 + s.lc.level)]

/-- Bytes 23 to 33: reason, sequencer, lockout and warnings. -/
def State.keyBytes (s : State) : List Byte :=
  [byte (16 * (match s.ie.reason with
      | some r => inhibitCode r
      | none => 0) + seqCode s.ks.state),
    byte (lockCode s.ks.lockout), byte s.ie.warnings.length] ++
    ((s.ie.warnings.map warningByte) ++ List.replicate 8 0).take 8

/-- Bytes 34 to 36: b and F. -/
def State.radioBytes (s : State) : List Byte :=
  let w := 1048576 * s.fu.band + (freqCode s.fu.freq).toNat
  [byte (w / 65536), byte (w / 256), byte w]

/-- Bytes 37 to 48: the slots. -/
def State.slotsBytes (s : State) : List Byte := allSlots.flatMap (fun i => slotBytes (s.slot i))

/-- The label shown for the latched asker: the latch's, else the one its record has gained since, else the
position number (R59, R138; log 48). -/
def State.askerLabel (s : State) (l : Latch) : Label :=
  match l.label, (s.pt.find l.asker).bind (fun r => r.label) with
  | some x, _ => x
  | none, some x => x
  | none, none => positionLabel l.asker

/-- Bytes 49 to 53: the latch. -/
def State.latchBytes (s : State) : List Byte :=
  match s.hu.latch with
  | none => [0, 0, 0, 0, 0]
  | some l =>
    [byte (128 + l.asker.toNat), byte l.antenna, byte (s.askerLabel l).c1.toNat, byte (s.askerLabel l).c2.toNat,
      byte (s.askerLabel l).c3.toNat]

/-- The answer the ask's target gives this part for the asked antenna (log 12). -/
def State.targetAnswer (s : State) (target : Position) (a : Antenna) : Nat :=
  match (s.pt.find target).bind (fun r => r.answer) with
  | some (t, n, k) => if s.jc.number = some t ∧ n = a then answerCode k else 0
  | none => 0

/-- An ask kind's code: the code of the slot it stands for (log 9). -/
def askKindCode : AskKind → Nat
  | .main => 0
  | .aux => 1
  | .next => 2

/-- Bytes 54 to 58: the outgoing ask and the outgoing answer. -/
def State.askBytes (s : State) : List Byte :=
  (match s.hu.ask with
    | .none => [0, 0, 0]
    | .choosing _ p => [64, 0, byte (s.timing.askLife - p)]
    | .standing target a k _ p =>
      [byte (128 + 16 * askKindCode k + target.toNat), byte (64 * s.targetAnswer target a + a),
        byte (s.timing.askLife - p)]) ++
  (match s.hu.answer with
    | none => [0, 0]
    | some x => [byte (16 * answerCode x.kind + x.asker.toNat), byte x.antenna])

/-- Bytes 59 to 62: station quiet and the last command heard. -/
def State.stationBytes (s : State) : List Byte :=
  (match s.cu.quiet with
    | none => [0, 0]
    | some q => [byte q.issuer.toNat, byte q.remaining]) ++
  (match s.cu.last with
    | none => [0, 0]
    | some c =>
      [byte (64 * (if c.applied then 1 else 2) + 4 * (commandCode c.name).toNat + flag c.all 1),
        byte (16 * c.issuer.toNat + c.target.toNat)])

/-- Bytes 67 to 69: the answer. -/
def answerBytes : Option PanelAnswer → List Byte
  | none => [0, 0, 0]
  | some ⟨.nothing, o⟩ => [0, 0, byte (outcomeCode o)]
  | some ⟨.key c, o⟩ => [1, c, byte (outcomeCode o)]
  | some ⟨.block b, o⟩ => [byte (blockCode b), 0, byte (outcomeCode o)]

/-- Bytes 70 to 74: the counters, the refusal count in decimal digits. -/
def State.counterBytes (s : State) : List Byte :=
  let n := s.ks.refusals
  [byte s.lc.lineErrors, byte s.lc.overflows, byte s.fu.sentenceErrors,
    byte (16 * (n / 1000 % 10) + n / 100 % 10), byte (16 * (n / 10 % 10) + n % 10)]

/-- Bytes 75 to 80: the Relay Driver's state, lines and target. -/
def State.relayBytes (s : State) : List Byte :=
  [byte (64 * (match s.rd.state with
      | .steady => 0
      | .breaking => 1
      | .making => 2) + lineOn 10 s.rd.lines.filter),
    byte (lineOn 32 (s.rd.lines.ant &&& ~~~s.auxPathAnt)), byte (lineOn 32 (s.rd.lines.ant &&& s.auxPathAnt)),
    byte (lineOn 32 (s.rd.target.ant &&& ~~~s.auxPathAnt)), byte (lineOn 32 (s.rd.target.ant &&& s.auxPathAnt)),
    byte (lineOn 10 s.rd.target.filter)]

/-- The 79 content characters as the part stands (R199, 13.4). A PARTIAL record's plan-mismatch is shown
like a LIVE one's (R77; log 50). -/
def State.content (s : State) : List Byte :=
  s.lampBytes ++ s.joinBytes ++ s.keyBytes ++ s.radioBytes ++ s.slotsBytes ++ s.latchBytes ++
    s.askBytes ++ s.stationBytes ++ s.positionBytes (fun r => r.mismatch) ++
    s.positionBytes (fun r => r.linkLost) ++ answerBytes s.pi.answer ++ s.counterBytes ++ s.relayBytes

/-- What the Panel Interface reads of a peer record (R59). -/
def PeerRecord.shown (r : PeerRecord) : ShownPeer :=
  let entry (e : Option PeerEntry) : Option (Antenna × Mask × Nat) := e.map (fun e => (e.antenna, e.mask, e.tenure))
  ⟨r.pos, r.label, r.linkLost,
    ⟨entry r.entries.main, entry r.entries.aux, entry r.entries.nextA, entry r.entries.nextB⟩⟩

/-- The displayed content as it stands (R59, R117, R147, R178, R199; log 47). The Relay Driver's target counts whole,
the combiner lines that bytes 78 to 80 do not show included (R178; log 47). -/
def State.displayed (s : State) : Displayed :=
  { content := s.content,
    parts := ⟨(s.slot .main).shown, (s.slot .aux).shown, (s.slot .nextA).shown, (s.slot .nextB).shown⟩,
    waits := s.ct.waitList.map (fun e => (e.antenna, e.slot, e.mask)),
    reservations := s.ct.reservations.map (fun r => (r.antenna, r.position)),
    warnings := s.ie.warnings,
    peers := s.pt.records.map PeerRecord.shown,
    target := s.rd.target }

/-- The 82 characters of a record with some content (R203, 13.4). -/
def displayRecord (content : List Byte) : List Byte :=
  165 :: 79 :: content ++ [byte ((79 :: content).foldl (fun acc c => acc + c.toNat) 0)]

/-! ### Sending records (R199) -/

/-- A record with the content as it stands starts, and the 1 s since a record started begins again (R199). -/
def State.startRecord (s : State) : State :=
  s.setPi { s.pi with
    last := some s.displayed, inFlight := true, pendingChange := false, refresh := s.timerFor (Config.sec 1) }

/-- The first record after reset is still to be sent (R200). -/
def State.firstOwed (s : State) : Bool := s.pi.last.isNone && !s.pi.inFlight

/-- A change of displayed content: a record starts, or the pending flag is set while one is on its way (R199).
The first record after reset was sent at once, with the content the part had before its first command
(R200; log 33). A key that leaves the answer as it was starts none and sets no pending flag by it: a repeat
in LOAD, a code answered "?" while "?" is shown already, and a repeat press of any key with the same outcome (R23, R191,
R195; log 69). -/
def State.piReact (before s : State) : State :=
  if s.firstOwed then
    s.setPi { s.pi with
      last := some before.displayed, inFlight := true, pendingChange := before.displayed != s.displayed,
      refresh := before.timerFor (Config.sec 1) }
  else if before.displayed = s.displayed then s
  else if s.pi.inFlight then s.setPi { s.pi with pendingChange := true }
  else s.startRecord

/-! ### One event, whole -/

/-- The Interlock Evaluator's turn, where its place in the order falls here (log 3). -/
def State.turnIf (s : State) (b : Bool) : State := if b then s.interlockTurn else s

/-- What the blocks do with one event's changes, with the Interlock Evaluator's two open places given
(log 3, log 4). `before` is the part before the event, `s` with the event's own effect. -/
def reactWith (first middle : Bool) (heard : KeyHeard) (before s : State) : State :=
  let s1 := (State.recentReact before (State.remark heard before s)).ptReact
  let s2 := State.ctReact before (s1.turnIf first)
  let s3 := (s2.turnIf middle).relayReact.huReact.jcReact.interlockTurn
  let s4 := State.piReact before (State.sgReact before s3)
  s4.setChoices (s4.choices + 1)

/-- What the blocks do with one event's changes, the open places being free values (log 3). -/
def commit (heard : KeyHeard) (before s : State) : State :=
  reactWith (Config.ieFirst before.choices) (Config.ieMiddle before.choices) heard before s

end Sys2Proof.Machine
end

