-- ==== Sys2Proof/Machine/AskEvents.lean ====
section
/-! DEFINITION. Machine/AskEvents.lean: the meanings of ASK_LIFE_EXPIRY, KEEP_LIFE_EXPIRY and ASK_AGE_WHOLE_PERIOD (Chapter 8). -/

namespace Sys2Proof.Machine

/-- The moment the outgoing ask's age was 0, while there is one (R132). -/
def OutAsk.since : OutAsk → Option Nat
  | .none => Option.none
  | .choosing t _ => some t
  | .standing _ _ _ t _ => some t

/-- The age of the outgoing ask reaches the ask life (R133, R135, R136). -/
def State.askEnds (s : State) : State :=
  match s.hu.ask.since with
  | some t =>
    let s := s.reach (t + s.askLife)
    s.setHu { s.hu with ask := .none }
  | none => s

/-- ASK_LIFE_EXPIRY (R136). -/
def execAskLifeExpiry (s : State) : Host.Outcome State Fault Refusal := .next (commit .nothing s s.askEnds)

/-- KEEP_LIFE_EXPIRY (R142). -/
def execKeepLifeExpiry (s : State) : Host.Outcome State Fault Refusal :=
  .next (commit .nothing s
    (s.onExpiry s.hu.keepTimer (fun s => s.setHu { s.hu with answer := none, keepTimer := .stopped })))

/-- The ask with one more whole period passed (R132). -/
def OutAsk.older : OutAsk → OutAsk
  | .none => .none
  | .choosing t p => .choosing t (p + 1)
  | .standing d a k t p => .standing d a k t (p + 1)

/-- The whole periods of the ask's age so far. -/
def OutAsk.periods : OutAsk → Nat
  | .none => 0
  | .choosing _ p => p
  | .standing _ _ _ _ p => p

/-- The ask's age reaches one more whole period of the own P (R132; log 13). -/
def State.askPeriod (s : State) : State :=
  match s.hu.ask.since with
  | some t =>
    let s := s.reach (t + (s.hu.ask.periods + 1) * s.period)
    s.setHu { s.hu with ask := s.hu.ask.older }
  | none => s

/-- ASK_AGE_WHOLE_PERIOD (R132). -/
def execAskAgeWholePeriod (s : State) : Host.Outcome State Fault Refusal := .next (commit .nothing s s.askPeriod)

end Sys2Proof.Machine
end

