-- ==== Sys2Proof/Machine/StatusEvents.lean ====
section
/-! DEFINITION. Machine/StatusEvents.lean: the meanings of STATUS_INTERVAL_EXPIRY, STATUS_COMPLETE, RECENT_CHANGE_EXPIRY and SELF_DROP_LIMIT (Chapter 5). -/

namespace Sys2Proof.Machine

/-- The interval has passed: the timer restarts and a STATUS is built and offered (R86). -/
def State.intervalEnds (s : State) : State :=
  (s.setSg { s.sg with interval := s.timerFor (s.frameInterval s.sg.cadence) }).offerStatus

/-- STATUS_INTERVAL_EXPIRY (R86). -/
def execStatusIntervalExpiry (s : State) : Host.Outcome State Fault Refusal :=
  .next (commit .nothing s (s.onExpiry s.sg.interval State.intervalEnds))

/-- The tenures a completed frame of the part put on the link for a slot (R106). -/
def SlotRecord.linked (r : SlotRecord) (t : Nat) : SlotRecord :=
  { r with
    held := r.held.map (fun h => { h with tenureLink := t }),
    freeing := r.freeing.map (fun p => { p with tenureLink := t }) }

/-- The Claim Table takes the entries a completed STATUS carried (R87, R106); an empty entry carries no tenure
(R202; log 43). -/
def State.takeTenures (s : State) (l : List (Slot × EntryCode)) : State :=
  l.foldl (fun s e =>
    if e.2.antenna = 0 then s else s.setSlot e.1 ((s.slot e.1).linked e.2.tenure.toNat)) s

/-- A STATUS carried the last slice of its round (R82). -/
def lastSlice (f : StatusFrame) : Bool :=
  f.slice.toNat + 1 == sliceCount (cadenceOfCode f.cadence)

/-- The part's STATUS has gone out (R46, R49, R53, R87, R169; log 26 for a stopped generator). -/
def State.statusOut (s : State) (f : StatusFrame) : State :=
  let dropped := s.lc.heldStatus.isSome
  let s := s.landed
  let s := s.setLc { s.lc with heldStatus := none }
  let s := s.setKs { s.ks with keyTenureLink := f.keyTenure.toNat }
  let s := (s.renewSlots (statusSlots f)).takeTenures (statusEntries f)
  let s := if f.cadence = 0 then s.setSg { s.sg with obligation := false } else s
  let s := if s.sg.running then
      (if lastSlice f then s.roundEnd else s.setSg { s.sg with slice := s.sg.slice + 1 })
    else s
  let s := s.setSg { s.sg with outstanding := none }
  if dropped then s.offerStatus else s

/-- The body of a completed STATUS. -/
def statusOf (f : LinkFrame) : Option StatusFrame :=
  match f.body with
  | .status b => some b
  | _ => none

/-- STATUS_COMPLETE (R87). -/
def execStatusComplete (s : State) : Host.Outcome State Fault Refusal :=
  .next (commit .nothing s (match (s.flight isStatus).bind statusOf with
    | some f => s.statusOut f
    | none => s))

/-- RECENT_CHANGE_EXPIRY (R90). -/
def execRecentChangeExpiry (s : State) : Host.Outcome State Fault Refusal :=
  .next (commit .nothing s (s.onExpiry s.sg.recent (fun s => s.setSg { s.sg with recent := .expired })))

/-- A slot's renewal age reaches 8P with its mark clear and something to drop (R94). -/
def State.renewalLimit (s : State) (i : Slot) : State :=
  if s.slotLive i && !s.sg.notified.get i then
    (s.reach (s.sg.renewed.get i + 8 * s.period)).selfDropNotice i
  else s

/-- SELF_DROP_LIMIT (R94). -/
def execSelfDropLimit (i : Slot) (s : State) : Host.Outcome State Fault Refusal :=
  .next (commit .nothing s (s.renewalLimit i))

end Sys2Proof.Machine
end

