-- ==== Sys2Proof/Machine/ClaimEvents.lean ====
section
/-! DEFINITION. Machine/ClaimEvents.lean: the meanings of CLAIM_COMPLETE, CLAIM_WINDOW_EXPIRY, TENURE_PERIOD_EXPIRY, RELEASE_COMPLETE, RESERVATION_EXPIRY, RELEARN_QUIET_EXPIRY and GROW_WINDOW_EXPIRY (Chapters 6 and 7). -/

namespace Sys2Proof.Machine

/-- Some antenna of a list is not available in the view. -/
def State.anyFull (s : State) (l : List Antenna) : Bool := l.any (fun a => !s.available a)

/-- A QUEUED candidate's CLAIM has gone out: lost on the view, or in its window (R103). -/
def State.candidateOut (s : State) (i : Slot) (c : Candidate) : State :=
  if s.anyFull (s.uses c.antenna c.mask) then
    ((s.setSlot i { s.slot i with cand := none }).offerRelease i c.antenna .lost none).1
  else s.setSlot i { s.slot i with cand := some { c with phase := .window (s.now + s.window) } }

/-- A QUEUED grow's CLAIM has gone out: lost on the view, or in its window (R125, R126). -/
def State.growOut (s : State) (i : Slot) (h : HeldPart) (g : Grow) : State :=
  if s.anyFull (s.membersOf h.antenna (g.mask &&& ~~~h.mask)) then s.growLost i h
  else
    s.setSlot i { s.slot i with
      held := some { h with grow := some { g with phase := .window (s.now + s.window) } } }

/-- A plain CLAIM of the part has gone out (R103, R125; log 35 for one whose candidate has gone). -/
def State.plainClaimOut (s : State) (i : Slot) (a : Antenna) : State :=
  if (unsent (isPlainClaimFor i a) s.lc.queue).isSome then s
  else
    match s.queuedCand i a, s.queuedGrow i a with
    | some c, _ => s.candidateOut i c
    | none, some (h, g) => s.growOut i h g
    | none, none => s

/-- The part's CLAIM has gone out (R46, R93, R103, R106). -/
def State.claimOut (s : State) (f : ClaimFrame) : State :=
  let s := s.landed.renewSlots [f.slot]
  let s := s.setSlot f.slot ((s.slot f.slot).linked f.tenure.toNat)
  if f.isAssert then s else s.plainClaimOut f.slot f.antenna.toNat

/-- The frame is a CLAIM, with its fields. -/
def claimOf (f : LinkFrame) : Option ClaimFrame :=
  match f.body with
  | .claim b => some b
  | _ => none

/-- The frame is a CLAIM. -/
def isClaim (f : LinkFrame) : Bool := (claimOf f).isSome

/-- CLAIM_COMPLETE (R103). -/
def execClaimComplete (s : State) : Host.Outcome State Fault Refusal :=
  .next (commit .nothing s (match (s.flight isClaim).bind claimOf with
    | some f => s.claimOut f
    | none => s))

/-- A candidate becomes the slot's HELD part (R105, R119), with the pacing mark of its last assert (R107; log 67). -/
def Candidate.hold (c : Candidate) (i : Slot) (period : Timer) : HeldPart :=
  { antenna := c.antenna, mask := c.mask, drive := if i = .main then c.mask else 0, tenure := 0,
    tenureLink := 0, period := period, shrink := none, grow := none, give := none,
    lastAssert := c.lastAssert }

/-- A candidate's window has passed: it is HELD, and the old hold is FREEING (R105). -/
def State.windowEnds (s : State) (i : Slot) (c : Candidate) : State :=
  let s := s.freeHold i .voluntary none
  s.setSlot i { s.slot i with held := some (c.hold i (s.timerFor s.period)), cand := none }

/-- The claim window of a slot runs out, where one runs (R105). -/
def State.slotWindowEnds (s : State) (i : Slot) : State :=
  match (s.slot i).cand with
  | some c =>
    match c.phase with
    | .window due => (s.reach due).windowEnds i c
    | .queued => s
  | none => s

/-- CLAIM_WINDOW_EXPIRY (R105). -/
def execClaimWindowExpiry (i : Slot) (s : State) : Host.Outcome State Fault Refusal :=
  .next (commit .nothing s (s.slotWindowEnds i))

/-- A hold's tenure rises by one; at 63 it stays and the timer stops (R106). -/
def HeldPart.older (h : HeldPart) (next : Timer) : HeldPart :=
  let t := satSucc 63 h.tenure
  { h with tenure := t, period := if 63 ≤ t then .stopped else next }

/-- The tenure period of a slot's HELD part runs out (R106). -/
def State.tenurePeriodEnds (s : State) (i : Slot) : State :=
  match (s.slot i).held with
  | some h =>
    s.onExpiry h.period (fun s =>
      s.setSlot i { s.slot i with held := some (h.older (s.timerFor s.period)) })
  | none => s

/-- TENURE_PERIOD_EXPIRY (R106). -/
def execTenurePeriodExpiry (i : Slot) (s : State) : Host.Outcome State Fault Refusal :=
  .next (commit .nothing s (s.tenurePeriodEnds i))

/-- The frame carries the RELEASE that this freeing part has offered. -/
def FreeingPart.sentBy (p : FreeingPart) (f : ReleaseFrame) : Bool :=
  p.released && p.antenna == f.antenna.toNat && reasonCode p.reason == f.reason &&
    p.yieldTo.isSome == f.yieldValid && p.yieldTo.getD 0 == f.yieldTo

/-- An equal RELEASE is still in the queue, such as that of a hold made after its antenna's last one was queued. -/
def State.releaseQueued (s : State) (f : ReleaseFrame) : Bool := s.lc.queue.any (fun e => e.frame.body == .release f)

/-- A slot still gives an antenna to a position: a freeing part that yields, a hand-over's shrink or a deferred
give (R129, R140). -/
def State.slotGives (s : State) (y : Position) (a : Antenna) (i : Slot) : Bool :=
  (s.slot i).freeing.any (fun p => p.yieldTo == some y && (s.uses p.antenna p.mask).contains a) ||
    (s.slot i).held.any (fun h => h.give == some (a, y) ||
      h.shrink.any (fun x => x.yieldTo == some y && (s.membersOf h.antenna (h.mask &&& ~~~x.mask)).contains a))

/-- Some slot still gives an antenna to a position. -/
def State.gives (s : State) (y : Position) (a : Antenna) : Bool := allSlots.any (s.slotGives y a)

/-- The part's RELEASE has gone out: its freeing part goes, and a GIVING is done (R110, R141). Equal RELEASEs go out in
the order of their offers (R47), and while a freeing part waits for its own no equal one is offered after it, so that
its own is the last of them. A GIVING whose give has still to send its RELEASE stays (log 73). -/
def State.releaseOut (s : State) (f : ReleaseFrame) : State :=
  let s := s.landed
  if s.releaseQueued f then s
  else
    let parts := (s.slot f.slot).freeing.filter (fun p => p.sentBy f)
    let s := s.setSlot f.slot { s.slot f.slot with
      freeing := (s.slot f.slot).freeing.filter (fun p => !p.sentBy f) }
    let s := parts.foldl (fun s p => s.givingPartDone p) s
    if f.yieldValid && !s.gives f.yieldTo f.antenna.toNat then s.givingDone f.yieldTo [f.antenna.toNat] else s

/-- The frame is a RELEASE, with its fields. -/
def releaseOf (f : LinkFrame) : Option ReleaseFrame :=
  match f.body with
  | .release b => some b
  | _ => none

/-- RELEASE_COMPLETE (R110). -/
def execReleaseComplete (s : State) : Host.Outcome State Fault Refusal :=
  .next (commit .nothing s (match (s.flight isRelease).bind releaseOf with
    | some f => s.releaseOut f
    | none => s))

/-- The reservation of an antenna ends after its 2W (R113). -/
def State.reservationEnds (s : State) (a : Antenna) : State :=
  match s.ct.reservations.find? (fun r => r.antenna == a) with
  | some r =>
    let s := s.reach r.due
    s.setCt { s.ct with reservations := s.ct.reservations.filter (fun q => q.antenna != a) }
  | none => s

/-- RESERVATION_EXPIRY (R113). -/
def execReservationExpiry (a : Antenna) (s : State) : Host.Outcome State Fault Refusal :=
  .next (commit .nothing s (s.reservationEnds a))

/-- RELEARN_QUIET_EXPIRY (R116). -/
def execRelearnQuietExpiry (s : State) : Host.Outcome State Fault Refusal :=
  .next (commit .nothing s (s.onExpiry s.ct.relearn (fun s => s.setCt { s.ct with relearn := .stopped })))

/-- A grow's window has passed: the held mask is the grown mask, and a shrink to follow begins (R126). -/
def HeldPart.grown (h : HeldPart) (g : Grow) : HeldPart :=
  { h with mask := g.mask, grow := none, shrink := g.andThen.map (fun m => ⟨m, none⟩) }

/-- The window of the grow of the port in MAIN runs out, where one runs (R126). -/
def State.growWindowEnds (s : State) : State :=
  match (s.slot .main).held with
  | some h =>
    match h.grow with
    | some g =>
      match g.phase with
      | .window due =>
        let s := s.reach due
        s.setSlot .main { s.slot .main with held := some (h.grown g) }
      | .queued => s
    | none => s
  | none => s

/-- GROW_WINDOW_EXPIRY (R126). -/
def execGrowWindowExpiry (s : State) : Host.Outcome State Fault Refusal :=
  .next (commit .nothing s s.growWindowEnds)

end Sys2Proof.Machine
end

