-- ==== Sys2Proof/Machine/LinkEvents.lean ====
section
/-! DEFINITION. Machine/LinkEvents.lean: the meanings of the link line's own events: RECEIVER_SYNCED, FRAME_START, START_MARK_RECEIVED, CONTENTION_LOST, SENDER_LINE_FAULT, FRAME_FAULT and ADAPTATION_PERIOD_END (Chapter 3). -/

namespace Sys2Proof.Machine

/-- RECEIVER_SYNCED (R38): after 10 recessive cells in SYNC the line is free. -/
def execReceiverSynced (s : State) : Host.Outcome State Fault Refusal :=
  .next (commit .nothing s
    (if s.lc.receiver = .sync then s.setLc { s.lc with receiver := .idle } else s))

/-- START_MARK_RECEIVED (R38, R40): in IDLE a dominant bit is another part's start mark. -/
def execStartMarkReceived (s : State) : Host.Outcome State Fault Refusal :=
  .next (commit .nothing s
    (if s.lc.receiver = .idle then s.setLc { s.lc with receiver := .frame } else s))

/-- A start opportunity (R40). -/
def State.mayStart (s : State) : Bool :=
  s.lc.receiver == .idle && (flying s.lc.queue).isNone && !s.lc.queue.isEmpty

/-- FRAME_START (R40): the frame at the head of the queue goes into flight. -/
def execFrameStart (s : State) : Host.Outcome State Fault Refusal :=
  .next (commit .nothing s
    (if s.mayStart then s.setLc { s.lc with queue := launchHead s.lc.queue, receiver := .frame } else s))

/-- A CLAIM withdrawn at the end of its flight: its QUEUED candidate or grow is taken as R102 gives,
unless another CLAIM of it still waits (R51, R102, R125). -/
def State.claimWithdrawn (s : State) (f : LinkFrame) : State :=
  match f.body with
  | .claim c =>
    let a := c.antenna.toNat
    if c.isAssert || (unsent (isPlainClaimFor c.slot a) s.lc.queue).isSome then s
    else
      match s.queuedCand c.slot a, s.queuedGrow c.slot a with
      | some x, _ => s.candidateWithdrawn c.slot x
      | none, some (h, g) => s.growWithdrawn c.slot h g
      | none, none => s
  | _ => s

/-- The held STATUS is offered against the one that lost its flight (R49). -/
def State.offerHeldStatus (s : State) : State :=
  match s.lc.heldStatus with
  | none => s
  | some f =>
    let r := (s.setLc { s.lc with heldStatus := none }).offer f
    if r.2 = .refused then r.1.setSg { r.1.sg with outstanding := none } else r.1

/-- The flight ends without completion: the frame is unsent again or, where marked, withdrawn; the held
offer of its class is offered; a withdrawal is told (R41, R42, R49, R51). -/
def State.flightLost (s : State) : State :=
  match flying s.lc.queue with
  | none => s
  | some e =>
    let q := if e.withdraw then s.lc.queue.filter (fun x => !x.inFlight)
      else s.lc.queue.map (fun x => { x with inFlight := false })
    let s := s.setLc { s.lc with queue := q }
    let s := if isStatus e.frame then
        (if e.withdraw then s.setSg { s.sg with outstanding := none } else s).offerHeldStatus
      else if isKey e.frame then s.offerHeldKey
      else s
    if e.withdraw then (s.withdrawnNotices [e.frame]).claimWithdrawn e.frame else s

/-- CONTENTION_LOST (R41): the part goes on as a receiver. -/
def execContentionLost (s : State) : Host.Outcome State Fault Refusal :=
  .next (commit .nothing s s.flightLost)

/-- The receiver enters SYNC with one line error event (R42 to R44). -/
def State.lineFault (s : State) : State := (s.setLc { s.lc with receiver := .sync }).lineError

/-- SENDER_LINE_FAULT (R42). -/
def execSenderLineFault (s : State) : Host.Outcome State Fault Refusal :=
  .next (commit .nothing s (if (flying s.lc.queue).isSome then s.flightLost.lineFault else s))

/-- FRAME_FAULT (R43): the five faults act alike, and in FRAME alone. -/
def execFrameFault (_kind : FaultKind) (s : State) : Host.Outcome State Fault Refusal :=
  .next (commit .nothing s (if s.gathering then s.lineFault else s))

/-- An adaptation period ends and the next begins (R57). -/
def State.adaptationEnds (s : State) : State :=
  s.setLc { s.lc with
    level := levelAtPeriodEnd s.timing.atkDly s.lc.errorCount s.lc.level, errorCount := 0,
    adaptation := s.timerFor (8 * s.period) }

/-- ADAPTATION_PERIOD_END (R57). -/
def execAdaptationPeriodEnd (s : State) : Host.Outcome State Fault Refusal :=
  .next (commit .nothing s (s.onExpiry s.lc.adaptation State.adaptationEnds))

end Sys2Proof.Machine
end

