-- ==== Sys2Proof/Machine/Received.lean ====
section
/-! DEFINITION. Machine/Received.lean: the meanings of STATUS_RECEIVED, CLAIM_RECEIVED, RELEASE_RECEIVED, KEY_RECEIVED and PROBE_RECEIVED (R45, R65 to R68, R32). A frame comes in only while the receiver is in FRAME (R38), and one with a code R43 faults is taken as that fault. -/

namespace Sys2Proof.Machine

/-- A frame that the receiver gathers in FRAME is taken where its fields show no fault of R43, and as a line
fault otherwise; in SYNC and IDLE none comes in (R38, R43, R45; log 6). -/
def State.takeGood (s : State) (b : FrameBody) (body : State → State) : State :=
  if s.gathering then (if b.fault.isSome then s.lineFault else body s.heardFrame) else s

/-- The effect on the Claim Table of a frame from p, where p is another position (R60). -/
def State.fromPeer (s : State) (p : Position) (body : State → State) : State :=
  if s.isOwn p then s else body s

/-- The Claim Table judges the entries of a STATUS as the frame carries them (R102, R104, R108; log 68). -/
def State.judgeStatus (s : State) (f : StatusFrame) : State :=
  (statusEntries f).foldl (fun s e => s.judgeEntry e.2.antenna.toNat e.2.mask (.status e.2.tenure.toNat)) s

/-- A good STATUS at its receivers (R33, R45, R65, R138). -/
def State.statusHeard (p : Position) (f : StatusFrame) (s : State) : State :=
  (((s.applyStatus p f).senderHeard p false).fromPeer p (fun s => s.judgeStatus f)).headHeard p

/-- STATUS_RECEIVED (R65). -/
def execStatusReceived (p : Position) (f : StatusFrame) (s : State) : Host.Outcome State Fault Refusal :=
  .next (commit .nothing s (s.takeGood (.status f) (State.statusHeard p f)))

/-- A good CLAIM at its receivers (R33, R45, R66, R113). -/
def State.claimHeard (p : Position) (f : ClaimFrame) (s : State) : State :=
  ((s.applyClaim p f).senderHeard p false).fromPeer p (fun s =>
    (s.unreserve f.antenna.toNat p).judgeEntry f.antenna.toNat f.mask
      (if f.isAssert then .assertClaim else .plainClaim f.tenure.toNat))

/-- CLAIM_RECEIVED (R66). -/
def execClaimReceived (p : Position) (f : ClaimFrame) (s : State) : Host.Outcome State Fault Refusal :=
  .next (commit .nothing s (s.takeGood (.claim f) (State.claimHeard p f)))

/-- The antennas a RELEASE frees in the view before it is applied: the antenna it names and, where the
sender's entry is that port, the members in its mask (R113, R128). -/
def State.freedBy (s : State) (p : Position) (f : ReleaseFrame) : List Antenna :=
  let a := f.antenna.toNat
  match (s.pt.find p).bind (fun r => r.entries.get f.slot) with
  | some e => if e.antenna = a then s.uses a e.mask else [a]
  | none => [a]

/-- A good RELEASE at its receivers (R33, R45, R67, R113, R128). -/
def State.releaseHeard (p : Position) (f : ReleaseFrame) (s : State) : State :=
  ((s.applyRelease p f).senderHeard p false).fromPeer p (fun t =>
    if f.yieldValid && f.antenna != 0 then t.yieldGrace f.yieldTo (s.freedBy p f) else t)

/-- RELEASE_RECEIVED (R67). -/
def execReleaseReceived (p : Position) (f : ReleaseFrame) (s : State) : Host.Outcome State Fault Refusal :=
  .next (commit .nothing s (s.takeGood (.release f) (State.releaseHeard p f)))

/-- The Key Sequencer's answer to a peer's KEY on a single-signal band (R170). -/
def State.answerPeerKey (s : State) (p : Position) (f : KeyFrame) : State :=
  match s.ks.state, s.pt.find p with
  | .ampOn, some r | .transmit, some r =>
    if (s.bandEntry s.fu.band).single && s.fu.band != 0 && r.counted && r.band == s.fu.band && f.on &&
        (!f.isAssert || !s.peerKeyRanksFirst r) then s.offerKeyAssert
    else s
  | _, _ => s

/-- A good KEY at its receivers (R33, R45, R68, R170). -/
def State.keyHeard (p : Position) (f : KeyFrame) (s : State) : State :=
  ((s.applyKey p f).senderHeard p false).fromPeer p (fun s => s.answerPeerKey p f)

/-- What a KEY frame says to the Interlock Evaluator (R72, R158). -/
def keyNews (p : Position) (f : KeyFrame) : KeyHeard :=
  if !f.on then .nothing else if f.isAssert then .assertOn p else .plainOn p

/-- KEY_RECEIVED (R68). -/
def execKeyReceived (p : Position) (f : KeyFrame) (s : State) : Host.Outcome State Fault Refusal :=
  .next (commit (if s.gathering then keyNews p f else .nothing) s (s.takeGood (.key f) (State.keyHeard p f)))

/-- A good PROBE at the Join Controller: it can fail an attempt, and in RUN a PROBE for the own number is
answered with a STATUS at once (R29, R32). -/
def State.probeHeard (p : Position) (s : State) : State :=
  let s := s.senderHeard p true
  if s.jc.state = .run ∧ s.isOwn p = true then s.offerStatus else s

/-- PROBE_RECEIVED (R32). -/
def execProbeReceived (p : Position) (f : ProbeFrame) (s : State) : Host.Outcome State Fault Refusal :=
  .next (commit .nothing s (s.takeGood (.probe f) (State.probeHeard p)))

end Sys2Proof.Machine
end

