-- ==== Sys2Proof/Machine/Commands.lean ====
section
/-! DEFINITION. Machine/Commands.lean: the meanings of QUIET_COMMAND, QUIET_END_COMMAND, REJOIN_COMMAND, RELEARN_COMMAND, COMMAND_COMPLETE and QUIET_SECOND_EXPIRY (Chapter 11). -/

namespace Sys2Proof.Machine

/-- The issuer's row in the own plan has may-command set (R182). -/
def State.mayCommand (s : State) (issuer : Position) : Bool :=
  match s.row issuer with
  | some r => r.mayCommand
  | none => false

/-- The own row has accept-commands set (R182). -/
def State.acceptsCommands (s : State) : Bool :=
  match s.ownRow with
  | some r => r.acceptCommands
  | none => false

/-- The command is applied here (R182); `own` says that it is the part's own completed frame. -/
def State.applies (s : State) (name : CommandName) (issuer : Position) (f : CommandFields) (own : Bool) : Bool :=
  s.jc.number.isSome && s.ps.plan.isSome && s.acceptsCommands && s.mayCommand issuer &&
    (own || s.jc.number != some issuer) && (name != .rejoin || f.all || s.jc.number == some f.target)

/-- The last command heard (R180, R182): the fields a command does not read stand as the key sends them (R181). -/
def lastOf (name : CommandName) (issuer : Position) (f : CommandFields) (applied : Bool) : LastCommand :=
  if name = .rejoin then ⟨name, issuer, f.all, if f.all then 0 else f.target, applied⟩
  else ⟨name, issuer, true, 0, applied⟩

/-- Station quiet comes into force (R183). -/
def State.startQuiet (s : State) (issuer : Position) (seconds : Nat) : State :=
  s.setCu { s.cu with quiet := some ⟨issuer, seconds⟩, quietTimer := s.timerFor (Config.sec 1) }

/-- Station quiet ends (R183, R184). -/
def State.endQuiet (s : State) : State := s.setCu { s.cu with quiet := none, quietTimer := .stopped }

/-- RELEARN applied: in RUN the view is emptied and the relearn quiet runs 2P (R80, R116, R186). -/
def State.relearn (s : State) : State :=
  if s.jc.state = .run then
    let s := s.emptyPeers
    s.setCt { s.ct with relearn := s.timerFor (2 * s.period) }
  else s

/-- What applying a command does (R183 to R186). -/
def State.applyCommand (s : State) (name : CommandName) (issuer : Position) (f : CommandFields) : State :=
  match name with
  | .quiet => s.startQuiet issuer (readDuration f.duration)
  | .quietEnd => s.endQuiet
  | .rejoin => s.rejoinRequest
  | .relearn => s.relearn

/-- A COMMAND taken at the Command Unit (R182); in LOAD and UNPLANNED none is. -/
def State.takeCommand (s : State) (name : CommandName) (issuer : Position) (f : CommandFields) (own : Bool) : State :=
  if s.jc.state = .load ∨ s.jc.state = .unplanned then s
  else
    let applied := s.applies name issuer f own
    let s := s.setCu { s.cu with last := some (lastOf name issuer f applied) }
    if applied then s.applyCommand name issuer f else s

/-- A good COMMAND of another sender at its receivers (R33, R45, R182). -/
def State.commandHeard (name : CommandName) (issuer : Position) (f : CommandFields) (s : State) : State :=
  s.takeGood (.command name f) (fun s => (s.senderHeard issuer false).takeCommand name issuer f false)

/-- QUIET_COMMAND (R183). -/
def execQuietCommand (issuer : Position) (f : CommandFields) (s : State) : Host.Outcome State Fault Refusal :=
  .next (commit .nothing s (s.commandHeard .quiet issuer f))

/-- QUIET_END_COMMAND (R184). -/
def execQuietEndCommand (issuer : Position) (f : CommandFields) (s : State) : Host.Outcome State Fault Refusal :=
  .next (commit .nothing s (s.commandHeard .quietEnd issuer f))

/-- REJOIN_COMMAND (R185). -/
def execRejoinCommand (issuer : Position) (f : CommandFields) (s : State) : Host.Outcome State Fault Refusal :=
  .next (commit .nothing s (s.commandHeard .rejoin issuer f))

/-- RELEARN_COMMAND (R186). -/
def execRelearnCommand (issuer : Position) (f : CommandFields) (s : State) : Host.Outcome State Fault Refusal :=
  .next (commit .nothing s (s.commandHeard .relearn issuer f))

/-- The part's own COMMAND has gone out: it is taken as received from itself (R46, R181). -/
def State.commandOut (s : State) (f : LinkFrame) : State :=
  let s := s.landed
  let s := s.setCu { s.cu with outstanding := none }
  match f.body with
  | .command name c => s.takeCommand name f.sender c true
  | _ => s

/-- COMMAND_COMPLETE (R181). -/
def execCommandComplete (s : State) : Host.Outcome State Fault Refusal :=
  .next (commit .nothing s (match s.flight isCommand with
    | some f => s.commandOut f
    | none => s))

/-- A second of station quiet has passed (R183). -/
def State.quietSecond (s : State) : State :=
  match s.cu.quiet with
  | some q =>
    if q.remaining ≤ 1 then s.endQuiet else s.startQuiet q.issuer (q.remaining - 1)
  | none => s.endQuiet

/-- QUIET_SECOND_EXPIRY (R183). -/
def execQuietSecondExpiry (s : State) : Host.Outcome State Fault Refusal :=
  .next (commit .nothing s (s.onExpiry s.cu.quietTimer State.quietSecond))

end Sys2Proof.Machine
end

