-- ==== Sys2Proof/Machine/Display.lean ====
section
/-! DEFINITION. Machine/Display.lean: the meanings of DISPLAY_RECORD_SENT and DISPLAY_REFRESH_EXPIRY (12.6). -/

namespace Sys2Proof.Machine

/-- The first record after reset, on its way where no command has come before (R200; log 33). -/
def State.openFirst (s : State) : State := if s.firstOwed then s.startRecord else s

/-- A record's last character has gone out: a pending change starts the next one, where the content
differs from the last (R199). -/
def State.recordSent (s : State) : State :=
  if s.pi.inFlight then
    let pending := s.pi.pendingChange
    let s := s.setPi { s.pi with inFlight := false, pendingChange := false }
    if pending && s.pi.last != some s.displayed then s.startRecord else s
  else s

/-- DISPLAY_RECORD_SENT (R199). -/
def execDisplayRecordSent (s : State) : Host.Outcome State Fault Refusal :=
  .next (commit .nothing s s.openFirst.recordSent)

/-- No record has started for 1 s: one starts with the content as it stands (R199). -/
def State.refreshDue (s : State) : State :=
  if s.pi.inFlight then s.setPi { s.pi with refresh := s.timerFor (Config.sec 1) } else s.startRecord

/-- DISPLAY_REFRESH_EXPIRY (R199). -/
def execDisplayRefreshExpiry (s : State) : Host.Outcome State Fault Refusal :=
  .next (commit .nothing s (s.onExpiry s.pi.refresh State.refreshDue))

end Sys2Proof.Machine
end

