-- ==== Sys2Proof/Machine/JoinEvents.lean ====
section
/-! DEFINITION. Machine/JoinEvents.lean: the meanings of LISTEN_TIMER_EXPIRY, PROBE_COMPLETE, PROBE_WAIT_EXPIRY and LEAVING_COMPLETE (2.8 to 2.11). -/

namespace Sys2Proof.Machine

/-- LISTEN ends (R28). -/
def State.listenEnds (s : State) : State :=
  let s := s.setJc { s.jc with listenTimer := .stopped }
  match s.jc.number with
  | some n => s.enterRun n
  | none => if s.ps.fixedNumber then s.enterRun s.ps.preferred else s.attemptFrom s.ps.preferred

/-- LISTEN_TIMER_EXPIRY (R28). -/
def execListenTimerExpiry (s : State) : Host.Outcome State Fault Refusal :=
  .next (commit .nothing s (s.onExpiry s.jc.listenTimer State.listenEnds))

/-- The own PROBE has gone out: the probe wait runs 2P where it carried the number still being probed (R30, R46). -/
def State.probeOut (s : State) (f : LinkFrame) : State :=
  let s := s.landed
  if s.jc.state = .probe ∧ s.jc.tentative = some f.sender then
    s.setJc { s.jc with probeWait := s.timerFor (2 * s.period) }
  else s

/-- PROBE_COMPLETE (R30). -/
def execProbeComplete (s : State) : Host.Outcome State Fault Refusal :=
  .next (commit .nothing s (match s.flight isProbe with
    | some f => s.probeOut f
    | none => s))

/-- The probe wait has passed: the tentative number is the position number (R30). -/
def State.probeWaitEnds (s : State) : State :=
  match s.jc.tentative with
  | some t => s.enterRun t
  | none => s.setJc { s.jc with probeWait := .stopped }

/-- PROBE_WAIT_EXPIRY (R30). -/
def execProbeWaitExpiry (s : State) : Host.Outcome State Fault Refusal :=
  .next (commit .nothing s (s.onExpiry s.jc.probeWait State.probeWaitEnds))

/-- LEAVING_COMPLETE (R35): where its conditions hold (log 7). -/
def execLeavingComplete (s : State) : Host.Outcome State Fault Refusal :=
  .next (commit .nothing s (if s.leavingDone then s.finishLeaving else s))

end Sys2Proof.Machine
end

