-- ==== Sys2Proof/Machine/Keying.lean ====
section
/-! DEFINITION. Machine/Keying.lean: the meanings of PTT_PRESS, PTT_RELEASE, KEY_COMPLETE, T_SEQ_EXPIRY, TAIL_EXPIRY and KEY_TENURE_PERIOD_EXPIRY (10.1). -/

namespace Sys2Proof.Machine

/-- A change of the PTT input to pressed: judged in RECEIVE, kept as the level elsewhere (R162, R163, R168). -/
def State.press (s : State) : State :=
  if s.ks.ptt then s
  else
    let s := s.setKs { s.ks with ptt := true }
    if s.ks.state = .receive then s.judgePress else s

/-- PTT_PRESS (R163). -/
def execPttPress (s : State) : Host.Outcome State Fault Refusal := .next (commit .nothing s s.press)

/-- A change of the PTT input to released, by the sequencer's state (R164, R166 to R168). -/
def State.release (s : State) : State :=
  if s.ks.ptt then
    let s := s.setKs { s.ks with ptt := false }
    match s.ks.state with
    | .keyWait | .lockout => s.enterReceive
    | .announce => (s.enterReceive.withdraw isPlainKeyOn).syncKeyOn
    | .ampOn | .transmit => s.startTail .release none
    | .receive | .tail => s
  else s

/-- PTT_RELEASE (R167). -/
def execPttRelease (s : State) : Host.Outcome State Fault Refusal := .next (commit .nothing s s.release)

/-- The body of a KEY frame. -/
def keyOf (f : LinkFrame) : Option KeyFrame :=
  match f.body with
  | .key b => some b
  | _ => none

/-- The part's plain KEY on has gone out: read in ANNOUNCE, and followed by a KEY off where the sequencer
has left it (R165, R166; log 15). In ANNOUNCE a KEY on that was marked for withdrawal before the press is read as
the announce's own (log 65). -/
def State.keyOnOut (s : State) (outstanding : Bool) : State :=
  match s.ks.state with
  | .announce => s.announceRead
  | .receive | .keyWait | .lockout => if outstanding then s.offerKeyOff else s
  | .ampOn | .transmit | .tail => s

/-- The part's KEY has gone out: the key tenure on link is what it carried, and the held KEY follows (R46,
R49, R165, R166, R169). -/
def State.keyOut (s : State) (f : KeyFrame) : State :=
  let outstanding := s.ks.keyOnOutstanding
  let s := s.landed
  let s := s.setKs { s.ks with keyTenureLink := f.tenure.toNat }
  let s := if f.on && !f.isAssert then s.keyOnOut outstanding else s
  s.offerHeldKey.syncKeyOn

/-- KEY_COMPLETE (R165). -/
def execKeyComplete (s : State) : Host.Outcome State Fault Refusal :=
  .next (commit .nothing s (match (s.flight isKey).bind keyOf with
    | some f => s.keyOut f
    | none => s))

/-- In AMP-ON the sequencer timer runs out: TRANSMIT (R167). -/
def State.seqEnds (s : State) : State := s.setKs { s.ks with state := .transmit, timer := .stopped }

/-- T_SEQ_EXPIRY (R167). -/
def execTSeqExpiry (s : State) : Host.Outcome State Fault Refusal :=
  .next (commit .nothing s (if s.ks.state = .ampOn then s.onExpiry s.ks.timer State.seqEnds else s))

/-- AMP KEY goes off: the key tenure ends and the tail cause is none (R168). -/
def State.ampOff (s : State) : State :=
  s.setKs { s.ks with
    timer := .stopped, keyTenure := 0, keyTenureLink := 0, tenurePeriod := .stopped, tailCause := none }

/-- The tail runs out (R168, R171): the next state follows the tail cause and the PTT level; a press taken
at once finds what AMP KEY going off has set in motion (log 23). -/
def State.tailEnds (s : State) : State :=
  let dropped := s.ks.tailCause == some .drop
  let s1 := if dropped then s.ampOff.countRefusal else s.ampOff
  if dropped && s.ks.ptt then s1.setKs { s1.ks with state := .lockout }
  else if s.ks.ptt then s1.enterReceive.relayReact.evaluate.judgePress
  else s1.enterReceive

/-- TAIL_EXPIRY (R168). -/
def execTailExpiry (s : State) : Host.Outcome State Fault Refusal :=
  .next (commit .nothing s (if s.ks.state = .tail then s.onExpiry s.ks.timer State.tailEnds else s))

/-- KEY_TENURE_PERIOD_EXPIRY (R169). -/
def execKeyTenurePeriodExpiry (s : State) : Host.Outcome State Fault Refusal :=
  .next (commit .nothing s (s.onExpiry s.ks.tenurePeriod State.raiseKeyTenure))

end Sys2Proof.Machine
end

