-- ==== Sys2Proof/Machine/Keys.lean ====
section
/-! DEFINITION. Machine/Keys.lean: the meanings of the panel's keys (Chapter 12 with R98, R109, R122, R133, R134, R140, R142, R181, R187, R188, R190). -/

namespace Sys2Proof.Machine

/-! ### Taking a key (R191, R192, R196) -/

/-- The block whose CLAIM or COMMAND a key's request offers (R195). -/
def offeringBlock : Instr → Block
  | .quietKey | .quietEndKey | .relearnKey | .rejoinPos _ => .cu
  | _ => .ct

/-- The owner's answer to a key: it names the key, but QUEUE, met when a frame offered for the request is
refused, is the offering block's report (R195). -/
def State.answerRequest (s : State) (c : Instr) (o : PanelOutcome) : State :=
  if o = .denied .queue then s.report (offeringBlock c) o else s.answerKey c o

/-- A key at the Panel Interface: WAIT in LOAD, "?" with no key named where its argument is out of range,
and otherwise the owner's answer (R191, R192, R196). In LOAD the answer names the code of the key, an undefined one's
too (log 72). -/
def State.panelKey (s : State) (c : Instr) (inRange : Bool) (body : State → State × PanelOutcome) : State :=
  if s.jc.state = .load then s.answerKey c .wait
  else if inRange then (body s).1.answerRequest c (body s).2
  else s.setPi { s.pi with answer := some ⟨.nothing, .unknown⟩ }

/-- A key whose owner refuses it as NOT_RUNNING outside RUN (R196). -/
def State.inRun (body : State → State × PanelOutcome) (s : State) : State × PanelOutcome :=
  if s.jc.state = .run then body s else (s, .denied .notRunning)

/-! ### Claims and drops -/

/-- A SELECT key into a slot (R98, R101): wait mode is read at the request. -/
def State.selectKey (i : Slot) (n : Antenna) (s : State) : State × PanelOutcome :=
  s.request i n s.pi.waitMode false

/-- SELECT_MAIN (R98). -/
def execSelectMain (n : Nat) (s : State) : Host.Outcome State Fault Refusal :=
  .next (commit .nothing s
    (s.panelKey (.selectMain n) (antennaArgOk n) (State.inRun (State.selectKey .main n))))

/-- SELECT_AUX (R98). -/
def execSelectAux (n : Nat) (s : State) : Host.Outcome State Fault Refusal :=
  .next (commit .nothing s
    (s.panelKey (.selectAux n) (antennaArgOk n) (State.inRun (State.selectKey .aux n))))

/-- SELECT_NEXT (R98): the request goes to the NEXT slot R98 settles. -/
def execSelectNext (n : Nat) (s : State) : Host.Outcome State Fault Refusal :=
  .next (commit .nothing s
    (s.panelKey (.selectNext n) (antennaArgOk n) (State.inRun (fun s => s.selectKey s.nextSlot n))))

/-- A drop key for a slot (R109, R192). -/
def State.dropKey (i : Slot) (s : State) : State × PanelOutcome := (s.dropSlot i, .accepted)

/-- The slot DROP-NEXT drops (R192). -/
def State.dropNextSlot (s : State) : Slot := if s.slotOpen .nextB then .nextA else .nextB

/-- DROP_MAIN (R109). -/
def execDropMain (s : State) : Host.Outcome State Fault Refusal :=
  .next (commit .nothing s (s.panelKey .dropMain true (State.inRun (State.dropKey .main))))

/-- DROP_AUX (R109). -/
def execDropAux (s : State) : Host.Outcome State Fault Refusal :=
  .next (commit .nothing s (s.panelKey .dropAux true (State.inRun (State.dropKey .aux))))

/-- DROP_NEXT (R109, R192). -/
def execDropNext (s : State) : Host.Outcome State Fault Refusal :=
  .next (commit .nothing s (s.panelKey .dropNext true (State.inRun (fun s => s.dropKey s.dropNextSlot))))

/-! ### The panel's own keys -/

/-- Wait mode toggled (R193). -/
def State.waitKey (s : State) : State × PanelOutcome :=
  (s.setPi { s.pi with waitMode := !s.pi.waitMode }, .valueSet)

/-- WAIT (R193). -/
def execWait (s : State) : Host.Outcome State Fault Refusal :=
  .next (commit .nothing s (s.panelKey .wait true State.waitKey))

/-- The wait list, the outgoing ask and the panel mask cleared (R194). -/
def State.cancelKey (s : State) : State × PanelOutcome :=
  let s := s.setCt { s.ct with waitList := [], panelMask := none }
  (s.setHu { s.hu with ask := .none }, .accepted)

/-- CANCEL (R194). -/
def execCancel (s : State) : Host.Outcome State Fault Refusal :=
  .next (commit .nothing s (s.panelKey .cancel true State.cancelKey))

/-! ### Asks and answers -/

/-- The checks of an ask, in order: the first that fails (R134). -/
def State.askCheck (s : State) (n : Antenna) : Option Denial :=
  if s.claimsClosed then some .notRunning
  else if s.noSuchAntenna n then some .noSuchAntenna
  else if (s.antenna n).kind == .rxonly && (s.waitEntry n).isNone then some .wrongKind
  else if s.privateElsewhere n then some .privateOwner
  else if 1 < s.capacity n then some .capacity
  else if s.askMine n then some .mine
  else if s.holderCount n = 0 then some .notHeld
  else if 1 < s.holderCount n then some .notSingle
  else if (s.waitEntry n).isNone && decide (4 ≤ s.ct.waitList.length) then some .waitFull
  else none

/-- A refused ask: CHOOSING returns to NONE, a standing ask stays (R134). -/
def State.askRefused (s : State) : State :=
  match s.hu.ask with
  | .choosing _ _ => s.setHu { s.hu with ask := .none }
  | _ => s

/-- The ask set to STANDING for antenna n (R134). -/
def State.standAsk (s : State) (n : Antenna) (kind : AskKind) : State :=
  match s.holders n with
  | r :: _ => s.setHu { s.hu with ask := .standing r.pos n kind s.now 0 }
  | [] => s

/-- An ask that passes: its wait entry is the one there is, or a new MAIN entry at the tail (R134). An entry
that stood before keeps its own wait flag (R102; log 20). The panel mask is consumed where a new entry is placed
(R120; log 63). -/
def State.askPasses (s : State) (n : Antenna) : State :=
  match s.waitEntry n with
  | some e => s.standAsk n (askKindOf e.slot)
  | none =>
    let m := s.claimMask .main n
    (((s.consumeMask .main n).placeWait ⟨n, .main, m, true⟩).1).standAsk n .main

/-- ASK with an antenna, or with 0 before one is chosen (R133, R134). ASK 0 is taken while the first full status is
owed (log 62). -/
def State.askKey (n : Nat) (s : State) : State × PanelOutcome :=
  if n = 0 then
    (match s.hu.ask with
      | .none => s.setHu { s.hu with ask := .choosing s.now 0 }
      | _ => s, .accepted)
  else
    match s.askCheck n with
    | some d => (s.askRefused, .denied d)
    | none => (s.askPasses n, .asking)

/-- ASK (R134). -/
def execAsk (n : Nat) (s : State) : Host.Outcome State Fault Refusal :=
  .next (commit .nothing s (s.panelKey (.ask n) (decide (n ≤ 32)) (State.inRun (State.askKey n))))

/-- GIVE with the latch read (R140); one taken answers accepted (log 40). -/
def State.giveKey (s : State) : State × PanelOutcome :=
  match s.hu.latch with
  | some l => (s.give l, .accepted)
  | none => (s, .denied .noAsk)

/-- GIVE (R140). -/
def execGive (s : State) : Host.Outcome State Fault Refusal :=
  .next (commit .nothing s (s.panelKey .give true (State.inRun State.giveKey)))

/-- KEEP with the latch read (R142); one taken answers accepted (log 40). -/
def State.keepKey (s : State) : State × PanelOutcome :=
  match s.hu.latch with
  | some l => (s.keep l, .accepted)
  | none => (s, .denied .noAsk)

/-- KEEP (R142). -/
def execKeep (s : State) : Host.Outcome State Fault Refusal :=
  .next (commit .nothing s (s.panelKey .keep true (State.inRun State.keepKey)))

/-! ### Stack masks -/

/-- STACK-MASK: a reshape of the HELD port in MAIN, or the panel mask (R120, R122; log 40). -/
def State.maskKey (m : Mask) (s : State) : State × PanelOutcome :=
  match (s.slot .main).held with
  | some h =>
    match s.groupOf h.antenna with
    | some (_, g) => s.reshape h g.present m
    | none => (s.setCt { s.ct with panelMask := some m }, .valueSet)
  | none => (s.setCt { s.ct with panelMask := some m }, .valueSet)

/-- STACK_MASK (R122). -/
def execStackMask (m : Mask) (s : State) : Host.Outcome State Fault Refusal :=
  .next (commit .nothing s (s.panelKey (.stackMask m) (m != 0) (State.inRun (State.maskKey m))))

/-! ### Standby and station commands -/

/-- STANDBY: an exit, the end of a deferral, or an entry at once or deferred (R188, R190). -/
def State.standbyKey (s : State) : State × PanelOutcome :=
  if s.cu.standby then
    ((s.setCu { s.cu with standby := false }).setSg { s.sg with obligation := true }, .accepted)
  else if s.cu.deferred then (s.setCu { s.cu with deferred := false }, .accepted)
  else
    match s.ks.state with
    | .receive | .keyWait | .lockout => (s.enterStandby, .accepted)
    | .announce | .ampOn | .transmit | .tail => (s.setCu { s.cu with deferred := true }, .accepted)

/-- STANDBY (R188). -/
def execStandby (s : State) : Host.Outcome State Fault Refusal :=
  .next (commit .nothing s (s.panelKey .standby true (State.inRun State.standbyKey)))

/-- A station command issued (R181); the fields no command reads are 0 (R202), but for the all flag of QUIET,
QUIET-END and RELEARN, which R181 sets (log 58). One taken answers accepted (log 40). -/
def State.issue (name : CommandName) (f : CommandFields) (s : State) : State × PanelOutcome :=
  if s.jc.state ≠ .run then (s, .denied .notRunning)
  else if (match s.ownRow with
      | some r => r.mayCommand
      | none => false) = false then (s, .denied .notPermitted)
  else if s.cu.outstanding.isSome then (s, .denied .busy)
  else
    let r := s.offer ⟨s.self, .command name f⟩
    if r.2 = .refused then (r.1, .denied .queue)
    else (r.1.setCu { r.1.cu with outstanding := some name }, .accepted)

/-- QUIET_KEY (R181): the all flag set, where R202 would send it as 0 (log 58), and 60 s. -/
def execQuietKey (s : State) : Host.Outcome State Fault Refusal :=
  .next (commit .nothing s (s.panelKey .quietKey true (State.issue .quiet ⟨true, 0, 60⟩)))

/-- QUIET_END_KEY (R181): the all flag set, where R202 would send it as 0 (log 58). -/
def execQuietEndKey (s : State) : Host.Outcome State Fault Refusal :=
  .next (commit .nothing s (s.panelKey .quietEndKey true (State.issue .quietEnd ⟨true, 0, 0⟩)))

/-- RELEARN_KEY (R181): the all flag set, where R202 would send it as 0 (log 58). -/
def execRelearnKey (s : State) : Host.Outcome State Fault Refusal :=
  .next (commit .nothing s (s.panelKey .relearnKey true (State.issue .relearn ⟨true, 0, 0⟩)))

/-- The fields of a REJOIN for a position, or for ALL (R181). -/
def rejoinFields : Option Position → CommandFields
  | some p => ⟨false, p, 0⟩
  | none => ⟨true, 0, 0⟩

/-- REJOIN_POS (R181). -/
def execRejoinPos (p : Option Position) (s : State) : Host.Outcome State Fault Refusal :=
  .next (commit .nothing s (s.panelKey (.rejoinPos p) true (State.issue .rejoin (rejoinFields p))))

/-- REJOIN-SELF in a join state after LOAD (R36, R187, R196); one taken answers accepted (log 40). -/
def State.rejoinKey (s : State) : State × PanelOutcome :=
  if s.rejoinOpen then (s.rejoinRequest, .accepted) else (s, .denied .notRunning)

/-- REJOIN_SELF (R187). -/
def execRejoinSelf (s : State) : Host.Outcome State Fault Refusal :=
  .next (commit .nothing s (s.panelKey .rejoinSelf true State.rejoinKey))

/-! ### Counters and unknown codes -/

/-- The four counters cleared (R8, R44, R52, R171, R197). -/
def State.clearKey (s : State) : State × PanelOutcome :=
  let s := s.setLc { s.lc with lineErrors := 0, overflows := 0 }
  let s := s.setFu { s.fu with sentenceErrors := 0 }
  (s.setKs { s.ks with refusals := 0, overflowMark := false }, .accepted)

/-- CLEAR_COUNTERS (R197). -/
def execClearCounters (s : State) : Host.Outcome State Fault Refusal :=
  .next (commit .nothing s (s.panelKey .clearCounters true State.clearKey))

/-- UNDEFINED_KEY_CODE (R191): "?" with no key named, but WAIT in LOAD (R196). A "?" that stands already is no
change of a value, and no record follows it (log 69). -/
def execUndefinedKeyCode (code : Byte) (framingError : Bool) (s : State) : Host.Outcome State Fault Refusal :=
  .next (commit .nothing s
    (s.panelKey (.undefinedKeyCode code framingError) false (fun s => (s, .unknown))))

end Sys2Proof.Machine
end

