-- ==== Sys2Proof/Machine/PeerEvents.lean ====
section
/-! DEFINITION. Machine/PeerEvents.lean: the meanings of PEER_ENTRY_EXPIRY and PEER_RECORD_EXPIRY (4.4). -/

namespace Sys2Proof.Machine

/-- An entry of p's record reaches 9 x P_s (R70). -/
def State.peerEntryLimit (s : State) (p : Position) (i : Slot) : State :=
  match s.pt.find p with
  | some r =>
    match r.entries.get i with
    | some e => (s.reach (e.since + s.peerLimit r)).entryExpires r i
    | none => s
  | none => s

/-- PEER_ENTRY_EXPIRY (R70). -/
def execPeerEntryExpiry (p : Position) (i : Slot) (s : State) : Host.Outcome State Fault Refusal :=
  .next (commit .nothing s (s.peerEntryLimit p i))

/-- A record with no entry reaches 9 x P_s of head age (R71). -/
def State.peerRecordLimit (s : State) (p : Position) : State :=
  match s.pt.find p with
  | some r => if r.noEntries then (s.reach (r.headSince + s.peerLimit r)).recordExpires p else s
  | none => s

/-- PEER_RECORD_EXPIRY (R71). -/
def execPeerRecordExpiry (p : Position) (s : State) : Host.Outcome State Fault Refusal :=
  .next (commit .nothing s (s.peerRecordLimit p))

end Sys2Proof.Machine
end

