-- ==== Sys2Proof/Machine/Power.lean ====
section
/-! DEFINITION. Machine/Power.lean: the meanings of POWER_ON_RESET and PLAN_READ_END (2.1 to 2.6). -/

namespace Sys2Proof.Machine

/-- The part with every block at its power-on values: the waiting commands, the PTT pin and the count of
free choices are outside the reset (R15 to R200; log 24). -/
def State.powered (s : State) : State :=
  { State.reset with choices := s.choices, ks := { KeySeq.reset with ptt := s.ks.ptt }, pending := s.pending }

/-- A PTT level found pressed when LOAD begins is taken as a press (R162). -/
def State.pressAtLoad (s : State) : State := if s.ks.ptt then s.judgePress else s

/-- POWER_ON_RESET (R23). -/
def execPowerOnReset (s : State) : Host.Outcome State Fault Refusal :=
  .next (commit .nothing s.powered s.powered.pressAtLoad)

/-- The band of a valid frequency in the band table in force: the first entry that contains it, else 0 (R10). -/
def State.lookup (s : State) (f : Nat) : Band :=
  match (List.range 10).find? (fun i =>
      decide ((s.bandEntry (i + 1)).lower ≤ f ∧ f ≤ (s.bandEntry (i + 1)).upper)) with
  | some i => i + 1
  | none => 0

/-- The Frequency Unit repeats its band lookup when a plan comes into force (R14). -/
def State.lookupAgain (s : State) : State :=
  match s.fu.freq with
  | some f => s.setFu { s.fu with band := s.lookup f }
  | none => s

/-- LOAD ends: the sections checked, and a valid plan brought into force or UNPLANNED entered (R16, R17,
R24, R25, R69, R77). An error count at or beyond the new ATK_IMM raises no level here (R56; log 59). -/
def State.loadEnds (s : State) (bytes : List Byte) : State :=
  let s := s.setPs (storeAfterRead bytes)
  if s.ps.plan.isSome then s.lookupAgain.enterListen.recomputeMismatch.sweepUnknown
  else s.setJc { s.jc with state := .unplanned }

/-- PLAN_READ_END (R23): `bytes` is what the plan memory gave; fewer than all of it is a memory that
stopped answering (log 25). -/
def execPlanReadEnd (bytes : List Byte) (s : State) : Host.Outcome State Fault Refusal :=
  .next (commit .nothing s (if s.jc.state = .load then s.loadEnds bytes else s))

end Sys2Proof.Machine
end

