-- ==== Sys2Proof/Machine/Radio.lean ====
section
/-! DEFINITION. Machine/Radio.lean: the meanings of RADIO_CHARACTER_ARRIVAL and FRESHNESS_TIMER_EXPIRY (Chapter 1). -/

namespace Sys2Proof.Machine

/-- A new sentence, just begun by a "#" (R2). -/
def Decoder.started : Decoder := ⟨.digits, 0, 0, 0, 0, 0⟩

/-- The open sentence is abandoned and the decoder goes on as given (R7, R8). -/
def FreqUnit.abandon (fu : FreqUnit) (next : Decoder) : FreqUnit :=
  { fu with decoder := next, sentenceErrors := satSucc 255 fu.sentenceErrors }

/-- The next frequency digit (R4). -/
def Decoder.takeDigit (d : Decoder) (v : Nat) : Decoder :=
  let d := { d with hz := 10 * d.hz + v, sum := d.sum + (48 + v), digits := d.digits + 1 }
  if d.digits = 8 then { d with state := .check, checkDigits := 0, check := 0 } else d

/-- The next check digit (R5). -/
def Decoder.takeCheck (d : Decoder) (v : Nat) : Decoder :=
  { d with
    check := 16 * d.check + v, checkDigits := d.checkDigits + 1,
    state := if d.checkDigits + 1 = 2 then .endMark else .check }

/-- T_freq in use as clock units (R12, R19). -/
def State.freshLength (s : State) : Nat := Config.ms (500 * s.timing.tFreqHalves)

/-- A sentence is accepted: F, b and the freshness timer (R9 to R12). -/
def State.acceptSentence (s : State) : State :=
  let f := (s.fu.decoder.hz + 50) / 100
  s.setFu { s.fu with
    freq := some f, band := s.lookup f, freshness := s.timerFor s.freshLength, decoder := .hunting }

/-- A character at the sentence decoder (R3 to R6). -/
def State.radioChar (s : State) (k : CharClass) : State :=
  match s.fu.decoder.state, k with
  | .hunt, .hash => s.setFu { s.fu with decoder := .started }
  | .hunt, _ => s
  | .digits, .digit v => s.setFu { s.fu with decoder := s.fu.decoder.takeDigit v }
  | .check, .digit v => s.setFu { s.fu with decoder := s.fu.decoder.takeCheck v }
  | .check, .hexLetter v => s.setFu { s.fu with decoder := s.fu.decoder.takeCheck v }
  | .endMark, .cr =>
    if s.fu.decoder.check = s.fu.decoder.sum % 256 then s.acceptSentence
    else s.setFu (s.fu.abandon .hunting)
  | _, .hash => s.setFu (s.fu.abandon .started)
  | _, _ => s.setFu (s.fu.abandon .hunting)

/-- RADIO_CHARACTER_ARRIVAL (R3). -/
def execRadioCharacterArrival (c : Byte) (framingError : Bool) (s : State) : Host.Outcome State Fault Refusal :=
  .next (commit .nothing s (s.radioChar (charClass c framingError)))

/-- F becomes invalid, b is held (R12). -/
def State.staleFreq (s : State) : State := s.setFu { s.fu with freq := none, freshness := .expired }

/-- FRESHNESS_TIMER_EXPIRY (R12). -/
def execFreshnessTimerExpiry (s : State) : Host.Outcome State Fault Refusal :=
  .next (commit .nothing s (s.onExpiry s.fu.freshness State.staleFreq))

end Sys2Proof.Machine
end

