-- ==== Sys2Proof/Machine/RelayEvents.lean ====
section
/-! DEFINITION. Machine/RelayEvents.lean: the meanings of BREAK_EXPIRY and MAKE_EXPIRY (10.2). -/

namespace Sys2Proof.Machine

/-- BREAK_EXPIRY (R176). -/
def execBreakExpiry (s : State) : Host.Outcome State Fault Refusal :=
  .next (commit .nothing s (if s.rd.state = .breaking then s.onExpiry s.rd.timer State.breakEnds else s))

/-- MAKE_EXPIRY (R177). -/
def execMakeExpiry (s : State) : Host.Outcome State Fault Refusal :=
  .next (commit .nothing s (if s.rd.state = .making then s.onExpiry s.rd.timer State.makeEnds else s))

end Sys2Proof.Machine
end

