-- ==== Sys2Proof/Machine/Dispatch.lean ====
section
/-! DEFINITION. Machine/Dispatch.lean: one arm per command, each one call of its meaning. -/

namespace Sys2Proof.Machine

/-- The meaning of a command. -/
def exec (i : Instr) (s : State) : Host.Outcome State Fault Refusal :=
  match i with
  | .powerOnReset => Sys2Proof.Machine.execPowerOnReset s
  | .planReadEnd bytes => Sys2Proof.Machine.execPlanReadEnd bytes s
  | .radioCharacterArrival c framingError => Sys2Proof.Machine.execRadioCharacterArrival c framingError s
  | .freshnessTimerExpiry => Sys2Proof.Machine.execFreshnessTimerExpiry s
  | .listenTimerExpiry => Sys2Proof.Machine.execListenTimerExpiry s
  | .probeComplete => Sys2Proof.Machine.execProbeComplete s
  | .probeWaitExpiry => Sys2Proof.Machine.execProbeWaitExpiry s
  | .leavingComplete => Sys2Proof.Machine.execLeavingComplete s
  | .receiverSynced => Sys2Proof.Machine.execReceiverSynced s
  | .frameStart => Sys2Proof.Machine.execFrameStart s
  | .contentionLost => Sys2Proof.Machine.execContentionLost s
  | .senderLineFault => Sys2Proof.Machine.execSenderLineFault s
  | .frameFault kind => Sys2Proof.Machine.execFrameFault kind s
  | .adaptationPeriodEnd => Sys2Proof.Machine.execAdaptationPeriodEnd s
  | .statusReceived sender f => Sys2Proof.Machine.execStatusReceived sender f s
  | .claimReceived sender f => Sys2Proof.Machine.execClaimReceived sender f s
  | .releaseReceived sender f => Sys2Proof.Machine.execReleaseReceived sender f s
  | .keyReceived sender f => Sys2Proof.Machine.execKeyReceived sender f s
  | .probeReceived number f => Sys2Proof.Machine.execProbeReceived number f s
  | .peerEntryExpiry peer slot => Sys2Proof.Machine.execPeerEntryExpiry peer slot s
  | .peerRecordExpiry peer => Sys2Proof.Machine.execPeerRecordExpiry peer s
  | .statusIntervalExpiry => Sys2Proof.Machine.execStatusIntervalExpiry s
  | .statusComplete => Sys2Proof.Machine.execStatusComplete s
  | .recentChangeExpiry => Sys2Proof.Machine.execRecentChangeExpiry s
  | .selfDropLimit slot => Sys2Proof.Machine.execSelfDropLimit slot s
  | .claimComplete => Sys2Proof.Machine.execClaimComplete s
  | .claimWindowExpiry slot => Sys2Proof.Machine.execClaimWindowExpiry slot s
  | .tenurePeriodExpiry slot => Sys2Proof.Machine.execTenurePeriodExpiry slot s
  | .releaseComplete => Sys2Proof.Machine.execReleaseComplete s
  | .reservationExpiry antenna => Sys2Proof.Machine.execReservationExpiry antenna s
  | .relearnQuietExpiry => Sys2Proof.Machine.execRelearnQuietExpiry s
  | .growWindowExpiry => Sys2Proof.Machine.execGrowWindowExpiry s
  | .askLifeExpiry => Sys2Proof.Machine.execAskLifeExpiry s
  | .keepLifeExpiry => Sys2Proof.Machine.execKeepLifeExpiry s
  | .pttPress => Sys2Proof.Machine.execPttPress s
  | .pttRelease => Sys2Proof.Machine.execPttRelease s
  | .keyComplete => Sys2Proof.Machine.execKeyComplete s
  | .tSeqExpiry => Sys2Proof.Machine.execTSeqExpiry s
  | .tailExpiry => Sys2Proof.Machine.execTailExpiry s
  | .keyTenurePeriodExpiry => Sys2Proof.Machine.execKeyTenurePeriodExpiry s
  | .breakExpiry => Sys2Proof.Machine.execBreakExpiry s
  | .makeExpiry => Sys2Proof.Machine.execMakeExpiry s
  | .quietCommand issuer f => Sys2Proof.Machine.execQuietCommand issuer f s
  | .quietEndCommand issuer f => Sys2Proof.Machine.execQuietEndCommand issuer f s
  | .rejoinCommand issuer f => Sys2Proof.Machine.execRejoinCommand issuer f s
  | .relearnCommand issuer f => Sys2Proof.Machine.execRelearnCommand issuer f s
  | .commandComplete => Sys2Proof.Machine.execCommandComplete s
  | .quietSecondExpiry => Sys2Proof.Machine.execQuietSecondExpiry s
  | .selectMain n => Sys2Proof.Machine.execSelectMain n s
  | .selectAux n => Sys2Proof.Machine.execSelectAux n s
  | .selectNext n => Sys2Proof.Machine.execSelectNext n s
  | .dropMain => Sys2Proof.Machine.execDropMain s
  | .dropAux => Sys2Proof.Machine.execDropAux s
  | .dropNext => Sys2Proof.Machine.execDropNext s
  | .wait => Sys2Proof.Machine.execWait s
  | .cancel => Sys2Proof.Machine.execCancel s
  | .ask n => Sys2Proof.Machine.execAsk n s
  | .give => Sys2Proof.Machine.execGive s
  | .keep => Sys2Proof.Machine.execKeep s
  | .stackMask m => Sys2Proof.Machine.execStackMask m s
  | .standby => Sys2Proof.Machine.execStandby s
  | .quietKey => Sys2Proof.Machine.execQuietKey s
  | .quietEndKey => Sys2Proof.Machine.execQuietEndKey s
  | .relearnKey => Sys2Proof.Machine.execRelearnKey s
  | .rejoinPos p => Sys2Proof.Machine.execRejoinPos p s
  | .rejoinSelf => Sys2Proof.Machine.execRejoinSelf s
  | .clearCounters => Sys2Proof.Machine.execClearCounters s
  | .undefinedKeyCode code framingError => Sys2Proof.Machine.execUndefinedKeyCode code framingError s
  | .displayRecordSent => Sys2Proof.Machine.execDisplayRecordSent s
  | .displayRefreshExpiry => Sys2Proof.Machine.execDisplayRefreshExpiry s
  | .startMarkReceived => Sys2Proof.Machine.execStartMarkReceived s
  | .askAgeWholePeriod => Sys2Proof.Machine.execAskAgeWholePeriod s

end Sys2Proof.Machine
end

