-- ==== Sys2Proof/Machine/Step.lean ====
section
/-! DEFINITION. Machine/Step.lean: one step: the command at the front of the queue is taken; with none waiting the clock ticks (log 1). -/

namespace Sys2Proof.Machine

/-- One step. An empty queue is one tick of the clock, half a millisecond (log 1). -/
def step (s : State) : Host.Outcome State Fault Refusal :=
  match s.pending with
  | [] => .next (s.setNow (s.now + 1))
  | c :: rest => exec c (s.setPending rest)

/-- The state with the command that a word spells in front of its queue; no word spells one (log 39). -/
def State.withFetchWord (s : State) (nbits w : Nat) : State :=
  match decodeTableWord nbits w with
  | some c => s.setPending (c :: s.pending)
  | none => s

end Sys2Proof.Machine
end

