-- ==== Sys2Proof/Safety.lean ====
section
/-! DEFINITION. Safety.lean: what claims about the part are stated in: its invariants, the commands that may change each group of its state, and the characters of a radio sentence. -/

namespace Sys2Proof.Machine

/-! ### Invariants -/

/-- The transmit queue as R47 has it: at most 8 frames, one STATUS, one KEY and one frame in flight, in
class order. -/
def QueueOk (lc : LinkCtl) : Prop :=
  lc.queue.length ≤ 8 ∧ (lc.queue.filter (fun e => isStatus e.frame)).length ≤ 1 ∧
    (lc.queue.filter (fun e => isKey e.frame)).length ≤ 1 ∧
    (lc.queue.filter (fun e => e.inFlight)).length ≤ 1 ∧ lc.queue.Pairwise (fun x y => x.cls ≤ y.cls)

/-- The counters and tenures within their ranges (R8, R44, R52, R55, R106, R169, R171, 2.7). -/
def CountersOk (s : State) : Prop :=
  s.fu.sentenceErrors ≤ 255 ∧ s.jc.attempts ≤ 255 ∧ s.lc.lineErrors ≤ 255 ∧ s.lc.overflows ≤ 255 ∧
    s.lc.level ≤ 15 ∧ s.ks.keyTenure ≤ 63 ∧ s.ks.refusals ≤ 9999 ∧
    ∀ i h, (s.slot i).held = some h → h.tenure ≤ 63

/-- At most one filter line is on, and the target holds at most one (R173, R176). -/
def FilterOk (s : State) : Prop :=
  (∃ b, s.rd.lines.filter = filterBit b) ∧ ∃ b, s.rd.target.filter = filterBit b

/-- The antenna lines on, and those of the target: at most one on the MAIN path and at most one of an RXONLY
antenna (R176). In LOAD no slot holds or claims and no antenna line is on. -/
def AntennaLinesOk (s : State) : Prop :=
  (∃ a, s.rd.lines.ant &&& ~~~s.auxPathAnt = antBit a) ∧ (∃ a, s.rd.lines.ant &&& s.auxPathAnt = antBit a) ∧
    (∃ a, s.rd.target.ant &&& ~~~s.auxPathAnt = antBit a) ∧ (∃ a, s.rd.target.ant &&& s.auxPathAnt = antBit a) ∧
    (s.jc.state = .load → s.rd.lines.ant = 0 ∧ s.rd.target.ant = 0 ∧
      ∀ i, (s.slot i).held = none ∧ (s.slot i).cand = none)

/-- The Interlock Evaluator's record as its inputs give it (R145, R146, R156). -/
def InterlockOk (s : State) : Prop :=
  s.ie.permit = s.reasonNow.isNone ∧ s.ie.reason = s.reasonNow ∧ s.ie.warnings = s.warningSet

/-- The Relay Driver's target is what its owners give, and in STEADY no movable line differs from it
(R173, R175). -/
def RelaysOk (s : State) : Prop :=
  s.rd.target = s.formTarget ∧ (s.rd.state = .steady → s.moves s.rd.target = .none)

/-! ### Which commands may change what -/

/-- The commands that are a frame coming in or a fault found in one (R43, R45). -/
def comesIn : Instr → Bool
  | .statusReceived _ _ | .claimReceived _ _ | .releaseReceived _ _ | .keyReceived _ _ | .probeReceived _ _
  | .quietCommand _ _ | .quietEndCommand _ _ | .rejoinCommand _ _ | .relearnCommand _ _ | .frameFault _ => true
  | _ => false

/-- The commands that may change F, b, the freshness timer, the sentence decoder or its error count. -/
def touchesFreq : Instr → Bool
  | .powerOnReset | .planReadEnd _ | .radioCharacterArrival _ _ | .freshnessTimerExpiry | .clearCounters => true
  | _ => false

/-- The commands that may change what the Plan Store holds. -/
def touchesPlan : Instr → Bool
  | .powerOnReset | .planReadEnd _ => true
  | _ => false

/-- The commands that may change the peer records. -/
def touchesPeers : Instr → Bool
  | .powerOnReset | .planReadEnd _ | .listenTimerExpiry | .probeWaitExpiry | .leavingComplete
  | .statusReceived _ _ | .claimReceived _ _ | .releaseReceived _ _ | .keyReceived _ _
  | .peerEntryExpiry _ _ | .peerRecordExpiry _ | .relearnCommand _ _ | .commandComplete => true
  | _ => false

/-- The commands that may change the line error count, the window level or its error count. -/
def touchesLineCounts : Instr → Bool
  | .powerOnReset | .senderLineFault | .frameFault _ | .adaptationPeriodEnd | .clearCounters
  | .statusReceived _ _ | .claimReceived _ _ | .releaseReceived _ _ => true
  | _ => false

/-- The commands that may change a station quiet in force. -/
def touchesQuiet : Instr → Bool
  | .powerOnReset | .quietCommand _ _ | .quietEndCommand _ _ | .commandComplete | .quietSecondExpiry => true
  | _ => false

/-- The commands that may change wait mode. -/
def touchesWaitMode : Instr → Bool
  | .powerOnReset | .wait => true
  | _ => false

/-! ### A radio sentence (R1 to R6) -/

/-- A character of the radio line, without a framing error. -/
def radio (n : Nat) : Instr := .radioCharacterArrival (BitVec.ofNat 8 n) false

/-- The upper-case hexadecimal digit of a value below 16. -/
def hexChar (v : Nat) : Nat := if v < 10 then 48 + v else 55 + v

/-- The frequency in hertz that decimal digits spell. -/
def digitsValue (l : List (Fin 10)) : Nat := l.foldl (fun acc d => 10 * acc + d.val) 0

/-- The sum of the digits' character codes modulo 256. -/
def digitsCheck (l : List (Fin 10)) : Nat := (l.foldl (fun acc d => acc + (48 + d.val)) 0) % 256

/-- The characters of a sentence: "#", the digits, two check digits and a carriage return. -/
def sentence (l : List (Fin 10)) : List Instr :=
  radio 35 :: l.map (fun d => radio (48 + d.val)) ++
    [radio (hexChar (digitsCheck l / 16)), radio (hexChar (digitsCheck l % 16)), radio 13]

end Sys2Proof.Machine
end

