-- ==== Sys2Proof/Certificates/Slice0/Obligations.lean ====
section
/-! DEFINITION. Certificates/Slice0/Obligations.lean: the statements about the part, from the numbered rules of spec/. "At a command" a statement names the state the command leaves (exec answers it), after every block has taken up the change. A timer's expiry is taken at the moment it runs out, so the clock stands there: max of now and that moment (log 2). The rule numbers in a docstring say where its words come from; a statement claims what its own words say. -/

open Sys2Proof Sys2Proof.Machine

/-! ### The queue of commands -/

/-- A step takes the command at the front of the queue and is exec of it on the state with the rest of the
queue; with no command waiting it moves the clock by one unit and nothing else (the second half is the
model's choice, log 1). -/
def Obligations.StepTakesFrontCommand : Prop :=
  ∀ s : State,
    (∀ c rest, s.pending = c :: rest → step s = exec c (s.setPending rest)) ∧
    (s.pending = [] → ∃ t, step s = .next t ∧ t.now = s.now + 1 ∧ t.setNow s.now = s)

/-- The state after reset meets every invariant below. -/
def Obligations.ResetMeetsInvariants : Prop :=
  QueueOk State.reset.lc ∧ CountersOk State.reset ∧ FilterOk State.reset ∧ AntennaLinesOk State.reset ∧
    InterlockOk State.reset ∧ RelaysOk State.reset

/-! ### Frequency and band (Chapter 1) -/

/-- R4 and R5: the moves of the sentence decoder inside a sentence, up to its END. A character that has no
place abandons the sentence: the decoder forgets it, the sentence errors rise by one (255 at most), and F,
b and the freshness timer stay. "#" then starts a new sentence at once. -/
def Obligations.SentenceDecoderMoves : Prop :=
  ∀ (c : Byte) (e : Bool) (s : State), ∃ t, exec (.radioCharacterArrival c e) s = .next t ∧
    (s.fu.decoder.state = .hunt → charClass c e ≠ .hash → t.fu = s.fu) ∧
    (s.fu.decoder.state = .hunt → charClass c e = .hash →
      t.fu = { s.fu with decoder := ⟨.digits, 0, 0, 0, 0, 0⟩ }) ∧
    (s.fu.decoder.state ≠ .hunt → charClass c e = .hash →
      t.fu = { s.fu with
        decoder := ⟨.digits, 0, 0, 0, 0, 0⟩, sentenceErrors := min 255 (s.fu.sentenceErrors + 1) }) ∧
    (∀ v, s.fu.decoder.state = .digits → charClass c e = .digit v →
      t.fu.freq = s.fu.freq ∧ t.fu.band = s.fu.band ∧ t.fu.sentenceErrors = s.fu.sentenceErrors ∧
      t.fu.freshness = s.fu.freshness ∧ t.fu.decoder.hz = 10 * s.fu.decoder.hz + v ∧
      t.fu.decoder.sum = s.fu.decoder.sum + c.toNat ∧ t.fu.decoder.digits = s.fu.decoder.digits + 1 ∧
      (if s.fu.decoder.digits + 1 = 8 then t.fu.decoder.state = .check ∧ t.fu.decoder.checkDigits = 0
        else t.fu.decoder.state = .digits)) ∧
    (∀ v, s.fu.decoder.state = .check → (charClass c e = .digit v ∨ charClass c e = .hexLetter v) →
      t.fu = { s.fu with decoder := { s.fu.decoder with
        check := 16 * s.fu.decoder.check + v, checkDigits := s.fu.decoder.checkDigits + 1,
        state := if s.fu.decoder.checkDigits + 1 = 2 then .endMark else .check } }) ∧
    ((s.fu.decoder.state = .digits ∧ (∀ v, charClass c e ≠ .digit v) ∨
        s.fu.decoder.state = .check ∧ (∀ v, charClass c e ≠ .digit v ∧ charClass c e ≠ .hexLetter v) ∨
        s.fu.decoder.state = .endMark ∧ charClass c e ≠ .cr) → charClass c e ≠ .hash →
      t.fu = { s.fu with
        decoder := ⟨.hunt, 0, 0, 0, 0, 0⟩, sentenceErrors := min 255 (s.fu.sentenceErrors + 1) }) ∧
    (s.fu.decoder.state = .endMark → charClass c e = .cr → s.fu.decoder.check ≠ s.fu.decoder.sum % 256 →
      t.fu = { s.fu with
        decoder := ⟨.hunt, 0, 0, 0, 0, 0⟩, sentenceErrors := min 255 (s.fu.sentenceErrors + 1) })

/-- R9, with R11 and R12: a carriage return in END with the check equal to the sum modulo 256 sets F to
(Fhz + 50) div 100, b to its lookup and the freshness timer to T_freq, and counts no error. -/
def Obligations.AcceptedSentenceSetsFrequency : Prop :=
  ∀ s : State, s.fu.decoder.state = .endMark → s.fu.decoder.check = s.fu.decoder.sum % 256 →
    ∃ t, exec (.radioCharacterArrival 13 false) s = .next t ∧
      t.fu.freq = some ((s.fu.decoder.hz + 50) / 100) ∧
      (s.fu.decoder.hz ≤ 99999999 → (s.fu.decoder.hz + 50) / 100 ≤ 1000000) ∧
      t.fu.band = s.lookup ((s.fu.decoder.hz + 50) / 100) ∧
      t.fu.freshness = .running (s.now + Config.ms (500 * s.timing.tFreqHalves)) ∧
      t.fu.decoder = ⟨.hunt, 0, 0, 0, 0, 0⟩ ∧ t.fu.sentenceErrors = s.fu.sentenceErrors ∧
      (s.fu.freq ≠ t.fu.freq → t.sg.recent = .running (s.now + s.period))

/-- R10: band lookup gives the first entry in index order that contains the count, both edges included, and
0 where none does; with no plan in force it gives 0. -/
def Obligations.BandLookupTakesFirstEntry : Prop :=
  ∀ (s : State) (f : Nat),
    (s.lookup f = 0 ∧ (∀ i, 1 ≤ i → i ≤ 10 → ¬ ((s.bandEntry i).lower ≤ f ∧ f ≤ (s.bandEntry i).upper)) ∨
      1 ≤ s.lookup f ∧ s.lookup f ≤ 10 ∧
        (s.bandEntry (s.lookup f)).lower ≤ f ∧ f ≤ (s.bandEntry (s.lookup f)).upper ∧
        ∀ i, 1 ≤ i → i < s.lookup f → ¬ ((s.bandEntry i).lower ≤ f ∧ f ≤ (s.bandEntry i).upper)) ∧
    (s.ps.plan = none → s.lookup f = 0)

/-- R3 to R11: from HUNT, the twelve characters of a sentence, "#", eight digits, the two hexadecimal digits
of the sum of their codes modulo 256 and a carriage return, run in twelve steps and leave F, b and the
decoder as an accepted sentence does, with no error counted, whatever the rest of the part does meanwhile. -/
def Obligations.TwelveCharactersSetFrequency : Prop :=
  ∀ (s : State) (digits : List (Fin 10)), digits.length = 8 → s.fu.decoder.state = .hunt →
    s.pending = sentence digits →
    ∃ t, Host.Core.run core 12 s = .next t ∧ t.pending = [] ∧
      t.fu.freq = some ((digitsValue digits + 50) / 100) ∧
      t.fu.band = s.lookup ((digitsValue digits + 50) / 100) ∧
      t.fu.freshness = .running (s.now + Config.ms (500 * s.timing.tFreqHalves)) ∧
      t.fu.decoder = ⟨.hunt, 0, 0, 0, 0, 0⟩ ∧ t.fu.sentenceErrors = s.fu.sentenceErrors

/-- R12, R90: at the expiry of the freshness timer F becomes invalid, b is held and the timer stays expired; where F was
valid, the recent-change timer starts again with the own P. (That the clock stands at the moment the timer ran out, and
the recent change runs from there, is the model's choice, log 2.) -/
def Obligations.FreshnessExpiryHoldsBand : Prop :=
  ∀ (s : State) (due : Nat), s.fu.freshness = .running due →
    ∃ t, exec .freshnessTimerExpiry s = .next t ∧ t.now = max s.now due ∧
      t.fu = { s.fu with freq := none, freshness := .expired } ∧
      (s.fu.freq ≠ none → t.sg.recent = .running (max s.now due + s.period)) ∧
      t.cu = s.cu ∧ t.pt.records = s.pt.records

/-! ### The plan and joining (Chapter 2) -/

/-- R15 to R200 "after power-on reset", R23: every block at its power-on values in join state LOAD. A
footswitch held at that moment is a press, judged with the permit withheld (R162). The first display record
is on its way, with the content those values give. The commands that wait
and the PTT input are no part of the reset (the model's choice, log 24).
(When that record starts is log 33.) -/
def Obligations.PowerOnResetRestoresBlocks : Prop :=
  ∀ s : State, ∃ t, exec .powerOnReset s = .next t ∧ t.jc = JoinCtl.reset ∧ t.fu = FreqUnit.reset ∧
    t.ps = PlanStore.reset ∧ t.lc = LinkCtl.reset ∧ t.pt = PeerTable.reset ∧ t.sg = StatusGen.reset ∧
    t.ct = ClaimTable.reset ∧ t.hu = HandOver.reset ∧ t.ie = Interlock.reset ∧ t.rd = RelayDriver.reset ∧
    t.cu = CommandUnit.reset ∧ t.pi.waitMode = false ∧ t.pi.answer = none ∧ t.pi.inFlight = true ∧
    t.pi.last = some State.reset.displayed ∧
    (s.ks.ptt = false → t.ks = KeySeq.reset) ∧
    (s.ks.ptt = true → t.ks.state = .lockout ∧ t.ks.lockout = some (.inhibit .notJoined) ∧ t.ks.refusals = 1) ∧
    t.pending = s.pending

/-- R16, R17, R24, R25: at the end of LOAD the unit section is taken where its check holds and read as zeros
where it fails; the plan is valid where its own check holds. A valid plan leads to LISTEN with a timer of
2P of the new P, an invalid one to UNPLANNED. Fewer than 519 bytes is a memory that stopped
answering (the operand's form is the model's choice, log 25).
(That the lookup of b is repeated as the plan comes into force is inferred, log 45.) -/
def Obligations.PlanReadEndTakesSections : Prop :=
  ∀ (bytes : List Byte) (s : State), s.jc.state = .load →
    ∃ t, exec (.planReadEnd bytes) s = .next t ∧
      (if 519 ≤ bytes.length ∧ crcBytes (bytes.take 3) = bytes.getD 3 0 then
        t.ps.preferred = (bytes.getD 0 0).truncate 4 ∧ t.ps.fixedNumber = (bytes.getD 0 0).getLsbD 7 ∧
          t.ps.token.toNat = 256 * (bytes.getD 1 0).toNat + (bytes.getD 2 0).toNat
      else t.ps.preferred = 0 ∧ t.ps.fixedNumber = false ∧ t.ps.token = 0) ∧
      (if 519 ≤ bytes.length ∧ crcBytes ((bytes.drop 4).take 514) = bytes.getD 518 0 then
        t.ps.planValid = true ∧ t.ps.planCheck = bytes.getD 518 0 ∧ t.ps.plan = some (readPlan bytes) ∧
          t.jc.state = .listen ∧ t.jc.attempts = 0 ∧ t.jc.listenTimer = .running (s.now + 2 * t.period) ∧
          (∀ f, s.fu.freq = some f → t.fu.band = t.lookup f)
      else
        t.ps.planValid = false ∧ t.ps.planCheck = 0 ∧ t.ps.plan = none ∧ t.jc.state = .unplanned ∧
          t.fu = s.fu)

/-- R18, R19: each value of a loaded plan is the stored one brought into its range: one stored inside it as
stored, one below it the lowest and one above it the highest; W_min before W_max. A default MAIN antenna
above 32 reads as 0, and an antenna that is not RXONLY has capacity 1. -/
def Obligations.PlanValuesBroughtIntoRange : Prop :=
  ∀ bytes : List Byte,
    (readPlan bytes).timing =
      { periodCode := min 12 (byteAt bytes 506), tSeq := max 5 (min 50 (byteAt bytes 507)),
        tBreak := max 5 (min 50 (byteAt bytes 508)), tMake := max 5 (min 100 (byteAt bytes 509)),
        tFreqHalves := max 1 (min 10 (byteAt bytes 510)), askLife := max 8 (min 63 (byteAt bytes 511)),
        wMin := max 10 (min 100 (byteAt bytes 512)),
        wMax := max (max 10 (min 100 (byteAt bytes 512))) (min 500 (256 * byteAt bytes 513 + byteAt bytes 514)),
        atkImm := max 1 (min 15 (byteAt bytes 515)), atkDly := max 1 (min 15 (byteAt bytes 516)),
        failSafe := (bytes.getD 517 0).getLsbD 7 } ∧
    (readPlan bytes).timing.wMin ≤ (readPlan bytes).timing.wMax ∧ (readPlan bytes).timing.wMax ≤ 500 ∧
    (∀ k < 10, (readPlan bytes).bands[k]? = some
      { lower := min 1000000
          (65536 * byteAt bytes (8 * k + 4) + 256 * byteAt bytes (8 * k + 5) + byteAt bytes (8 * k + 6)),
        upper := min 1000000
          (65536 * byteAt bytes (8 * k + 7) + 256 * byteAt bytes (8 * k + 8) + byteAt bytes (8 * k + 9)),
        spacing := byteAt bytes (8 * k + 10), single := (bytes.getD (8 * k + 11) 0).getLsbD 7,
        warn := (bytes.getD (8 * k + 11) 0).getLsbD 6 }) ∧
    (∀ k < 32, ∃ a, (readPlan bytes).antennas[k]? = some a ∧
      a.capacity = if a.kind = .rxonly then max 1 (min 4 (byteAt bytes (7 * k + 84) % 16)) else 1) ∧
    (∀ p < 16, ∀ b < 10, ∃ r, (readPlan bytes).rows[p]? = some r ∧ r.defaults[b]? =
      some (if byteAt bytes (11 * p + b + 331) ≤ 32 then byteAt bytes (11 * p + b + 331) else 0)) ∧
    (readPlan bytes).bands.length = 10 ∧ (readPlan bytes).antennas.length = 32 ∧
    (readPlan bytes).groups.length = 4 ∧ (readPlan bytes).rows.length = 16

/-- R21: an enabled group names a STACKPORT port and two or three different MEMBER antennas, its default
mask joins at least one of them and none that is absent, and no two enabled groups share an antenna. Each of the four
groups is read from its five bytes (13.2): its port, its members, a third one of 0 being absent, and the default mask over
the members present, a mask left empty being all of them; and a group whose stored bytes meet none of the conditions that
disable it, an antenna of an earlier enabled group the last, is enabled, and no other. -/
def Obligations.EnabledGroupsAreDisjoint : Prop :=
  ∀ bytes : List Byte,
    (∀ g ∈ (readPlan bytes).groups, g.enabled = true →
      1 ≤ g.port ∧ g.port ≤ 32 ∧ kindIn (readPlan bytes).antennas g.port = .stackPort ∧
      kindIn (readPlan bytes).antennas g.m1 = .member ∧ kindIn (readPlan bytes).antennas g.m2 = .member ∧
      (g.m3 ≠ 0 → kindIn (readPlan bytes).antennas g.m3 = .member) ∧
      g.m1 ≠ g.m2 ∧ g.m1 ≠ g.m3 ∧ g.m2 ≠ g.m3 ∧ g.mask ≠ 0 ∧ g.mask &&& ~~~g.present = 0) ∧
    (readPlan bytes).groups.Pairwise (fun g h => g.enabled = true → h.enabled = true →
      ∀ a, a ≠ 0 → a ∈ [g.port, g.m1, g.m2, g.m3] → a ∉ [h.port, h.m1, h.m2, h.m3]) ∧
    (readPlan bytes).groups.length = 4 ∧
    ∀ (k : Nat) (g : GroupEntry), (readPlan bytes).groups[k]? = some g →
      g.port = (bytes.getD (308 + 5 * k) 0).toNat ∧ g.m1 = (bytes.getD (309 + 5 * k) 0).toNat ∧
      g.m2 = (bytes.getD (310 + 5 * k) 0).toNat ∧ g.m3 = (bytes.getD (311 + 5 * k) 0).toNat ∧
      (∀ stored present : Mask, stored = (bytes.getD (312 + 5 * k) 0).extractLsb' 0 3 →
        present = (if g.m3 = 0 then 6 else 7) →
        g.mask = if stored &&& present = 0 then present else stored &&& present) ∧
      (g.enabled = true ↔ 1 ≤ g.port ∧ g.port ≤ 32 ∧ kindIn (readPlan bytes).antennas g.port = .stackPort ∧
        1 ≤ g.m1 ∧ g.m1 ≤ 32 ∧ 1 ≤ g.m2 ∧ g.m2 ≤ 32 ∧ g.m3 ≤ 32 ∧
        kindIn (readPlan bytes).antennas g.m1 = .member ∧ kindIn (readPlan bytes).antennas g.m2 = .member ∧
        (g.m3 ≠ 0 → kindIn (readPlan bytes).antennas g.m3 = .member) ∧
        g.m1 ≠ g.m2 ∧ g.m1 ≠ g.m3 ∧ g.m2 ≠ g.m3 ∧ g.port ∉ [g.m1, g.m2, g.m3] ∧
        ∀ (j : Nat) (h : GroupEntry), j < k → (readPlan bytes).groups[j]? = some h → h.enabled = true →
          ∀ a, a ≠ 0 → a ∈ [g.port, g.m1, g.m2, g.m3] → a ∉ [h.port, h.m1, h.m2, h.m3])

/-- R27: a number is chosen from n upward, wrapping from 15 to 0: the first that no record holds and that
has not failed; none where all sixteen are taken. -/
def Obligations.NumberChoiceTakesFirstFree : Prop :=
  ∀ (s : State) (n : Position),
    (∀ p, s.chooseFrom n = some p ↔
      ∃ k < 16, p = n + BitVec.ofNat 4 k ∧ s.pt.find p = none ∧ p ∉ s.jc.failed ∧
        ∀ j < k, s.pt.find (n + BitVec.ofNat 4 j) ≠ none ∨ n + BitVec.ofNat 4 j ∈ s.jc.failed) ∧
    (s.chooseFrom n = none ↔ ∀ p, s.pt.find p ≠ none ∨ p ∈ s.jc.failed)

/-- R28, R32, R60: at the end of LISTEN a kept number, or the preferred number of a fixed-number part, is taken into
RUN, no record of it staying; otherwise a number chosen from the preferred one upward is probed for, and with none
free the part is UNNUMBERED. R29, R50: where the queue has room, the attempt's PROBE stands unsent in it: the number
in its head, and token, plan check and plan-valid; with the queue full it is refused and owed (u, before the other
blocks take up the change). (That the clock stands at the moment LISTEN ran out is the model's choice, log 2; the mark
of an owed PROBE is inferred, log 8.) -/
def Obligations.ListenExpiryJoinsOrProbes : Prop :=
  ∀ (s : State) (due : Nat), s.jc.listenTimer = .running due →
    (∃ t, exec .listenTimerExpiry s = .next t ∧ t.now = max s.now due ∧ t.jc.listenTimer = .stopped ∧
      match s.jc.number, s.ps.fixedNumber, s.chooseFrom s.ps.preferred with
      | some n, _, _ =>
        t.jc.state = .run ∧ t.jc.number = some n ∧ t.sg.obligation = true ∧ t.sg.running = true ∧ t.pt.find n = none
      | none, true, _ =>
        t.jc.state = .run ∧ t.jc.number = some s.ps.preferred ∧ t.sg.obligation = true ∧ t.sg.running = true ∧
          t.pt.find s.ps.preferred = none
      | none, false, some p =>
        t.jc.state = .probe ∧ t.jc.tentative = some p ∧ t.jc.number = none ∧
          t.jc.attempts = min 255 (s.jc.attempts + 1) ∧ t.pt.records = s.pt.records
      | none, false, none =>
        t.jc.state = .unnumbered ∧ t.jc.tentative = none ∧ t.jc.number = none ∧ t.pt.records = s.pt.records) ∧
    ∀ p, s.jc.number = none → s.ps.fixedNumber = false → s.chooseFrom s.ps.preferred = some p →
      ∃ u, exec .listenTimerExpiry s = .next (commit .nothing s u) ∧
        if s.lc.queue.length < 8 then u.jc.probeOwed = false ∧
          ∃ e ∈ u.lc.queue, e.inFlight = false ∧ e.frame = ⟨p, .probe ⟨s.ps.token, s.ps.planCheck, s.ps.planValid⟩⟩
        else u.jc.probeOwed = true ∧ u.lc.queue = s.lc.queue

/-- R30: the part's own PROBE going out starts a wait of 2P; the wait passed, the tentative number is the
position number, the failed numbers are emptied and the part is in RUN. (That the receiver then stands in
IDLE, without the three recessive cells of R38, is the model's choice, log 6; that the clock stands at the moment the wait
ran out, and the renewal ages start there, is the model's choice, log 2.) -/
def Obligations.ProbeOutThenNumberTaken : Prop :=
  (∀ (s : State) (f : LinkFrame), s.flight isProbe = some f → s.jc.state = .probe →
    s.jc.tentative = some f.sender →
    ∃ t, exec .probeComplete s = .next t ∧ t.jc.probeWait = .running (s.now + 2 * s.period) ∧
      t.jc.state = .probe ∧ t.jc.tentative = some f.sender ∧ flights t.lc.queue = [] ∧
      (s.lc.receiver = .frame → t.lc.receiver = .idle)) ∧
  ∀ (s : State) (due : Nat) (p : Position), s.jc.probeWait = .running due → s.jc.tentative = some p →
    ∃ t, exec .probeWaitExpiry s = .next t ∧ t.now = max s.now due ∧ t.jc.state = .run ∧
      t.jc.number = some p ∧ t.jc.tentative = none ∧ t.jc.failed = [] ∧ t.jc.probeWait = .stopped ∧
      t.sg.obligation = true ∧ t.sg.renewed = .all (max s.now due) ∧ t.pt.find p = none

/-- R35: with the Relay Driver STEADY, no antenna line on and, in case REJOIN, no RELEASE, KEY or COMMAND in
the queue, LEAVING ends: the view and the slots are empty, the Status Generator is stopped, and the next
state is LISTEN with the number kept (REJOIN), DUPLICATE with it kept (fixed number) or LISTEN without one
(that the end is a command of its own is the table's, and the model's reading log 7). -/
def Obligations.LeavingCompleteEmptiesPart : Prop :=
  ∀ s : State, s.jc.state = .leaving → s.rd.state = .steady → s.rd.lines.ant = 0 →
    (s.jc.leaving = some .rejoin → ∀ e ∈ s.lc.queue,
      isRelease e.frame = false ∧ isKey e.frame = false ∧ isCommand e.frame = false) →
    ∃ t, exec .leavingComplete s = .next t ∧ t.pt.records = [] ∧ t.pt.linkLost = false ∧
      t.sg.running = false ∧ t.jc.failed = [] ∧ t.jc.leaving = none ∧ t.ct.slots = .all .empty ∧
      t.ct.reservations = [] ∧
      (if s.jc.leaving = some .duplicate ∧ s.ps.fixedNumber = true then
        t.jc.state = .duplicate ∧ t.jc.number = s.jc.number
      else
        t.jc.state = .listen ∧ t.jc.attempts = 0 ∧ t.jc.listenTimer = .running (s.now + 2 * s.period) ∧
          t.jc.number = if s.jc.leaving = some .duplicate then none else s.jc.number)

/-- R36, R34, R187: REJOIN-SELF in RUN, LISTEN, PROBE, UNNUMBERED and DUPLICATE starts LEAVING with case
REJOIN, the number as it was, the wait list, reservations, asks, answers and standby cleared and no slot
holding; in LEAVING and UNPLANNED it is answered NOT_RUNNING, the join state as it was. -/
def Obligations.RejoinSelfStartsLeaving : Prop :=
  ∀ s : State,
    (s.jc.state = .run ∨ s.jc.state = .listen ∨ s.jc.state = .probe ∨ s.jc.state = .unnumbered ∨
        s.jc.state = .duplicate →
      ∃ t, exec .rejoinSelf s = .next t ∧ t.jc.state = .leaving ∧ t.jc.leaving = some .rejoin ∧
        t.jc.number = s.jc.number ∧ t.jc.tentative = none ∧ t.jc.listenTimer = .stopped ∧
        t.jc.probeWait = .stopped ∧ t.ct.waitList = [] ∧ t.ct.reservations = [] ∧ t.hu.ask = .none ∧ t.hu.latch = none ∧
        t.hu.answer = none ∧ t.cu.standby = false ∧ t.cu.deferred = false ∧
        (∀ i, (t.slot i).held = none) ∧ t.ks.ptt = s.ks.ptt ∧ t.fu = s.fu ∧ t.pt.records = s.pt.records) ∧
    (s.jc.state = .leaving ∨ s.jc.state = .unplanned →
      exec .rejoinSelf s = .next (commit .nothing s (s.answerKey .rejoinSelf (.denied .notRunning))) ∧
        (commit .nothing s (s.answerKey .rejoinSelf (.denied .notRunning))).jc.state = s.jc.state)

/-! ### The position link (Chapter 3) -/

/-- R38, R40, R41: ten recessive cells take the receiver from SYNC to IDLE; a start mark takes it from IDLE
to FRAME; in SYNC and IDLE no frame comes in and no fault is found. At a start opportunity the frame at the
head of the queue goes into flight; a lost contention leaves no frame in flight and counts nothing, and the
lost frame stays in its place as an unsent one, or goes where it is marked for withdrawal (u, before the
other blocks take up the change; with no held offer of its class). (The bit times are left out, log 6.) -/
def Obligations.ReceiverAndFlightMoves : Prop :=
  ∀ s : State,
    (s.lc.receiver = .sync → ∃ t, exec .receiverSynced s = .next t ∧ t.lc.receiver = .idle ∧
      t.lc.lineErrors = s.lc.lineErrors ∧ flights t.lc.queue = flights s.lc.queue) ∧
    (s.lc.receiver = .idle → ∃ t, exec .startMarkReceived s = .next t ∧ t.lc.receiver = .frame ∧
      t.lc.lineErrors = s.lc.lineErrors ∧ flights t.lc.queue = flights s.lc.queue) ∧
    (∀ c, comesIn c = true → s.lc.receiver ≠ .frame → exec c s = .next (commit .nothing s s)) ∧
    (∀ e rest, s.lc.receiver = .idle → s.lc.queue = e :: rest → flights s.lc.queue = [] →
      ∃ t, exec .frameStart s = .next t ∧ t.lc.receiver = .frame ∧ flights t.lc.queue = [e.frame]) ∧
    (∀ f, flights s.lc.queue = [f] → ∃ t, exec .contentionLost s = .next t ∧ flights t.lc.queue = [] ∧
      t.lc.lineErrors = s.lc.lineErrors ∧ t.lc.errorCount = s.lc.errorCount ∧ t.lc.level = s.lc.level ∧
      t.lc.receiver = s.lc.receiver) ∧
    ∀ e, flying s.lc.queue = some e → (isStatus e.frame = true → s.lc.heldStatus = none) →
      (isKey e.frame = true → s.lc.heldKey = none) →
      ∃ u, exec .contentionLost s = .next (commit .nothing s u) ∧
        u.lc = { s.lc with
          queue := if e.withdraw = true then s.lc.queue.filter (fun x => !x.inFlight)
            else s.lc.queue.map (fun x => { x with inFlight := false }) }

/-- R42, R43, R44, R56: each fault the receiver finds in FRAME, and a line failing under a sender with a frame
in flight, adds one to the line errors (255 at most), takes the receiver to SYNC and counts into adaptation:
at ATK_IMM the level rises by one (15 at most) and the count restarts. A sender's frame is out of flight, an
unsent one in its place, or gone where it is marked for withdrawal (u, before the other blocks take up the
change; with no held offer of its class).
(That a count which stands at a new plan's ATK_IMM or above already raises the level at the next
event, and not before, is the model's choice, log 59.) -/
def Obligations.LineFaultsAreCounted : Prop :=
  (∀ (c : Instr) (s : State),
    ((∃ k, c = .frameFault k) ∧ s.lc.receiver = .frame ∨ (c = .senderLineFault ∧ ∃ f, flights s.lc.queue = [f])) →
    ∃ t, exec c s = .next t ∧ t.lc.receiver = .sync ∧ t.lc.lineErrors = min 255 (s.lc.lineErrors + 1) ∧
      (if s.timing.atkImm ≤ s.lc.errorCount + 1 then
        t.lc.level = min 15 (s.lc.level + 1) ∧ t.lc.errorCount = 0
      else t.lc.level = s.lc.level ∧ t.lc.errorCount = s.lc.errorCount + 1) ∧
      t.lc.adaptation = s.lc.adaptation ∧ (c = .senderLineFault → flights t.lc.queue = []) ∧
      t.pt.records = s.pt.records ∧ t.fu = s.fu) ∧
  ∀ (s : State) (e : QueueEntry), flying s.lc.queue = some e → (isStatus e.frame = true → s.lc.heldStatus = none) →
    (isKey e.frame = true → s.lc.heldKey = none) →
    ∃ u, exec .senderLineFault s = .next (commit .nothing s u) ∧ u.lc.queue =
      if e.withdraw = true then s.lc.queue.filter (fun x => !x.inFlight)
      else s.lc.queue.map (fun x => { x with inFlight := false })

/-- R57: at the end of an adaptation period the level rises by one (15 at most) at a count of ATK_DLY or
more, falls by one (0 at least) at a count of 0 and else stays; the count restarts at 0 and the next period
starts with 8P. (ATK_DLY is at least 1, R19. That the clock stands at the moment the period ran out, max of
now and that moment, is the model's choice, log 2.) -/
def Obligations.AdaptationPeriodSetsLevel : Prop :=
  ∀ (s : State) (due : Nat), s.lc.adaptation = .running due → 1 ≤ s.timing.atkDly →
    ∃ t, exec .adaptationPeriodEnd s = .next t ∧ t.now = max s.now due ∧
      (s.timing.atkDly ≤ s.lc.errorCount → t.lc.level = min 15 (s.lc.level + 1)) ∧
      (s.lc.errorCount = 0 → t.lc.level = s.lc.level - 1) ∧
      (0 < s.lc.errorCount → s.lc.errorCount < s.timing.atkDly → t.lc.level = s.lc.level) ∧
      t.lc.errorCount = 0 ∧ t.lc.adaptation = .running (max s.now due + 8 * s.period) ∧
      t.lc.lineErrors = s.lc.lineErrors

/-- R48, R49, R50: what the queue does with an offer. A CLAIM, COMMAND or PROBE never coalesces, nor does
a frame of another class that meets none of its kind: it enters below 8, displaces an unsent STATUS at 8
where its class value is below 4, and else is refused and counted.
A STATUS or KEY is held while one of its class is in flight. An unsent STATUS gives its place to a newer
one. A RELEASE and an unsent CLAIM of its slot and antenna, and a KEY off and an unsent plain KEY on, remove
each other; a KEY takes the place of any other unsent KEY (a KEY off of a KEY off by the model's choice, log 17). -/
def Obligations.OffersCoalesceEnterOrAreRefused : Prop :=
  ∀ (lc : LinkCtl) (f : LinkFrame),
    ((isCommand f = true ∨ isProbe f = true ∨ (∃ p c, f = ⟨p, .claim c⟩) ∨
        (∃ p r, f = ⟨p, .release r⟩ ∧ (unsent (isClaimFor r.slot r.antenna.toNat) lc.queue).isSome = false) ∨
        (isStatus f = true ∧ flyingIs isStatus lc.queue = false ∧ (unsent isStatus lc.queue).isSome = false) ∨
        (isKey f = true ∧ flyingIs isKey lc.queue = false ∧ (unsent isKey lc.queue).isSome = false)) →
      (lc.queue.length < 8 → (lc.offer f).2 = .entered ∧
        (lc.offer f).1.queue.Perm (⟨f, false, false⟩ :: lc.queue)) ∧
      (8 ≤ lc.queue.length → f.body.classValue < 4 → (unsent isStatus lc.queue).isSome = true →
        (lc.offer f).2 = .displacing ∧ (lc.offer f).1.overflows = lc.overflows ∧
        (lc.offer f).1.queue.Perm
          (⟨f, false, false⟩ :: lc.queue.filter (fun e => e.inFlight || !isStatus e.frame))) ∧
      (8 ≤ lc.queue.length → (4 ≤ f.body.classValue ∨ (unsent isStatus lc.queue).isSome = false) →
        (lc.offer f).2 = .refused ∧ (lc.offer f).1.queue = lc.queue ∧
        (lc.offer f).1.overflows = min 255 (lc.overflows + 1))) ∧
    (isStatus f = true → flyingIs isStatus lc.queue = true →
      (lc.offer f).1 = { lc with heldStatus := some f } ∧ (lc.offer f).2 = .heldOffer) ∧
    (isKey f = true → flyingIs isKey lc.queue = true →
      (lc.offer f).1 = { lc with heldKey := some f } ∧ (lc.offer f).2 = .heldOffer) ∧
    (isStatus f = true → flyingIs isStatus lc.queue = false → (unsent isStatus lc.queue).isSome = true →
      (lc.offer f).2 = .replaced ∧ (lc.offer f).1.queue.length = lc.queue.length ∧
      ∀ e ∈ (lc.offer f).1.queue, isStatus e.frame = true → e.frame = f) ∧
    (∀ p r, f = ⟨p, .release r⟩ → (unsent (isClaimFor r.slot r.antenna.toNat) lc.queue).isSome = true →
      (lc.offer f).2 = .cancelled ∧
      ∀ e ∈ (lc.offer f).1.queue, e ∈ lc.queue ∧
        (isClaimFor r.slot r.antenna.toNat e.frame = true → e.inFlight = true)) ∧
    (∀ p k old, f = ⟨p, .key k⟩ → flyingIs isKey lc.queue = false → unsent isKey lc.queue = some old →
      if k.on = false ∧ isPlainKeyOn old = true then
        (lc.offer f).2 = .cancelled ∧ ∀ e ∈ (lc.offer f).1.queue, isKey e.frame = false
      else
        (lc.offer f).2 = .replaced ∧ (lc.offer f).1.queue.length = lc.queue.length ∧
        ∀ e ∈ (lc.offer f).1.queue, isKey e.frame = true → e.frame = f)

/-! ### The peer view (Chapter 4) -/

/-- R61 to R65, R69, R77: a good STATUS of another position replaces the head of its record, ask and answer included,
sets the entries of its slice with ages at 0 and restarts the head age; an entry outside the slice stays, unless the
slice names its antenna, or a new period code puts its age at the limit, or the token shows another unit. A SINGLE one
sets token and label and makes the record LIVE, as does the last of the four slots reported; another one leaves token
and label as they were, and a record that was PARTIAL stays so while a slot is unreported. R75: link lost is cleared
where the record goes LIVE and stays else, a replaced unit's record apart; in RUN live-seen is set with a LIVE record
in the view. Records of other positions stay. Codes beyond a field's range are read as R64 gives. -/
def Obligations.StatusReplacesPeerHead : Prop :=
  ∀ (p : Position) (f : StatusFrame) (s : State), (FrameBody.status f).fault = none → s.lc.receiver = .frame →
    s.jc.number ≠ some p → ((s.pt.find p).isSome = true ∨ s.pt.records.length < 15) →
    ∃ t r, exec (.statusReceived p f) s = .next t ∧ t.pt.find p = some r ∧
      r.freq = (if f.freq = 1048575 then none else some (min 1000000 f.freq.toNat)) ∧
      r.band = (if f.band.toNat ≤ 10 then f.band.toNat else 0) ∧
      r.periodCode = some (min 12 f.periodCode.toNat) ∧ r.keyed = f.keyed ∧ r.keyTenure = f.keyTenure.toNat ∧
      r.standby = f.standby ∧ r.linkLost = f.linkLost ∧ r.planInfo = some (f.planCheck, f.planValid) ∧
      r.mismatch = (f.planValid && s.ps.plan.isSome && f.planCheck != s.ps.planCheck) ∧
      r.priority = some f.priority ∧
      r.ask = (if f.askAntenna = 0 then none else some (f.askTarget, f.askAntenna.toNat)) ∧
      r.answer = (if f.answerAntenna = 0 ∨ f.answer = 0 then none
        else some (f.answerTarget, f.answerAntenna.toNat, if f.answer = 1 then .keep else .giving)) ∧
      r.headSince = s.now ∧ (∀ i ∈ statusSlots f, r.slotsReported.get i = true) ∧
      (∀ e ∈ statusEntries f, r.entries.get e.1 =
        if e.2.antenna = 0 then none else some ⟨e.2.antenna.toNat, e.2.mask, e.2.tenure.toNat, s.now⟩) ∧
      (∀ i, i ∉ statusSlots f → r.entries.get i =
        match s.pt.find p with
        | some r0 => if tokenDiffers f r0 = true then none else (r0.entries.get i).filter (fun e =>
            (statusEntries f).all (fun x => x.2.antenna == 0 || x.2.antenna.toNat != e.antenna) &&
              (periodOf (r0.periodCode.getD s.timing.periodCode) == periodOf (min 12 f.periodCode.toNat) ||
                decide (s.now < e.since + 9 * periodOf (min 12 f.periodCode.toNat))))
        | none => none) ∧
      (f.cadence = 0 → r.live = true ∧ f.ident = some (r.label.getD ⟨0, 0, 0⟩, r.token.getD 0)) ∧
      (f.cadence ≠ 0 → r.token = (s.pt.find p).bind (fun r0 => r0.token) ∧
        r.label = (s.pt.find p).bind (fun r0 => r0.label)) ∧
      ((∀ i, r.slotsReported.get i = true) → r.live = true) ∧
      (∀ i, i ∉ statusSlots f → r.slotsReported.get i = ((s.pt.find p).map (fun r0 => r0.slotsReported.get i)).getD false) ∧
      (r.live = true ↔ f.cadence = 0 ∨ (∀ i, r.slotsReported.get i = true) ∨ ∃ r0, s.pt.find p = some r0 ∧ r0.live = true) ∧
      (if r.live = true ∧ ∀ r0, s.pt.find p = some r0 → r0.live = false then t.pt.linkLost = false
        else (∀ r0, s.pt.find p = some r0 → tokenDiffers f r0 = false) → t.pt.linkLost = s.pt.linkLost) ∧
      (s.jc.state = .run → t.pt.liveSeen = (s.pt.liveSeen || t.pt.records.any (fun x => x.live))) ∧
      ∀ q, q ≠ p → t.pt.find q = s.pt.find q

/-- R66, R61: a good CLAIM of another position sets its entry for the slot, empties any other entry of the same antenna
and restarts the head age. R102, R104, R107, R108, R113, R126: in RUN it ends the sender's reservation of the antenna
and is judged, with the entry in the view, against each slot in turn. How an entry that touches some antennas is judged
at slot i, a touched antenna without room in the view filling what needs it: a QUEUED candidate it fills is taken out
where its CLAIM was unsent, to wait in wait mode, and else its CLAIM in flight is marked for withdrawal; a WINDOW
candidate it fills is lost to an assert CLAIM or a tenure of 1 or more, with a RELEASE LOST, and answers a CLAIM of
tenure 0 with an assert; a QUEUED grow it fills is dropped where its CLAIM was unsent, and a WINDOW grow is lost or
answers alike; a hold is lost, FREEING with reason LOST, where as many holders as the antenna's capacity rank before it,
and answers a CLAIM of tenure 0 with an assert of its mask and tenure; an assert goes out only as the pacing of asserts
lets it. The judging at a slot is stated for a transmit queue that holds fewer than six frames. (That a CLAIM of tenure
0 which touches both the hold's members and those a WINDOW grow adds draws the grow's assert is inferred, log 18; so is
the mark by which a withdrawn candidate waits whatever wait mode says, which its wait entry carries, one that came from
service without the mark being dropped with wait mode off, log 20; the model's choices are these: wait mode is read at
this moment for a CLAIM in flight too, log 46; a CLAIM of a peer that held the antenna before is answered too, log 54;
the tenure that ranks a peer with two such entries is the first's, log 55; the order of the slots, log 68, and of a grow
and its hold at one slot, log 61; the order of the receivers, log 4.) -/
def Obligations.ClaimSetsPeerEntry : Prop :=
  (∀ (p : Position) (f : ClaimFrame) (s : State), (FrameBody.claim f).fault = none → s.lc.receiver = .frame →
    s.jc.number ≠ some p → ((s.pt.find p).isSome = true ∨ s.pt.records.length < 15) →
    (∃ t r, exec (.claimReceived p f) s = .next t ∧ t.pt.find p = some r ∧
      r.entries.get f.slot =
        (if f.antenna = 0 then none else some ⟨f.antenna.toNat, f.mask, f.tenure.toNat, s.now⟩) ∧
      r.priority = some f.priority ∧ r.headSince = s.now ∧
      (∀ i e, f.antenna ≠ 0 → i ≠ f.slot → r.entries.get i = some e → e.antenna ≠ f.antenna.toNat) ∧
      ∀ q, q ≠ p → t.pt.find q = s.pt.find q) ∧
    (s.jc.state = .run → f.antenna ≠ 0 →
      exec (.claimReceived p f) s = .next (commit .nothing s
        (allSlots.foldl
          (fun x i => x.judgeSlot (s.uses f.antenna.toNat f.mask)
            (if f.isAssert then .assertClaim else .plainClaim f.tenure.toNat) i)
          ((s.heardFrame.applyClaim p f).unreserve f.antenna.toNat p))))) ∧
  ∀ (s : State) (touched : List Antenna) (n : News) (i : Slot) (fills : List Antenna → Prop),
    (∀ l, fills l ↔ ∃ a ∈ l, a ∈ touched ∧ s.available a = false) → s.lc.queue.length < 6 →
    (∀ c, (s.slot i).cand = some c → c.antenna ≤ 32) → (∀ h, (s.slot i).held = some h → h.antenna ≤ 32) →
    (∀ c, (s.slot i).cand = some c → c.phase = .queued →
      (¬ fills (s.uses c.antenna c.mask) → ∃ c', ((s.judgeSlot touched n i).slot i).cand = some c' ∧
        c'.antenna = c.antenna ∧ c'.mask = c.mask ∧ c'.phase = .queued ∧ c'.readWait = c.readWait) ∧
      (fills (s.uses c.antenna c.mask) → unsent (isPlainClaimFor i c.antenna) s.lc.queue = none →
        (∃ c', ((s.judgeSlot touched n i).slot i).cand = some c' ∧ c'.antenna = c.antenna ∧ c'.mask = c.mask ∧
          c'.phase = .queued ∧ c'.readWait = s.pi.waitMode) ∧
        ∀ e ∈ (s.judgeSlot touched n i).lc.queue, e.inFlight = true → isPlainClaimFor i c.antenna e.frame = true →
          e.withdraw = true) ∧
      (fills (s.uses c.antenna c.mask) → (unsent (isPlainClaimFor i c.antenna) s.lc.queue).isSome = true →
        ((s.judgeSlot touched n i).slot i).cand = none ∧
        (∀ e ∈ (s.judgeSlot touched n i).lc.queue, e.inFlight = false →
          isPlainClaimFor i c.antenna e.frame = false) ∧
        (c.waits = true ∨ s.pi.waitMode = true → s.ct.waitList.length < 4 →
          (s.judgeSlot touched n i).ct.waitList = s.ct.waitList ++ [⟨c.antenna, i, c.mask, c.waits⟩]) ∧
        (c.waits = false → s.pi.waitMode = false →
          (s.judgeSlot touched n i).ct.waitList = s.ct.waitList))) ∧
    (∀ c due, (s.slot i).cand = some c → c.phase = .window due →
      (fills (s.uses c.antenna c.mask) → n.strong = true →
        ((s.judgeSlot touched n i).slot i).cand = none ∧ (s.leavingSilently = false →
          ∃ e ∈ (s.judgeSlot touched n i).lc.queue, e.frame = s.releaseFrame i c.antenna .lost none)) ∧
      (¬ (fills (s.uses c.antenna c.mask) ∧ n.strong = true) →
        ∃ c', ((s.judgeSlot touched n i).slot i).cand = some c' ∧ c'.antenna = c.antenna ∧ c'.mask = c.mask ∧
          c'.phase = c.phase) ∧
      (fills (s.uses c.antenna c.mask) → n = .plainClaim 0 → s.mayAssert i c.antenna c.lastAssert = true →
        ∃ e ∈ (s.judgeSlot touched n i).lc.queue, e.frame = s.claimFrame i c.antenna c.mask true 0)) ∧
    ∀ h, (s.slot i).held = some h →
      (n.ranks = true → (∃ a ∈ s.uses h.antenna h.mask, a ∈ touched ∧ s.losesRank h a = true) →
        ((s.judgeSlot touched n i).slot i).held = none ∧
        ((s.judgeSlot touched n i).slot i).freeing = (s.slot i).freeing ++
          [⟨h.antenna, h.mask, h.drive, h.tenure, h.tenureLink, .lost, none, false⟩]) ∧
      (¬ (n.ranks = true ∧ ∃ a ∈ s.uses h.antenna h.mask, a ∈ touched ∧ s.losesRank h a = true) →
        ∃ h', ((s.judgeSlot touched n i).slot i).held = some h' ∧ h'.antenna = h.antenna ∧ h'.mask = h.mask ∧
          h'.drive = h.drive ∧ h'.tenure = h.tenure ∧ h'.tenureLink = h.tenureLink ∧ h'.shrink = h.shrink ∧
          (∀ m phase after, h.grow = some ⟨m, phase, after⟩ →
            fills (s.membersOf h.antenna (m &&& ~~~h.mask)) →
            (if phase = .queued then (unsent (isPlainClaimFor i h.antenna) s.lc.queue).isSome = true ∧
                ∀ c, (s.slot i).cand = some c → c.antenna ≠ h.antenna
              else n.strong = true) → h'.grow = none) ∧
          (∀ m phase after, h.grow = some ⟨m, phase, after⟩ →
            ¬ fills (s.membersOf h.antenna (m &&& ~~~h.mask)) → h'.grow = h.grow)) ∧
      (∀ a, s.losesRank h a = true ↔ s.available a = false ∧ s.capacity a ≤
        ((s.holders a).filter (fun r => decide (h.tenureLink < s.peerTenure r a) ||
          (s.peerTenure r a == h.tenureLink && (decide ((s.peerPriority r).toNat < s.ownPriority.toNat) ||
            (s.peerPriority r == s.ownPriority && decide (r.pos.toNat < s.self.toNat)))))).length) ∧
      (fills (s.uses h.antenna h.mask) → n = .plainClaim 0 → s.mayAssert i h.antenna h.lastAssert = true →
        (∀ c, (s.slot i).cand = some c → c.antenna ≠ h.antenna) →
        (∀ m due after, h.grow ≠ some ⟨m, .window due, after⟩) →
        ∃ e ∈ (s.judgeSlot touched n i).lc.queue, e.frame = s.claimFrame i h.antenna h.mask true h.tenure) ∧
      (∀ m due after, h.grow = some ⟨m, .window due, after⟩ → fills (s.membersOf h.antenna (m &&& ~~~h.mask)) →
        n = .plainClaim 0 → s.mayAssert i h.antenna h.lastAssert = true →
        (∀ c, (s.slot i).cand = some c → c.antenna ≠ h.antenna) →
        ∃ e ∈ (s.judgeSlot touched n i).lc.queue, e.frame = s.claimFrame i h.antenna m true 0)

/-- R67: a good RELEASE of antenna a empties the slot's entry of a, takes a out of the mask of a port whose
member it is (the entry going with its last member) and leaves any other entry, its age as it was; R68: a
KEY sets keyed, band, frequency and key tenure alone. Both restart the head age. R113, R128: in RUN a RELEASE that
yields to another position reserves for it, for 2W, the antenna and, where the entry was that port, its
members; one that yields to this part serves the wait entry for the antenna ahead of the others. R170: in
AMP-ON or TRANSMIT on a single-signal band, a counted peer's plain KEY on for that band, and an assert KEY on
where this part ranks first, is answered by an assert KEY offered at once; nothing else is (u, before the
other blocks take up the change).
(The mark that goes with an entry into its candidate is log 20.) -/
def Obligations.ReleaseAndKeySetPeerRecord : Prop :=
  (∀ (p : Position) (f : ReleaseFrame) (s : State) (r0 : PeerRecord), (FrameBody.release f).fault = none →
    s.lc.receiver = .frame → s.jc.number ≠ some p → s.pt.find p = some r0 →
    ∃ t r, exec (.releaseReceived p f) s = .next t ∧ t.pt.find p = some r ∧ r.headSince = s.now ∧
      (r0.entries.get f.slot = none → r.entries.get f.slot = none) ∧
      (∀ e, r0.entries.get f.slot = some e →
        (e.antenna = f.antenna.toNat → r.entries.get f.slot = none) ∧
        (e.antenna ≠ f.antenna.toNat → e.mask &&& s.placeIn e.antenna f.antenna.toNat = 0 →
          r.entries.get f.slot = some e) ∧
        (e.antenna ≠ f.antenna.toNat → e.mask &&& s.placeIn e.antenna f.antenna.toNat ≠ 0 →
          r.entries.get f.slot =
            if e.mask &&& ~~~s.placeIn e.antenna f.antenna.toNat &&& s.placesOf e.antenna = 0 then none
            else some { e with mask := e.mask &&& ~~~s.placeIn e.antenna f.antenna.toNat })) ∧
      (∀ i, i ≠ f.slot → r.entries.get i = r0.entries.get i) ∧ (∀ q, q ≠ p → t.pt.find q = s.pt.find q) ∧
      (s.jc.state = .run → f.yieldValid = true → f.antenna ≠ 0 → s.jc.number ≠ some f.yieldTo →
        ∀ a, (a = f.antenna.toNat ∨ ∃ e, r0.entries.get f.slot = some e ∧ e.antenna = f.antenna.toNat ∧
            a ∈ s.membersOf e.antenna e.mask) →
          ⟨a, f.yieldTo, s.now + 2 * s.window⟩ ∈ t.ct.reservations) ∧
      (s.jc.state = .run → f.yieldValid = true → f.antenna ≠ 0 → s.jc.number = some f.yieldTo →
        t.ct.reservations = s.ct.reservations ∧
        ∀ w, s.waitEntry f.antenna.toNat = some w → (s.slot w.slot).cand = none →
          (∀ h, (s.slot w.slot).held = some h → h.antenna ≠ w.antenna) → s.lc.queue.length < 7 →
          s.pt.disagreement = false → (s.applyRelease p f).localCheck w.slot w.antenna w.mask = none →
          (t.slot w.slot).cand = some ⟨w.antenna, w.mask, .queued, w.waits, none, false⟩)) ∧
  ∀ (p : Position) (f : KeyFrame) (s : State) (r0 : PeerRecord), s.lc.receiver = .frame → s.jc.number ≠ some p →
    s.pt.find p = some r0 →
    (∃ t, exec (.keyReceived p f) s = .next t ∧
      t.pt.find p = some { r0 with
        keyed := f.on, band := if f.band.toNat ≤ 10 then f.band.toNat else 0,
        freq := if f.freq = 1048575 then none else some (min 1000000 f.freq.toNat),
        keyTenure := f.tenure.toNat, headSince := s.now } ∧
      ∀ q, q ≠ p → t.pt.find q = s.pt.find q) ∧
    (s.jc.state = .run →
      ∃ u, exec (.keyReceived p f) s = .next (commit (keyNews p f) s u) ∧
        if (s.ks.state = .ampOn ∨ s.ks.state = .transmit) ∧ (s.bandEntry s.fu.band).single = true ∧
            s.fu.band ≠ 0 ∧ f.band.toNat = s.fu.band ∧ s.fu.band ≤ 10 ∧ r0.live = true ∧ r0.standby = false ∧
            f.freq ≠ 1048575 ∧ f.on = true ∧
            (f.isAssert = true → rankBefore f.tenure.toNat (s.peerPriority r0) p s.ks.keyTenureLink
              s.ownPriority s.self = false) then
          (s.lc.queue.length < 8 → (flyingIs isKey s.lc.queue = true ∧
              u.lc.heldKey = some (s.keyFrame true true s.ks.keyTenure)) ∨
            ∃ e ∈ u.lc.queue, e.inFlight = false ∧ e.frame = s.keyFrame true true s.ks.keyTenure)
        else u.lc.queue = s.lc.queue ∧ u.lc.heldKey = s.lc.heldKey)

/-- R33, R60: a good frame with the part's own number, a PROBE apart, changes no record; in RUN it shows a
duplicate: the part is in LEAVING with case DUPLICATE, its number kept, and the Status Generator stopped. -/
def Obligations.OwnNumberShowsDuplicate : Prop :=
  ∀ (p : Position) (c : Instr) (s : State), s.jc.number = some p → s.lc.receiver = .frame →
    ((∃ f, c = .statusReceived p f ∧ (FrameBody.status f).fault = none) ∨
      (∃ f, c = .claimReceived p f ∧ (FrameBody.claim f).fault = none) ∨
      (∃ f, c = .releaseReceived p f ∧ (FrameBody.release f).fault = none) ∨ (∃ f, c = .keyReceived p f) ∨
      (∃ f, c = .quietCommand p f ∨ c = .quietEndCommand p f ∨ c = .rejoinCommand p f ∨ c = .relearnCommand p f)) →
    ∃ t, exec c s = .next t ∧ t.pt.records = s.pt.records ∧ t.cu.quiet = s.cu.quiet ∧
      (s.jc.state = .run → t.jc.state = .leaving ∧ t.jc.leaving = some .duplicate ∧
        t.jc.number = some p ∧ t.sg.running = false ∧ t.ct.reservations = [])

/-- R29, R32: a PROBE with the number being probed for fails the attempt: the number joins the failed ones and a free
one is probed for, or none is left and the part is UNNUMBERED. The unsent PROBE of the failed attempt is withdrawn;
the new attempt's PROBE, with token, plan check and plan-valid, stands unsent in the queue where it then has room (u,
before the other blocks take up the change; the mark of an owed one is inferred, log 8). In RUN a PROBE with the
part's own number is answered with a STATUS at once, where the queue has room for it, and no record changes. -/
def Obligations.ProbeFailsAttemptOrIsAnswered : Prop :=
  ∀ (p : Position) (f : ProbeFrame) (s : State), s.lc.receiver = .frame →
    (s.jc.state = .probe → s.jc.tentative = some p →
      ∃ t, exec (.probeReceived p f) s = .next t ∧ t.jc.failed = s.jc.failed ++ [p] ∧
        t.jc.probeWait = .stopped ∧ t.pt.records = s.pt.records ∧
        (∃ u, exec (.probeReceived p f) s = .next (commit .nothing s u) ∧
          (∀ q, t.jc.tentative = some q → (dropUnsent isProbe s.lc.queue).length < 8 → u.jc.probeOwed = false ∧
            ∃ e ∈ u.lc.queue, e.inFlight = false ∧
              e.frame = ⟨q, .probe ⟨s.ps.token, s.ps.planCheck, s.ps.planValid⟩⟩) ∧
          ∀ e ∈ u.lc.queue, e.inFlight = false → isProbe e.frame = true → some e.frame.sender = t.jc.tentative) ∧
        ((∃ q, t.jc.state = .probe ∧ t.jc.tentative = some q ∧ q ∉ t.jc.failed ∧ s.pt.find q = none ∧
            t.jc.attempts = min 255 (s.jc.attempts + 1)) ∨
          (t.jc.state = .unnumbered ∧ t.jc.tentative = none ∧
            ∀ q, s.pt.find q ≠ none ∨ q ∈ t.jc.failed))) ∧
    (s.jc.state = .run → s.jc.number = some p →
      ∃ u, exec (.probeReceived p f) s = .next (commit .nothing s u) ∧ u.jc = s.jc ∧ u.pt = s.pt ∧
        (s.sg.running = true → flyingIs isStatus s.lc.queue = false → s.lc.queue.length < 8 →
          ∃ e ∈ u.lc.queue, e.inFlight = false ∧ e.frame = s.statusFrame))

/-- R70, R71, R75: an entry at 9 periods of its sender becomes absent; its record goes with it where no entry
is left and the head age is at 9 periods too, and stays else, the other entries as they were. A record
without entries at 9 periods of head age is removed, and link lost is set where no LIVE record is left
while one has been seen. Records of other positions stay. (That the clock stands at the moment of the limit
is the model's choice, log 2.) -/
def Obligations.PeerAgesRunOut : Prop :=
  (∀ (p : Position) (i : Slot) (s : State) (r : PeerRecord) (e : PeerEntry), s.pt.find p = some r →
    r.entries.get i = some e →
    ∃ t, exec (.peerEntryExpiry p i) s = .next t ∧
      t.now = max s.now (e.since + 9 * periodOf (r.periodCode.getD s.timing.periodCode)) ∧
      (if allSlots.all (fun j => j == i || (r.entries.get j).isNone) = true ∧
          r.headSince + 9 * periodOf (r.periodCode.getD s.timing.periodCode) ≤ t.now then
        t.pt.find p = none ∧
          t.pt.linkLost = (s.pt.linkLost || (s.pt.liveSeen && s.pt.records.all (fun q => q.pos == p || !q.live)))
      else t.pt.find p = some { r with entries := r.entries.set i none } ∧ t.pt.linkLost = s.pt.linkLost) ∧
      ∀ q, q ≠ p → t.pt.find q = s.pt.find q) ∧
  ∀ (p : Position) (s : State) (r : PeerRecord), s.pt.find p = some r → (∀ i, r.entries.get i = none) →
    ∃ t, exec (.peerRecordExpiry p) s = .next t ∧
      t.now = max s.now (r.headSince + 9 * periodOf (r.periodCode.getD s.timing.periodCode)) ∧
      t.pt.find p = none ∧
      t.pt.linkLost = (s.pt.linkLost || (s.pt.liveSeen && s.pt.records.all (fun q => q.pos == p || !q.live))) ∧
      ∀ q, q ≠ p → t.pt.find q = s.pt.find q

/-! ### Status frames and renewal (Chapter 5) -/

/-- R86: at the interval's end the timer restarts with the interval of the cadence in force (P, P/2 or P/4), the slice
staying, and a STATUS is built for the cadence and slice and offered: it stands unsent in the queue, or is the held
offer while one is in flight (u, before the other blocks take up the change). R83 to R85: what a STATUS carries: the
cadence (0, 1 or 2 for SINGLE, DOUBLE or QUAD) and slice it is built for, the rest of the head from its owners as they
stand, for each slot of its slice its WINDOW candidate, else its HELD part (with the grown mask and tenure 0 while a
grow is in WINDOW), else its latest FREEING part, else nothing, and label and token in a SINGLE one. R90: at the end
of the own period since the last change of F the recent-change timer is expired. (That the clock stands at the moment
a timer ran out is the model's choice, log 2.)
(What the head and the identity show of a part without a number is the model's choice, log 38.) -/
def Obligations.StatusTimersRun : Prop :=
  (∀ (s : State) (due : Nat),
    (s.sg.interval = .running due →
      (∃ t, exec .statusIntervalExpiry s = .next t ∧ t.now = max s.now due ∧ t.sg.slice = s.sg.slice ∧
        t.sg.cadence = s.sg.cadence ∧ t.sg.renewed = s.sg.renewed ∧
        t.sg.interval = .running (max s.now due + s.period / (match s.sg.cadence with
          | .single => 1
          | .double => 2
          | .quad => 4))) ∧
      ∃ u, exec .statusIntervalExpiry s = .next (commit .nothing s u) ∧
        (s.sg.running = true → flyingIs isStatus s.lc.queue = true →
          u.lc.heldStatus = some ⟨s.self, .status (s.statusBody s.sg.cadence s.sg.slice)⟩ ∧
            u.sg.outstanding = some (s.sg.cadence, s.sg.slice)) ∧
        (s.sg.running = true → flyingIs isStatus s.lc.queue = false →
          (s.lc.queue.length < 8 ∨ (unsent isStatus s.lc.queue).isSome = true) →
          (∃ e ∈ u.lc.queue, e.inFlight = false ∧
            e.frame = ⟨s.self, .status (s.statusBody s.sg.cadence s.sg.slice)⟩) ∧
          u.sg.outstanding = some (s.sg.cadence, s.sg.slice)) ∧
        (s.sg.running = false → u.lc = s.lc)) ∧
    (s.sg.recent = .running due →
      ∃ t, exec .recentChangeExpiry s = .next t ∧ t.now = max s.now due ∧ t.sg.recent = .expired ∧
        t.sg.interval = s.sg.interval)) ∧
  ∀ (s : State) (c : Cadence) (slice : Nat) (f : StatusFrame), s.statusBody c slice = f →
    f.cadence = (match c with
      | .single => 0
      | .double => 1
      | .quad => 2) ∧
    f.freq = (match s.fu.freq with
      | none => 1048575
      | some n => BitVec.ofNat 20 n) ∧
    f.band = BitVec.ofNat 4 s.fu.band ∧
    (f.keyed = true ↔ s.ks.state = .ampOn ∨ s.ks.state = .transmit ∨ s.ks.state = .tail) ∧
    f.keyTenure = BitVec.ofNat 6 s.ks.keyTenure ∧ f.standby = s.cu.standby ∧ f.planValid = s.ps.planValid ∧
    f.planCheck = s.ps.planCheck ∧ f.linkLost = s.pt.linkLost ∧ f.priority = s.ownPriority ∧ f.askKind = 0 ∧
    f.periodCode = BitVec.ofNat 4 s.timing.periodCode ∧ f.slice = BitVec.ofNat 2 slice ∧
    (match s.hu.ask with
      | .standing target a _ _ _ => f.askTarget = target ∧ f.askAntenna = BitVec.ofNat 6 a
      | _ => f.askTarget = 0 ∧ f.askAntenna = 0) ∧
    (match s.hu.answer with
      | some x => f.answerTarget = x.asker ∧ f.answerAntenna = BitVec.ofNat 6 x.antenna ∧
          f.answer = if x.kind = .keep then 1 else 2
      | none => f.answerTarget = 0 ∧ f.answerAntenna = 0 ∧ f.answer = 0) ∧
    f.ident = (if c = .single then some ((s.antenna (s.self.toNat + 1)).label, s.ps.token) else none) ∧
    f.entries.length = (sliceSlots c slice).length ∧
    ∀ (k : Nat) (i : Slot), (sliceSlots c slice)[k]? = some i → f.entries[k]? = some ((
      if (s.slot i).cand.any (fun x => x.phase != .queued) then
        ((s.slot i).cand.map (fun x => ⟨BitVec.ofNat 6 x.antenna, x.mask, 0⟩)).getD ⟨0, 0, 0⟩
      else match (s.slot i).held with
        | some h =>
          (match h.grow with
            | some g => if g.phase = .queued then ⟨BitVec.ofNat 6 h.antenna, h.mask, BitVec.ofNat 6 h.tenure⟩
                else ⟨BitVec.ofNat 6 h.antenna, g.mask, 0⟩
            | none => ⟨BitVec.ofNat 6 h.antenna, h.mask, BitVec.ofNat 6 h.tenure⟩)
        | none =>
          match (s.slot i).freeing.getLast? with
          | some x => ⟨BitVec.ofNat 6 x.antenna, x.mask, BitVec.ofNat 6 x.tenure⟩
          | none => ⟨0, 0, 0⟩) : EntryCode)

/-- R87, R91, R92, R93, R106, R169: a STATUS of the part going out sets the renewal age of the slots it carried to 0,
clears their self-drop notified marks and no others, gives the hold and the freeing parts of each slot it carried an
entry for that entry's tenure as tenure on link (u, before the other blocks take up the change), clears the obligation
where it is SINGLE, puts its key tenure on the link and advances the slice; with the last slice of the round the next
round starts at slice 0, at SINGLE where the occupancy is 4 or more, standby is set or the obligation stands, else at
the wanted cadence, a new cadence restarting the interval.
(That a completion at a generator stopped meanwhile renews alike is inferred, log 26; that an empty entry carries no
tenure, and that the tenure goes to the slot's parts whichever antenna the entry names, log 43.) -/
def Obligations.StatusCompleteRenewsSlots : Prop :=
  ∀ (s : State) (p : Position) (f : StatusFrame), s.flight isStatus = some ⟨p, .status f⟩ →
    (∃ u, exec .statusComplete s = .next (commit .nothing s u) ∧
      (∀ i, u.sg.notified.get i = (!(statusSlots f).contains i && s.sg.notified.get i)) ∧
      (∀ i x, (i, x) ∈ statusEntries f → x.antenna ≠ 0 →
        (u.slot i).held = (s.slot i).held.map (fun h => { h with tenureLink := x.tenure.toNat }) ∧
        (u.slot i).freeing = (s.slot i).freeing.map (fun q => { q with tenureLink := x.tenure.toNat }) ∧
        (u.slot i).cand = (s.slot i).cand) ∧
      ∀ i, (∀ x, (i, x) ∈ statusEntries f → x.antenna = 0) → u.slot i = s.slot i) ∧
    ∃ t, exec .statusComplete s = .next t ∧ flights t.lc.queue = [] ∧
      (∀ i ∈ statusSlots f, t.sg.renewed.get i = s.now) ∧
      (∀ i, i ∉ statusSlots f → t.sg.renewed.get i = s.sg.renewed.get i) ∧
      t.sg.obligation = (s.sg.obligation && f.cadence != 0) ∧ t.ks.keyTenureLink = f.keyTenure.toNat ∧
      (s.sg.running = true → f.slice.toNat + 1 ≠ sliceCount (cadenceOfCode f.cadence) →
        t.sg.slice = s.sg.slice + 1 ∧ t.sg.cadence = s.sg.cadence ∧ t.sg.interval = s.sg.interval) ∧
      (s.sg.running = true → f.slice.toNat + 1 = sliceCount (cadenceOfCode f.cadence) →
        t.sg.slice = 0 ∧
        t.sg.cadence = (if 4 ≤ (s.lc.queue.filter (fun e => !e.inFlight)).length ∨ s.cu.standby = true ∨
            (s.sg.obligation = true ∧ f.cadence ≠ 0) then .single
          else match s.ks.state with
            | .announce | .ampOn | .transmit | .tail => .quad
            | _ => if s.sg.recent.isRunning then .double else .single) ∧
        t.sg.interval = if t.sg.cadence = s.sg.cadence then s.sg.interval
          else .running (s.now + s.frameInterval t.sg.cadence))

/-- R94, R109: a slot with a HELD part or a WINDOW candidate whose renewal age reaches 8P, its mark clear:
the mark is set, the HELD part is FREEING with reason SELF-DROP and the WINDOW candidate is gone. (u is the
part before the other blocks take up the change; that the clock stands at the moment the age reaches 8P is the model's
choice, log 2.) -/
def Obligations.SelfDropLimitFreesSlot : Prop :=
  ∀ (i : Slot) (s : State), s.slotLive i = true → s.sg.notified.get i = false →
    ∃ u, exec (.selfDropLimit i) s = .next (commit .nothing s u) ∧
      u.now = max s.now (s.sg.renewed.get i + 8 * s.period) ∧ u.sg.notified.get i = true ∧
      (u.slot i).held = none ∧ u.slotLive i = false ∧
      (∀ h, (s.slot i).held = some h → (u.slot i).freeing = (s.slot i).freeing ++
        [⟨h.antenna, h.mask, h.drive, h.tenure, h.tenureLink, .selfDrop, none, false⟩]) ∧
      ∀ j, j ≠ i → u.slot j = s.slot j

/-! ### Claims and stack groups (Chapters 6 and 7) -/

/-- What the other blocks leave of the slots when they take up a change (R98 to R129 outside auto-select and
the self-drop limit): while b and the obligation are as they were and no slot has newly become live, an
empty held part stays empty, a hold with no shrink and no give pending keeps its antenna, mask, tenure,
timer and grow, and a candidate keeps its antenna, mask and phase. R112: a service pass is made where R112
allows one; an entry whose slot has a candidate, or that fails as BUSY, FULL, NOT_COVERED or RESERVED, or
that is passed over for plan disagreement, changes nothing; one that fails otherwise is removed and reported;
one that passes is the slot's QUEUED candidate, its CLAIM in the queue; with room for every entry's CLAIM the pass takes
the entries in turn, oldest first. R114: auto-select does nothing with MAIN covered, else drops the candidate, promotes a NEXT
hold that covers b, or claims the own row's default for b, with waiting.
(The model's readings in this: an entry that fails at service as BUSY, FULL, NOT_COVERED or RESERVED leaves the panel mask
as it is, where a refused claim uses it up, the model's choice, log 53; when a pass is made and how it
repeats, log 36; the mark of a claim that waits whatever wait mode says, log 20.) -/
def Obligations.ReactionsKeepSlots : Prop :=
  (∀ (heard : KeyHeard) (before s : State), s.fu.band = before.fu.band →
    s.sg.obligation = before.sg.obligation →
    (∀ i, before.slotLive i = false → s.slotLive i = false) →
    ∀ i, ((s.slot i).held = none → ((commit heard before s).slot i).held = none) ∧
      (∀ h, (s.slot i).held = some h → h.shrink = none → h.give = none →
        ∃ h', ((commit heard before s).slot i).held = some h' ∧ h'.antenna = h.antenna ∧ h'.mask = h.mask ∧
          h'.tenure = h.tenure ∧ h'.tenureLink = h.tenureLink ∧ h'.period = h.period ∧ h'.grow = h.grow ∧
          h'.shrink = none ∧ h'.give = none) ∧
      (∀ c, (s.slot i).cand = some c →
        ∃ c', ((commit heard before s).slot i).cand = some c' ∧ c'.antenna = c.antenna ∧ c'.mask = c.mask ∧
          c'.phase = c.phase ∧ c'.waits = c.waits)) ∧
  (∀ s : State,
    (s.jc.state ≠ .run ∨ s.sg.obligation = true ∨ s.ct.relearn.isRunning = true ∨ s.pt.linkLost = true →
      s.servicePass = s) ∧
    (s.jc.state = .run → s.sg.obligation = false → s.ct.relearn.isRunning = false → s.pt.linkLost = false →
      s.lc.queue.length + s.ct.waitList.length ≤ 8 →
      s.servicePass = s.ct.waitList.foldl (fun x e => (x.serveEntry e).1) s) ∧
    ∀ e : WaitEntry,
      ((s.slot e.slot).cand.isSome = true ∨ (s.pt.disagreement = true ∧ s.privateHere e.antenna = false) ∨
          (∃ d ∈ [Denial.busy, .full, .notCovered, .reserved], s.localCheck e.slot e.antenna e.mask = some d) →
        (s.serveEntry e).1 = s) ∧
      ((s.slot e.slot).cand = none → (s.pt.disagreement = false ∨ s.privateHere e.antenna = true) →
        (∀ d, s.localCheck e.slot e.antenna e.mask = some d → d ∉ [Denial.busy, .full, .notCovered, .reserved] →
          (s.serveEntry e).1.ct.waitList = s.ct.waitList.filter (fun x => x.antenna != e.antenna) ∧
            (s.serveEntry e).1.pi.answer = some ⟨.block .ct, .denied d⟩ ∧ (s.serveEntry e).1.lc = s.lc ∧
            (s.serveEntry e).1.ct.slots = s.ct.slots) ∧
        (s.localCheck e.slot e.antenna e.mask = none → s.lc.queue.length < 8 →
          ((s.serveEntry e).1.slot e.slot).cand = some ⟨e.antenna, e.mask, .queued, e.waits, none, false⟩ ∧
            ((s.serveEntry e).1.slot e.slot).held = (s.slot e.slot).held ∧
            (s.serveEntry e).1.ct.waitList = s.ct.waitList.filter (fun x => x.antenna != e.antenna) ∧
            ∃ q ∈ (s.serveEntry e).1.lc.queue, q.inFlight = false ∧
              q.frame = s.claimFrame e.slot e.antenna e.mask false 0))) ∧
  ∀ s : State,
    (s.fu.band = 0 ∨ s.jc.state ≠ .run ∨ s.sg.obligation = true ∨
        (∃ c, (s.slot .main).cand = some c ∧ (s.antenna c.antenna).covers s.fu.band = true) ∨
        (∃ h, (s.slot .main).held = some h ∧ (s.antenna h.antenna).covers s.fu.band = true) →
      s.autoSelect = s) ∧
    (s.fu.band ≠ 0 → s.jc.state = .run → s.sg.obligation = false →
      (∀ c, (s.slot .main).cand = some c → (s.antenna c.antenna).covers s.fu.band = false) →
      (∀ h, (s.slot .main).held = some h → (s.antenna h.antenna).covers s.fu.band = false) →
      (∀ n h, s.nextCovering = some n → (s.slot n).held = some h →
        (∃ h', (s.autoSelect.slot .main).held = some h' ∧ h'.antenna = h.antenna ∧ h'.mask = h.mask ∧
          h'.drive = h.mask ∧ h'.tenure = h.tenure) ∧ (s.autoSelect.slot n).held = none ∧
        (s.autoSelect.slot .main).cand = none) ∧
      (s.nextCovering = none → ∀ r, s.ownRow = some r → r.defaults.getD (s.fu.band - 1) 0 = 0 →
        (s.autoSelect.slot .main).cand = none ∧ (s.autoSelect.slot .main).held = (s.slot .main).held) ∧
      (s.nextCovering = none → ∀ r a, s.ownRow = some r → r.defaults.getD (s.fu.band - 1) 0 = a → a ≠ 0 →
        s.nextHolding a = none → (∀ h, (s.slot .main).held = some h → h.antenna ≠ a) →
        s.lc.queue.length < 7 →
        (s.dropCandidate .main .voluntary).localCheck .main a (s.claimMask .main a) = none →
        (s.autoSelect.slot .main).cand = some ⟨a, s.claimMask .main a, .queued, true, none, false⟩ ∧
          (s.autoSelect.slot .main).held = (s.slot .main).held))

/-- R98 to R101, R195: a SELECT in RUN of an antenna that the slot neither holds nor claims (nor, for MAIN, a NEXT slot
holds): where the local checks pass and the queue has room, it is the slot's QUEUED candidate, with its CLAIM in the
queue, and the answer is accepted; where the queue refuses the CLAIM the slot has no candidate and the Claim Table
reports QUEUE; where a check fails, the slot is as it was and the answer is the first failing reason, or waiting for
BUSY and FULL in wait mode. (That the QUEUE is the Claim Table's report, with no answer that names the key beside it, is
inferred from both rules, log 11; how checks 2 and 10 are read is logs 49 and 21; that the claim carries no mark of an
ask whose wait entry it removes is the model's choice, log 74; a queue of seven frames, and a full one with an unsent
STATUS in it, are left out; u is the part before the other blocks take up the change.) -/
def Obligations.SelectQueuesCandidateOrRefuses : Prop :=
  ∀ (c : Instr) (i : Slot) (n : Nat) (code : Byte) (s : State),
    (c = .selectMain n ∧ i = .main ∨ c = .selectAux n ∧ i = .aux ∨ c = .selectNext n ∧ i = s.nextSlot) →
    encodeKey c = some code → s.jc.state = .run → 1 ≤ n → n ≤ 32 → (i = .main → s.nextHolding n = none) →
    (∀ h, (s.slot i).held = some h → h.antenna ≠ n) → (∀ x, (s.slot i).cand = some x → x.antenna ≠ n) →
    (s.localCheck i n (s.claimMask i n) = none → s.lc.queue.length < 7 →
      ∃ u, exec c s = .next (commit .nothing s u) ∧
        (u.slot i).cand = some ⟨n, s.claimMask i n, .queued, false, none, false⟩ ∧ (u.slot i).held = (s.slot i).held ∧
        (∃ e ∈ u.lc.queue, e.inFlight = false ∧ e.frame = s.claimFrame i n (s.claimMask i n) false 0) ∧
        (∀ e ∈ u.ct.waitList, e.antenna ≠ n) ∧ u.pi.answer = some ⟨.key code, .accepted⟩) ∧
    (s.localCheck i n (s.claimMask i n) = none → 8 ≤ s.lc.queue.length → unsent isStatus s.lc.queue = none →
      (s.slot i).cand = none →
      ∃ u, exec c s = .next (commit .nothing s u) ∧ (u.slot i).cand = none ∧ (u.slot i).held = (s.slot i).held ∧
        u.lc.queue = s.lc.queue ∧ u.pi.answer = some ⟨.block .ct, .denied .queue⟩) ∧
    (∀ d, s.localCheck i n (s.claimMask i n) = some d →
      ∃ u, exec c s = .next (commit .nothing s u) ∧ u.ct.slots = s.ct.slots ∧ u.lc = s.lc ∧
        (d.waitable = false ∨ s.pi.waitMode = false →
          u.pi.answer = some ⟨.key code, .denied d⟩ ∧ u.ct.waitList = s.ct.waitList) ∧
        (d.waitable = true → s.pi.waitMode = true → s.waitEntry n = none → s.ct.waitList.length < 4 →
          u.pi.answer = some ⟨.key code, .waiting⟩ ∧
            u.ct.waitList = s.ct.waitList ++ [⟨n, i, s.claimMask i n, false⟩]))

/-- R98, R115: SELECT-MAIN in RUN of an antenna HELD in a NEXT slot is a promotion, checked for NOT_RUNNING
and NOT_COVERED alone: the hold moves into MAIN with its mask, tenure, tenure on link and period timer, all
its mask driven, the NEXT slot keeping its candidate and freeing parts; what MAIN held is FREEING with
reason VOLUNTARY, its candidate dropped. SELECT of what the slot holds (no port) is accepted and changes
nothing of the Claim Table. -/
def Obligations.SelectOfOwnAntennaPromotesOrRepeats : Prop :=
  (∀ (n : Nat) (k : Slot) (h : HeldPart) (s : State), s.jc.state = .run → 1 ≤ n → n ≤ 32 →
    s.nextHolding n = some k → (s.slot k).held = some h →
    ∃ u, exec (.selectMain n) s = .next (commit .nothing s u) ∧
      (s.sg.obligation = false → (s.fu.band = 0 ∨ (s.antenna n).covers s.fu.band = true) →
        (∃ h', (u.slot .main).held = some h' ∧ h' = { h with drive := h.mask, lastAssert := h'.lastAssert }) ∧
        (u.slot .main).cand = none ∧
        (u.slot .main).freeing = (s.slot .main).freeing ++ (match (s.slot .main).held with
          | some old => [⟨old.antenna, old.mask, old.drive, old.tenure, old.tenureLink, .voluntary, none, false⟩]
          | none => []) ∧
        (u.slot k).held = none ∧ (u.slot k).cand = (s.slot k).cand ∧ (u.slot k).freeing = (s.slot k).freeing ∧
        u.pi.answer = some ⟨.key (BitVec.ofNat 8 n), .accepted⟩) ∧
      (s.sg.obligation = true →
        u.ct = s.ct ∧ u.pi.answer = some ⟨.key (BitVec.ofNat 8 n), .denied .notRunning⟩) ∧
      (s.sg.obligation = false → s.fu.band ≠ 0 → (s.antenna n).covers s.fu.band = false →
        u.ct = s.ct ∧ u.pi.answer = some ⟨.key (BitVec.ofNat 8 n), .denied .notCovered⟩)) ∧
  ∀ (c : Instr) (i : Slot) (n : Nat) (code : Byte) (h : HeldPart) (s : State),
    (c = .selectMain n ∧ i = .main ∧ s.nextHolding n = none ∨ c = .selectAux n ∧ i = .aux ∨
      c = .selectNext n ∧ i = s.nextSlot) →
    encodeKey c = some code → s.jc.state = .run → 1 ≤ n → n ≤ 32 → (s.slot i).held = some h →
    h.antenna = n → s.groupOf n = none →
    exec c s = .next (commit .nothing s (s.answerKey c .accepted))

/-- R103, R93, R106: a CLAIM of the part going out sets its slot's renewal age to 0, clears its self-drop notified mark
and sets the tenure on link of its hold and its freeing parts. A
plain one, the last of its QUEUED candidate, is judged by the view: with an antenna or member not available
the candidate is gone and, unless the part leaves silently, a RELEASE with reason LOST is in the queue; else
it is in WINDOW until W later. R125, R126: one of a QUEUED grow is judged by the view of the added members alone: with
one not available the grow and the shrink to follow are dropped, and an assert CLAIM with the held mask and the port's
tenure stands in the queue; else the grow is in WINDOW until W later.
(That the tenure on link and the renewal age follow a CLAIM whose candidate is gone is inferred, log 35; that the tenure on
link is set for the slot's hold, whichever antenna the frame named, log 43.) -/
def Obligations.ClaimCompleteJudgesView : Prop :=
  ∀ (s : State) (p : Position) (f : ClaimFrame), s.flight isClaim = some ⟨p, .claim f⟩ →
    ∃ u, exec .claimComplete s = .next (commit .nothing s u) ∧ flights u.lc.queue = [] ∧
      u.sg.renewed.get f.slot = s.now ∧ u.sg.notified.get f.slot = false ∧
      (u.slot f.slot).held.isSome = (s.slot f.slot).held.isSome ∧
      (∀ h, (u.slot f.slot).held = some h → h.tenureLink = f.tenure.toNat) ∧
      (u.slot f.slot).freeing = (s.slot f.slot).freeing.map (fun q => { q with tenureLink := f.tenure.toNat }) ∧
      (∀ h g, f.isAssert = false → s.queuedCand f.slot f.antenna.toNat = none → (s.slot f.slot).held = some h →
        h.antenna = f.antenna.toNat → h.grow = some g → g.phase = .queued →
        unsent (isPlainClaimFor f.slot f.antenna.toNat) s.lc.queue = none →
        if (s.membersOf h.antenna (g.mask &&& ~~~h.mask)).all (fun a => s.available a) then
          (u.slot f.slot).held = some { h with
            tenureLink := f.tenure.toNat, grow := some { g with phase := .window (s.now + s.window) } }
        else
          (∃ h', (u.slot f.slot).held = some h' ∧
            h' = { h with tenureLink := f.tenure.toNat, grow := none, lastAssert := h'.lastAssert }) ∧
          (s.lc.queue.length ≤ 8 →
            ∃ e ∈ u.lc.queue, e.inFlight = false ∧ e.frame = s.claimFrame f.slot h.antenna h.mask true h.tenure)) ∧
      ∀ c, f.isAssert = false → s.queuedCand f.slot f.antenna.toNat = some c →
        unsent (isPlainClaimFor f.slot f.antenna.toNat) s.lc.queue = none →
        if (s.uses c.antenna c.mask).all (fun a => s.available a) then
          (u.slot f.slot).cand = some { c with phase := .window (s.now + s.window) }
        else
          (u.slot f.slot).cand = none ∧
            (s.lc.queue.length ≤ 8 → s.leavingSilently = false →
              ∃ e ∈ u.lc.queue, e.frame = s.releaseFrame f.slot c.antenna .lost none)

/-- R105: at the end of its window a candidate is the slot's HELD part with tenure 0 and a period timer of
P; the hold the slot had before is FREEING with reason VOLUNTARY, last of the freeing parts; the candidate
part is empty, and after the step the relay target is what the slots then give. (That the clock stands at
the moment the window ran out, max of now and that moment, is the model's choice, log 2.) -/
def Obligations.WindowExpiryMakesHold : Prop :=
  ∀ (i : Slot) (s : State) (c : Candidate) (due : Nat), (s.slot i).cand = some c → c.phase = .window due →
    ∃ u, exec (.claimWindowExpiry i) s = .next (commit .nothing s u) ∧ u.now = max s.now due ∧
      (u.slot i).cand = none ∧
      (∃ h, (u.slot i).held = some h ∧ h.antenna = c.antenna ∧ h.mask = c.mask ∧ h.tenure = 0 ∧
        h.tenureLink = 0 ∧ h.period = .running (max s.now due + s.period) ∧ h.shrink = none ∧
        h.grow = none ∧ h.give = none ∧ (i = .main → h.drive = c.mask)) ∧
      (u.slot i).freeing = (s.slot i).freeing ++ (match (s.slot i).held with
        | some old => [⟨old.antenna, old.mask, old.drive, old.tenure, old.tenureLink, .voluntary, none, false⟩]
        | none => []) ∧
      (∀ j, j ≠ i → u.slot j = s.slot j) ∧ RelaysOk (commit .nothing s u)

/-- R106, R113, R116, R126: at each end of its period timer a hold's tenure rises by one and the timer
restarts with P; at 63 it stays and the timer stops. A reservation ends at its 2W, the others staying;
relearn quiet ends at its 2P, and R112: an entry alone in the wait list whose slot has no candidate and that then
passes the checks is its slot's QUEUED candidate. At the end of a grow's window the port's held mask is the grown mask, the grow
is cleared and the shrink that was to follow begins. (That the clock stands at the moment a timer ran out is the model's
choice, log 2.)
(The mark that goes with an entry into its candidate is log 20.) -/
def Obligations.ClaimTableTimersRun : Prop :=
  (∀ (i : Slot) (s : State) (h : HeldPart) (due : Nat), (s.slot i).held = some h → h.period = .running due →
    ∃ u, exec (.tenurePeriodExpiry i) s = .next (commit .nothing s u) ∧ u.now = max s.now due ∧
      (u.slot i).held = some { h with
        tenure := min 63 (h.tenure + 1),
        period := if 63 ≤ h.tenure + 1 then .stopped else .running (max s.now due + s.period) } ∧
      (u.slot i).cand = (s.slot i).cand ∧ (u.slot i).freeing = (s.slot i).freeing ∧
      ∀ j, j ≠ i → u.slot j = s.slot j) ∧
  (∀ (a : Antenna) (s : State) (r : Reservation),
    s.ct.reservations.find? (fun x => x.antenna == a) = some r →
    ∃ t, exec (.reservationExpiry a) s = .next t ∧ t.now = max s.now r.due ∧
      t.ct.reservations = s.ct.reservations.filter (fun x => x.antenna != a)) ∧
  (∀ (s : State) (due : Nat), s.ct.relearn = .running due →
    ∃ t, exec .relearnQuietExpiry s = .next t ∧ t.now = max s.now due ∧ t.ct.relearn = .stopped ∧
      t.ct.reservations = s.ct.reservations ∧
      ∀ e, s.ct.waitList = [e] → (s.slot e.slot).cand = none →
        (∀ h, (s.slot e.slot).held = some h → h.antenna ≠ e.antenna) → s.pt.disagreement = false →
        (s.setCt { s.ct with relearn := .stopped }).localCheck e.slot e.antenna e.mask = none →
        s.lc.queue.length < 7 →
        (t.slot e.slot).cand = some ⟨e.antenna, e.mask, .queued, e.waits, none, false⟩ ∧ t.ct.waitList = []) ∧
  ∀ (s : State) (h : HeldPart) (m : Mask) (due : Nat) (after : Option Mask), (s.slot .main).held = some h →
    h.grow = some ⟨m, .window due, after⟩ →
    ∃ u, exec .growWindowExpiry s = .next (commit .nothing s u) ∧ u.now = max s.now due ∧
      (u.slot .main).held = some { h with
        mask := m, grow := none, shrink := after.map (fun x => ⟨x, none⟩) } ∧
      (u.slot .main).freeing = (s.slot .main).freeing ∧ ∀ j, j ≠ .main → u.slot j = s.slot j

/-- R109, R192: a drop key in RUN makes the slot's HELD part FREEING with reason VOLUNTARY and drops its
candidate, a QUEUED one's CLAIM gone from the unsent frames; DROP-NEXT takes NEXT-B where it has a HELD part
or a candidate and else NEXT-A. The answer is accepted. -/
def Obligations.DropKeysFreeSlot : Prop :=
  ∀ (c : Instr) (i : Slot) (code : Byte) (s : State),
    (c = .dropMain ∧ i = .main ∨ c = .dropAux ∧ i = .aux ∨
      c = .dropNext ∧ i = (if (s.slot .nextB).held.isSome ∨ (s.slot .nextB).cand.isSome then .nextB else .nextA)) →
    encodeKey c = some code → s.jc.state = .run →
    ∃ u, exec c s = .next (commit .nothing s u) ∧ (u.slot i).held = none ∧ (u.slot i).cand = none ∧
      (u.slot i).freeing = (s.slot i).freeing ++ (match (s.slot i).held with
        | some h => [⟨h.antenna, h.mask, h.drive, h.tenure, h.tenureLink, .voluntary, none, false⟩]
        | none => []) ∧
      (∀ x, (s.slot i).cand = some x → x.phase = .queued →
        unsent (isPlainClaimFor i x.antenna) u.lc.queue = none) ∧
      u.pi.answer = some ⟨.key code, .accepted⟩ ∧ (∀ j, j ≠ i → u.slot j = s.slot j) ∧
      u.ct.waitList = s.ct.waitList

/-- R110, R141: a RELEASE of the part going out takes the freeing part it was for out of its slot, the slot's hold and
candidate staying; a GIVING answer it carried out is gone, where no give to that position is still to send its RELEASE.
While an equal RELEASE is left in the queue it was for none of them: freeing parts and answer stay. R110, R128: a
freeing part offers its RELEASE only once its antenna line, and for a port the member lines of its drive mask, are off
(in a NEXT slot no line is driven); a slot whose freeing parts all wait, or have offered theirs, offers none, and a part
alone whose wait is over stands as released with its RELEASE in the queue, no unsent CLAIM for its slot and antenna
being left before it. (That the last of several equal RELEASEs is the freeing part's own is
inferred from R47, log 73.) -/
def Obligations.ReleaseCompleteEndsFreeing : Prop :=
  (∀ (s : State) (p : Position) (f : ReleaseFrame), s.flight isRelease = some ⟨p, .release f⟩ →
    ∃ u, exec .releaseComplete s = .next (commit .nothing s u) ∧ flights u.lc.queue = [] ∧
      (u.slot f.slot).freeing = (if s.lc.queue.any (fun e => !e.inFlight && e.frame.body == .release f) = true then
        (s.slot f.slot).freeing else (s.slot f.slot).freeing.filter (fun x => !x.sentBy f)) ∧
      (u.slot f.slot).held = (s.slot f.slot).held ∧ (u.slot f.slot).cand = (s.slot f.slot).cand ∧
      (∀ j, j ≠ f.slot → u.slot j = s.slot j) ∧
      (s.lc.queue.any (fun e => !e.inFlight && e.frame.body == .release f) = true → u.hu = s.hu) ∧
      (f.yieldValid = true → (∀ e ∈ s.lc.queue, e.frame.body = .release f → e.inFlight = true) →
        (∀ i, (∀ x ∈ (s.slot i).freeing, x.yieldTo = some f.yieldTo → i = f.slot ∧ x.sentBy f = true) ∧
          ∀ h, (s.slot i).held = some h → h.shrink = none ∧ h.give = none) →
        u.hu.answer ≠ some ⟨f.yieldTo, f.antenna.toNat, .giving⟩) ∧
      u.sg.renewed = s.sg.renewed) ∧
  ∀ (i : Slot) (s : State),
    (∀ p, s.freeingReady i p = true ↔ match i with
      | .main => s.rd.lines.ant &&& antBit p.antenna = 0 ∧
          s.rd.lines.member &&& s.portMemberBits p.antenna p.drive = 0
      | .aux => s.rd.lines.ant &&& antBit p.antenna = 0
      | _ => True) ∧
    ((∀ p ∈ (s.slot i).freeing, p.released = true ∨ s.freeingReady i p = false) → s.freeingStep i = s) ∧
    ∀ p, (s.slot i).freeing = [p] → p.released = false → s.freeingReady i p = true → p.antenna ≤ 32 →
      s.leavingSilently = false → s.lc.queue.length < 8 →
      ((s.freeingStep i).slot i).freeing = [{ p with released := true }] ∧
      ((s.freeingStep i).slot i).held = (s.slot i).held ∧ ((s.freeingStep i).slot i).cand = (s.slot i).cand ∧
      (∃ e ∈ (s.freeingStep i).lc.queue, e.inFlight = false ∧
        e.frame = s.releaseFrame i p.antenna p.reason p.yieldTo) ∧
      ∀ e ∈ (s.freeingStep i).lc.queue, isClaimFor i p.antenna e.frame = true → e.inFlight = true

/-- R120, R122, R123, R125: STACK-MASK in RUN sets the panel mask while MAIN holds no enabled port. For a
held port the request is read over the present members: with none left it is refused as MASK; with a reshape
under way or a MAIN candidate as RESHAPING; the held mask again changes nothing; fewer members begin a
shrink; more, where the added members pass and the queue has room, a grow to the union, with the shrink to
the request to follow where members also go. R123, R129: with AMP KEY on no shrink of the port in MAIN moves;
with it off the drive mask is the shrink's mask, and once no removed member's line is on (at once in a NEXT
slot) the held mask is the new mask and the peers are told, by an assert CLAIM, or for a hand-over of one
member by its RELEASE. (That a key that begins a reshape is answered as accepted is the model's reading, log 40; that
NOT_RUNNING among the checks of a grow covers the obligation is log 42.) -/
def Obligations.StackMaskSetsOrReshapes : Prop :=
  (∀ (m : Mask) (s : State), s.jc.state = .run → m ≠ 0 →
    ((∀ h, (s.slot .main).held = some h → s.groupOf h.antenna = none) →
      ∃ u, exec (.stackMask m) s = .next (commit .nothing s u) ∧ u.ct.panelMask = some m ∧
        u.ct.slots = s.ct.slots) ∧
    ∀ h k g, (s.slot .main).held = some h → s.groupOf h.antenna = some (k, g) →
      ∃ u, exec (.stackMask m) s = .next (commit .nothing s u) ∧ u.ct.panelMask = s.ct.panelMask ∧
        (if m &&& g.present = 0 then
          u.ct = s.ct ∧ u.pi.answer = some ⟨.key (192 + m.toNat), .denied .mask⟩
        else if h.shrink.isSome ∨ h.grow.isSome ∨ (s.slot .main).cand.isSome then
          u.ct = s.ct ∧ u.pi.answer = some ⟨.key (192 + m.toNat), .denied .reshaping⟩
        else if m &&& g.present = h.mask then
          u.ct = s.ct ∧ u.pi.answer = some ⟨.key (192 + m.toNat), .accepted⟩
        else if m &&& g.present &&& ~~~h.mask = 0 then
          (u.slot .main).held = some { h with shrink := some ⟨m &&& g.present, none⟩ } ∧
            u.pi.answer = some ⟨.key (192 + m.toNat), .accepted⟩
        else
          (∀ d, s.growCheck (s.membersOf h.antenna ((h.mask ||| m &&& g.present) &&& ~~~h.mask)) = some d →
            u.ct = s.ct ∧ u.pi.answer = some ⟨.key (192 + m.toNat), .denied d⟩) ∧
          (s.growCheck (s.membersOf h.antenna ((h.mask ||| m &&& g.present) &&& ~~~h.mask)) = none →
            s.lc.queue.length < 8 →
            (u.slot .main).held = some { h with grow := some ⟨h.mask ||| m &&& g.present, .queued,
                if h.mask &&& ~~~(m &&& g.present) = 0 then none else some (m &&& g.present)⟩ } ∧
              u.pi.answer = some ⟨.key (192 + m.toNat), .accepted⟩))) ∧
  ∀ (i : Slot) (s : State) (h : HeldPart) (x : Shrink), (s.slot i).held = some h → h.shrink = some x →
    (s.ampKey = true → s.driveStep = s ∧ (i = .main → s.shrinkStep i = s)) ∧
    (s.ampKey = false → i = .main → (s.driveStep.slot .main).held = some { h with drive := x.mask }) ∧
    (i = .main → s.rd.lines.member &&& s.portMemberBits h.antenna (h.mask &&& ~~~x.mask) ≠ 0 →
      s.shrinkStep i = s) ∧
    ((i = .main → s.ampKey = false ∧ h.drive = x.mask ∧
        s.rd.lines.member &&& s.portMemberBits h.antenna (h.mask &&& ~~~x.mask) = 0) →
      s.lc.queue.length < 8 →
      (∃ h', ((s.shrinkStep i).slot i).held = some h' ∧
        h' = { h with mask := x.mask, shrink := none, lastAssert := h'.lastAssert }) ∧
      (x.yieldTo = none → ∃ e ∈ (s.shrinkStep i).lc.queue, e.inFlight = false ∧
        e.frame = s.claimFrame i h.antenna x.mask true h.tenure) ∧
      ∀ y a, x.yieldTo = some y → s.membersOf h.antenna (h.mask &&& ~~~x.mask) = [a] → a ≤ 32 →
        s.leavingSilently = false →
        ∃ e ∈ (s.shrinkStep i).lc.queue, e.inFlight = false ∧ e.frame = s.releaseFrame i a .yielded (some y))

/-! ### Asking and handing over (Chapter 8) -/

/-- R133, R134: ASK 0 in RUN begins a choice where no ask is out. ASK n refused by a check leaves a standing ask and
ends a choice; one that passes stands with the one peer that holds n as its target, its age at 0, and a wait entry for
n stands, the one there was or a MAIN one at the tail. R136: an ask stands for an antenna n after a command only where
the part holds n in no slot and in no held mask, its target holds n in the view, and a wait entry or a candidate for n
stands; where all this holds the other blocks leave a standing ask as it is, and else they clear it.
(ASK 0 is taken while the first-full-status obligation is set, where other asks are refused as NOT_RUNNING, the
model's choice, log 62; a refused ask leaves the panel mask as it is, where a refused claim uses it up, the model's
choice, log 63; the mark of the entry that an ask places, and of one that stood before, is log 20; which antennas
check 2 refuses, log 49.) -/
def Obligations.AskChoosesOrStands : Prop :=
  (∀ s : State, s.jc.state = .run →
    ∃ u, exec (.ask 0) s = .next (commit .nothing s u) ∧
      u.hu.ask = (if s.hu.ask = .none then .choosing s.now 0 else s.hu.ask) ∧ u.ct = s.ct) ∧
  (∀ (n : Nat) (s : State), s.jc.state = .run → 1 ≤ n → n ≤ 32 →
    (∀ d, s.askCheck n = some d →
      ∃ u, exec (.ask n) s = .next (commit .nothing s u) ∧ u.ct = s.ct ∧
        u.pi.answer = some ⟨.key (BitVec.ofNat 8 (144 + n)), .denied d⟩ ∧
        u.hu.ask = (match s.hu.ask with
          | .choosing _ _ => .none
          | x => x)) ∧
    (s.askCheck n = none →
      ∃ u r, exec (.ask n) s = .next (commit .nothing s u) ∧ s.holders n = [r] ∧
        u.pi.answer = some ⟨.key (BitVec.ofNat 8 (144 + n)), .asking⟩ ∧
        (match s.waitEntry n with
          | some e => u.ct.waitList = s.ct.waitList ∧ u.hu.ask = .standing r.pos n (askKindOf e.slot) s.now 0
          | none => u.ct.waitList = s.ct.waitList ++ [⟨n, .main, s.claimMask .main n, true⟩] ∧
              u.hu.ask = .standing r.pos n .main s.now 0))) ∧
  (∀ (c : Instr) (s t : State) (target : Position) (n since k : Nat) (kind : AskKind), exec c s = .next t →
    t.hu.ask = .standing target n kind since k →
    (∀ i h, (t.slot i).held = some h → n ∉ t.uses h.antenna h.mask) ∧
    (∃ r, t.pt.find target = some r ∧ t.peerHolds r n = true) ∧
    ((∃ e ∈ t.ct.waitList, e.antenna = n) ∨ ∃ i x, (t.slot i).cand = some x ∧ x.antenna = n)) ∧
  ∀ (heard : KeyHeard) (before s t : State), commit heard before s = t →
    (∀ target n kind since k, s.hu.ask = .standing target n kind since k →
      (∀ i h, (t.slot i).held = some h → n ∉ t.uses h.antenna h.mask) →
      (∃ r, t.pt.find target = some r ∧ t.peerHolds r n = true) →
      ((∃ e ∈ t.ct.waitList, e.antenna = n) ∨ ∃ i x, (t.slot i).cand = some x ∧ x.antenna = n) →
      t.hu.ask = s.hu.ask) ∧
    (t.hu.ask = s.hu.ask ∨ t.hu.ask = .none) ∧
    ((∀ target n kind since k, s.hu.ask ≠ .standing target n kind since k) → t.hu.ask = s.hu.ask)

/-- R140, R142: with the latch empty GIVE and KEEP in RUN are refused as NO_ASK. A GIVE with an ask latched
for an antenna HELD in a slot empties the latch, makes that hold FREEING with reason YIELDED for the asker
and answers GIVING (with no hand-over of its members under way). R129, R130: for a member in the mask of a HELD port,
the only one frees the whole port likewise; one of several is deferred behind a shrink or grow under way, and
else begins a shrink to the mask without it that yields to the asker. For an antenna nothing holds the GIVE
lapses with no answer. A KEEP empties the latch, answers KEEP for the ask life and touches no hold (u, before
the other blocks take up the change). -/
def Obligations.GiveAndKeepAnswerAsk : Prop :=
  ∀ s : State, s.jc.state = .run →
    (s.hu.latch = none →
      exec .give s = .next (commit .nothing s (s.answerKey .give (.denied .noAsk))) ∧
      exec .keep s = .next (commit .nothing s (s.answerKey .keep (.denied .noAsk)))) ∧
    ∀ l, s.hu.latch = some l →
      (∃ t, exec .give s = .next t ∧ t.hu.latch = none ∧ t.hu.keepTimer = .stopped) ∧
      (∀ i h, s.heldSlot (fun x => x.antenna == l.antenna) = some i → (s.slot i).held = some h →
        ∃ u, exec .give s = .next (commit .nothing s u) ∧ u.hu.latch = none ∧ (u.slot i).held = none ∧
          (u.slot i).freeing = (s.slot i).freeing ++
            [⟨h.antenna, h.mask, h.drive, h.tenure, h.tenureLink, .yielded, some l.asker, false⟩] ∧
          (h.shrink = none → h.give = none → u.hu.answer = some ⟨l.asker, l.antenna, .giving⟩) ∧
          u.hu.keepTimer = .stopped ∧ ∀ j, j ≠ i → u.slot j = s.slot j) ∧
      (∀ i h, s.heldSlot (fun x => x.antenna == l.antenna) = none →
        s.heldSlot (fun x => (s.membersOf x.antenna x.mask).contains l.antenna) = some i →
        (s.slot i).held = some h → h.mask &&& s.placeIn h.antenna l.antenna ≠ 0 →
        ∃ u, exec .give s = .next (commit .nothing s u) ∧ u.hu.latch = none ∧ (∀ j, j ≠ i → u.slot j = s.slot j) ∧
          (if h.mask &&& ~~~s.placeIn h.antenna l.antenna = 0 then
            (u.slot i).held = none ∧ (u.slot i).freeing = (s.slot i).freeing ++
              [⟨h.antenna, h.mask, h.drive, h.tenure, h.tenureLink, .yielded, some l.asker, false⟩]
          else if h.shrink.isSome = true ∨ h.grow.isSome = true then
            (u.slot i).held = some { h with give := some (l.antenna, l.asker) } ∧
              u.hu.answer = some ⟨l.asker, l.antenna, .giving⟩
          else
            (u.slot i).held = some { h with
              shrink := some ⟨h.mask &&& ~~~s.placeIn h.antenna l.antenna, some l.asker⟩ } ∧
            u.hu.answer = some ⟨l.asker, l.antenna, .giving⟩)) ∧
      (s.heldSlot (fun x => x.antenna == l.antenna) = none →
        s.heldSlot (fun x => (s.membersOf x.antenna x.mask).contains l.antenna) = none →
        ∃ u, exec .give s = .next (commit .nothing s u) ∧ u.hu.latch = none ∧ u.hu.answer = none ∧ u.ct = s.ct) ∧
      (∃ t, exec .keep s = .next t ∧ t.hu.latch = none ∧ t.hu.answer = some ⟨l.asker, l.antenna, .keep⟩ ∧
        t.hu.keepTimer = .running (s.now + s.timing.askLife * s.period)) ∧
      ∃ u, exec .keep s = .next (commit .nothing s u) ∧ u.ct = s.ct ∧ u.lc = s.lc ∧ u.hu.ask = s.hu.ask

/-- R132, R133, R136, R142: at the ask life the ask is gone; at each whole period of its age one more has passed (a
command of the table, stepped one period at a time, log 13); at the KEEP life the KEEP is gone. R139: after every
command the antenna of an occupied latch is one the part holds, in a slot or in the held mask of a HELD port; the
other blocks leave a latch of such an antenna as it is, and empty any other. R72, R137, R138, R139, R143: a peer's
STATUS in RUN, applied and judged, is read last by the Hand-over Unit. A KEEP for this part from the standing ask's
target clears the ask, and any answer for this part is reported. A latched ask that the asker's head no longer makes
is dropped, and a KEEP for an ask that its head makes no longer, no ask or another antenna's, is cleared with its
timer; any other answer stays (auto-give, which may answer in its place, apart). An ask of this part for an antenna it
holds fills an empty latch with asker, antenna and label; in standby with auto-give it is given at once. One for an
antenna it does not hold, or with the latch taken, is not latched. (That the clock stands at the moment a life ran out
is the model's choice, log 2; so is the order of the receivers of a STATUS, the Hand-over Unit last, log 4, and that
of the entries and slots it is judged by, log 68; so is it that an answer which is not the standing ask's is reported
like the target's, log 71.) -/
def Obligations.AskAndKeepAgesRun : Prop :=
  (∀ s : State,
    (∀ at_, s.hu.ask.since = some at_ →
      (∃ t, exec .askLifeExpiry s = .next t ∧ t.hu.ask = .none ∧
        t.now = max s.now (at_ + s.timing.askLife * s.period)) ∧
      ∃ u, exec .askAgeWholePeriod s = .next (commit .nothing s u) ∧ u.hu.ask.since = some at_ ∧
        u.hu.ask.periods = s.hu.ask.periods + 1 ∧
        u.now = max s.now (at_ + (s.hu.ask.periods + 1) * s.period)) ∧
    ∀ due, s.hu.keepTimer = .running due →
      ∃ t, exec .keepLifeExpiry s = .next t ∧ t.hu.answer = none ∧ t.hu.keepTimer = .stopped ∧
        t.now = max s.now due) ∧
  (∀ (c : Instr) (s t : State) (l : Latch), exec c s = .next t → t.hu.latch = some l →
    ∃ i h, (t.slot i).held = some h ∧ l.antenna ∈ t.uses h.antenna h.mask) ∧
  (∀ (heard : KeyHeard) (before s t : State), commit heard before s = t →
    (t.hu.latch = s.hu.latch ∨ t.hu.latch = none) ∧
    ∀ l i h, s.hu.latch = some l → (t.slot i).held = some h → l.antenna ∈ t.uses h.antenna h.mask →
      t.hu.latch = some l) ∧
  (∀ (p : Position) (f : StatusFrame) (s : State), (FrameBody.status f).fault = none → s.lc.receiver = .frame →
    s.jc.state = .run → s.jc.number ≠ some p →
    exec (.statusReceived p f) s =
      .next (commit .nothing s (((s.heardFrame.applyStatus p f).judgeStatus f).headHeard p))) ∧
  ∀ (s : State) (p me : Position) (r : PeerRecord), s.jc.state = .run → s.jc.number = some me → p ≠ me →
    s.pt.find p = some r →
    (∀ a k, r.answer = some (me, a, k) →
      (k = .keep → (∃ kind since n, s.hu.ask = .standing p a kind since n) → (s.headHeard p).hu.ask = .none) ∧
      (k = .giving ∨ (∀ kind since n, s.hu.ask ≠ .standing p a kind since n) →
        (s.headHeard p).hu.ask = s.hu.ask) ∧
      (s.headHeard p).pi.answer = some ⟨.block .hu, if k = .keep then .kept else .giving⟩) ∧
    ((∀ a k, r.answer ≠ some (me, a, k)) → (s.headHeard p).hu.ask = s.hu.ask) ∧
    (∀ l, s.hu.latch = some l → l.asker = p → r.ask ≠ some (me, l.antenna) →
      (∀ a, r.ask = some (me, a) → s.holds a = false) → (s.headHeard p).hu.latch = none) ∧
    (∀ l, s.hu.latch = some l → l.asker ≠ p ∨ r.ask = some (me, l.antenna) → (s.headHeard p).hu.latch = some l) ∧
    (∀ a, s.hu.answer = some ⟨p, a, .keep⟩ → r.ask ≠ some (me, a) →
      (s.headHeard p).hu.keepTimer = .stopped ∧ (s.headHeard p).hu.answer ≠ some ⟨p, a, .keep⟩ ∧
        (s.cu.standby = false ∨ (∀ row, s.ownRow = some row → row.autoGive = false) ∨ (∀ n, r.ask ≠ some (me, n)) →
          (s.headHeard p).hu.answer = none)) ∧
    (∀ x, s.hu.answer = some x → x.asker ≠ p ∨ x.kind = .giving ∨ r.ask = some (me, x.antenna) →
      s.cu.standby = false ∨ (∀ row, s.ownRow = some row → row.autoGive = false) →
        (s.headHeard p).hu.answer = some x ∧ (s.headHeard p).hu.keepTimer = s.hu.keepTimer) ∧
    (∀ a, s.hu.latch = none → r.ask = some (me, a) → s.holds a = false → (s.headHeard p).hu.latch = none) ∧
    ∀ a, s.hu.latch = none → r.ask = some (me, a) → s.holds a = true →
      (¬ (s.cu.standby = true ∧ ∃ row, s.ownRow = some row ∧ row.autoGive = true) →
        (s.headHeard p).hu.latch = some ⟨p, a, r.label⟩ ∧ (s.headHeard p).ct = s.ct) ∧
      (s.cu.standby = true → (∃ row, s.ownRow = some row ∧ row.autoGive = true) →
        (s.headHeard p).hu.latch = none ∧
        ∀ i h, s.heldSlot (fun x => x.antenna == a) = some i → (s.slot i).held = some h →
          ((s.headHeard p).slot i).held = none ∧ ((s.headHeard p).slot i).freeing = (s.slot i).freeing ++
            [⟨h.antenna, h.mask, h.drive, h.tenure, h.tenureLink, .yielded, some p, false⟩])

/-! ### Keying (10.1) -/

/-- R163, R169, R171: a press in RECEIVE goes to ANNOUNCE with the permit true and no obligation, unless the queue
refuses its KEY on. That KEY on (on set, assert clear, b, F or the invalid code, key tenure 0) then stands unsent in the
queue, or is the held offer while a KEY is in flight (R49), and KEY on outstanding is set (u, before the other blocks
take up the change). The press goes to KEY-WAIT with the obligation set or for SWITCHING; and else to LOCKOUT with the
reason, the refusal count rising by one (from 9999 to 0 with the overflow mark). -/
def Obligations.PressIsJudgedByPermit : Prop :=
  ∀ s : State, s.ks.ptt = false → s.ks.state = .receive →
    ∃ u, exec .pttPress s = .next (commit .nothing s u) ∧ u.ks.ptt = true ∧
      (s.ie.permit = true → s.sg.obligation = false →
        if s.lc.queue.length < 8 ∨ flyingIs isKey s.lc.queue = true ∨ (unsent isKey s.lc.queue).isSome ∨
            (unsent isStatus s.lc.queue).isSome then
          u.ks.state = .announce ∧ u.ks.keyOnOutstanding = true ∧ (commit .nothing s u).ks = u.ks ∧
          ∀ f : LinkFrame, f = ⟨s.self, .key ⟨true, false, BitVec.ofNat 4 s.fu.band, (match s.fu.freq with
            | none => 1048575
            | some n => BitVec.ofNat 20 n), 0⟩⟩ →
          if flyingIs isKey s.lc.queue = true then u.lc.heldKey = some f
          else ∃ e ∈ u.lc.queue, e.inFlight = false ∧ e.frame = f
        else
          u.ks.state = .lockout ∧ u.ks.lockout = some .queue ∧ (commit .nothing s u).ks = u.ks ∧
          u.ks.refusals = (if 9999 ≤ s.ks.refusals then 0 else s.ks.refusals + 1)) ∧
      (s.ie.permit = true ∧ s.sg.obligation = true ∨ s.ie.permit = false ∧ s.ie.reason = some .switching →
        u.ks.state = .keyWait ∧ u.ks.refusals = s.ks.refusals ∧ u.lc = s.lc) ∧
      (∀ r, s.ie.permit = false → s.ie.reason = some r → r ≠ .switching →
        u.ks.state = .lockout ∧ u.ks.lockout = some (.inhibit r) ∧ (commit .nothing s u).ks = u.ks ∧
        u.ks.refusals = (if 9999 ≤ s.ks.refusals then 0 else s.ks.refusals + 1) ∧
        u.ks.overflowMark = (s.ks.overflowMark || decide (9999 ≤ s.ks.refusals)))

/-- R164, R166, R167, R168, R169, R188: a release in AMP-ON or TRANSMIT begins the tail of T_seq with cause RELEASE,
AMP KEY on and RADIO INHIBIT asserted; a sequencer in AMP-ON or TRANSMIT told of a permit that is false begins it with
cause DROP and the reason reported as lockout reason; after every command one still there has the permit. With either
cause a KEY off (on clear, assert clear, b, F or the invalid code, the key tenure) is offered, except in LEAVING with
case DUPLICATE: it is the held offer while a KEY is in flight (R49), cancels an unsent KEY on (R48), and else stands
unsent in the queue where it has room (u, before the other blocks take up the change). A release in KEY-WAIT, LOCKOUT
and ANNOUNCE leads to RECEIVE, where a deferred standby entry is taken, and no unsent plain KEY on stays; in RECEIVE
and TAIL it is the PTT level alone.
(That a KEY off takes the place of an unsent KEY off is inferred, log 17; that every entry to RECEIVE clears the
lockout reason is the model's choice, log 64.) -/
def Obligations.ReleaseEndsTransmission : Prop :=
  (∀ (s : State) (tailBegun : State → Prop), s.ks.state = .ampOn ∨ s.ks.state = .transmit →
    (∀ u, tailBegun u ↔ u.ks.state = .tail ∧ u.ks.timer = .running (s.now + Config.ms s.timing.tSeq) ∧
      u.ampKey = true ∧ u.radioInhibit = true ∧ u.ks.keyTenure = s.ks.keyTenure ∧
      (s.jc.state = .leaving ∧ s.jc.leaving = some .duplicate → u.lc = s.lc) ∧
      (¬ (s.jc.state = .leaving ∧ s.jc.leaving = some .duplicate) →
        ∀ f : LinkFrame, f = ⟨s.self, .key ⟨false, false, BitVec.ofNat 4 s.fu.band, (match s.fu.freq with
          | none => 1048575
          | some n => BitVec.ofNat 20 n), BitVec.ofNat 6 s.ks.keyTenure⟩⟩ →
        if flyingIs isKey s.lc.queue = true then u.lc.heldKey = some f ∧ u.lc.queue = s.lc.queue
        else match unsent isKey s.lc.queue with
          | some k => if isPlainKeyOn k = true then unsent isKey u.lc.queue = none
              else ∃ e ∈ u.lc.queue, e.inFlight = false ∧ e.frame = f
          | none => (s.lc.queue.length < 8 ∨ (unsent isStatus s.lc.queue).isSome = true) →
              ∃ e ∈ u.lc.queue, e.inFlight = false ∧ e.frame = f)) →
    (s.ks.ptt = true → ∃ u, exec .pttRelease s = .next (commit .nothing s u) ∧ tailBegun u ∧
      u.ks.ptt = false ∧ u.ks.tailCause = some .release ∧ u.ks.lockout = none) ∧
    (s.ie.permit = true → s.sequencerTold = s) ∧
    (∀ (c : Instr) (s0 : State), exec c s0 = .next s → s.ie.permit = true) ∧
    (s.ie.permit = false → tailBegun s.sequencerTold ∧ s.sequencerTold.ks.ptt = s.ks.ptt ∧
      s.sequencerTold.ks.tailCause = some .drop ∧ s.sequencerTold.ks.lockout = s.ie.reason.map .inhibit)) ∧
  ∀ s : State, s.ks.ptt = true →
    ∃ t, exec .pttRelease s = .next t ∧ t.ks.ptt = false ∧
      (s.ks.state = .ampOn ∨ s.ks.state = .transmit →
        t.ks.state = .tail ∧ t.ks.timer = .running (s.now + Config.ms s.timing.tSeq) ∧
        t.ks.tailCause = some .release ∧ t.ks.lockout = none ∧ t.ampKey = true ∧ t.radioInhibit = true) ∧
      (s.ks.state = .keyWait ∨ s.ks.state = .lockout ∨ s.ks.state = .announce →
        t.ks.state = .receive ∧ t.ks.lockout = none ∧ t.ks.refusals = s.ks.refusals ∧
        t.cu.standby = (s.cu.standby || s.cu.deferred) ∧ t.cu.deferred = false) ∧
      (s.ks.state = .announce → unsent isPlainKeyOn t.lc.queue = none) ∧
      (s.ks.state = .receive ∨ s.ks.state = .tail → t.ks = { s.ks with ptt := false } ∧ t.cu = s.cu)

/-- R165, R169: a KEY of the part going out puts its key tenure on the link. Its plain KEY on in ANNOUNCE is read: with
the permit true and no MAIN-path transition AMP KEY is on with key tenure 0; else the sequencer is in LOCKOUT with the
reason read (SWITCHING for a transition), AMP KEY off, the refusal count rising by one (from 9999 to 0 with the overflow
mark), and a KEY off (on clear, assert clear, b, F or the invalid code, the key tenure) stands unsent in the queue, none
being offered in LEAVING with case DUPLICATE. R166: its plain KEY on completing in RECEIVE, KEY-WAIT or LOCKOUT with KEY
on outstanding set is followed by a KEY off likewise, and without the mark by none (u, before the other blocks take up the
change, with no KEY of the part held or unsent). (That such a KEY off follows in KEY-WAIT and LOCKOUT as in RECEIVE is
inferred, log 15; what clears the mark, log 16. That a permit false already keeps its own reason while a
MAIN-path transition runs is the model's choice, log 57; so is it that a KEY on marked for withdrawal before a new
press, which has led to ANNOUNCE with its own KEY on held, is read as the announce's completion, log 65.) -/
def Obligations.KeyCompletionIsRead : Prop :=
  ∀ (s : State) (p : Position) (f : KeyFrame), s.flight isKey = some ⟨p, .key f⟩ →
    ∃ t, exec .keyComplete s = .next t ∧ flights t.lc.queue = [] ∧ t.ks.keyTenureLink = f.tenure.toNat ∧
      (s.ks.state = .announce → f.on = true → f.isAssert = false →
        (s.ie.permit = true → (s.rd.state = .steady ∨ s.rd.movesMain = false) →
          t.ampKey = true ∧ t.ks.keyTenure = 0 ∧ t.ks.tenurePeriod = .running (s.now + s.period)) ∧
        (s.ie.permit = true → s.rd.state ≠ .steady → s.rd.movesMain = true →
          t.ks.state = .lockout ∧ t.ks.lockout = some (.inhibit .switching) ∧ t.ampKey = false) ∧
        (∀ r, s.ie.permit = false → s.ie.reason = some r →
          t.ks.state = .lockout ∧ t.ks.lockout = some (.inhibit r) ∧ t.ampKey = false)) ∧
      (f.on = true → f.isAssert = false → s.lc.heldKey = none →
        (s.ks.state = .announce ∧ (s.ie.permit = false ∨ s.rd.state ≠ .steady ∧ s.rd.movesMain = true) ∨
          (s.ks.state = .receive ∨ s.ks.state = .keyWait ∨ s.ks.state = .lockout) ∧ s.ks.keyOnOutstanding = true) →
        ∃ u, exec .keyComplete s = .next (commit .nothing s u) ∧
          (s.ks.state = .announce →
            u.ks.refusals = (if 9999 ≤ s.ks.refusals then 0 else s.ks.refusals + 1) ∧
            u.ks.overflowMark = (s.ks.overflowMark || decide (9999 ≤ s.ks.refusals))) ∧
          (s.ks.state ≠ .announce → u.ks.state = s.ks.state ∧ u.ks.refusals = s.ks.refusals) ∧
          (s.jc.state = .leaving ∧ s.jc.leaving = some .duplicate →
            u.lc.queue = s.lc.queue.filter (fun e => !e.inFlight)) ∧
          (¬ (s.jc.state = .leaving ∧ s.jc.leaving = some .duplicate) → s.lc.queue.length ≤ 8 →
            unsent isKey s.lc.queue = none → ∃ e ∈ u.lc.queue, e.inFlight = false ∧
              e.frame = ⟨s.self, .key ⟨false, false, BitVec.ofNat 4 s.fu.band, (match s.fu.freq with
                | none => 1048575
                | some n => BitVec.ofNat 20 n), BitVec.ofNat 6 s.ks.keyTenure⟩⟩)) ∧
      (f.on = true → f.isAssert = false → s.lc.heldKey = none → s.ks.keyOnOutstanding = false →
        s.ks.state = .receive ∨ s.ks.state = .keyWait ∨ s.ks.state = .lockout →
        ∃ u, exec .keyComplete s = .next (commit .nothing s u) ∧
          u.lc.queue = s.lc.queue.filter (fun e => !e.inFlight))

/-- R167, R168, R169, R171: T_seq over in AMP-ON, the sequencer is in TRANSMIT with RADIO INHIBIT released (u, before
the permit is next read). The tail over, AMP KEY is off and the key tenures 0: PTT released leads to RECEIVE, a dropped
transmission with PTT pressed to LOCKOUT with its reason, a drop counting one refusal. A period of key tenure over, it
rises by one, to 63 at most. (That the clock stands at the moment a timer ran out, and the next period runs from there,
is the model's choice, log 2; so is it that a DROP tail which ends in RECEIVE clears its lockout reason, log 64; that a
press judged at a tail's end finds the relays told of AMP KEY off is inferred, log 23.) -/
def Obligations.SequencerTimersRun : Prop :=
  ∀ (s : State) (due : Nat),
    (s.ks.state = .ampOn → s.ks.timer = .running due →
      ∃ u, exec .tSeqExpiry s = .next (commit .nothing s u) ∧ u.now = max s.now due ∧
        u.ks.state = .transmit ∧ u.ks.timer = .stopped ∧ u.radioInhibit = false ∧ u.ampKey = true ∧
        (commit .nothing s u).ampKey = true ∧
        ((commit .nothing s u).ks.state = .transmit ∨ (commit .nothing s u).ks.state = .tail)) ∧
    (s.ks.state = .tail → s.ks.timer = .running due →
      ∃ t, exec .tailExpiry s = .next t ∧ t.ampKey = false ∧ t.ks.keyTenure = 0 ∧ t.ks.keyTenureLink = 0 ∧
        t.ks.tenurePeriod = .stopped ∧ t.now = max s.now due ∧
        (s.ks.ptt = false → t.ks.state = .receive ∧ t.ks.lockout = none ∧ t.ks.tailCause = none ∧
          t.cu.standby = (s.cu.standby || s.cu.deferred)) ∧
        (s.ks.ptt = true → s.ks.tailCause = some .drop →
          t.ks.state = .lockout ∧ t.ks.lockout = s.ks.lockout ∧ t.ks.tailCause = none ∧ t.cu = s.cu) ∧
        (s.ks.tailCause = some .drop →
          t.ks.refusals = if 9999 ≤ s.ks.refusals then 0 else s.ks.refusals + 1) ∧
        (s.ks.ptt = true → s.ks.tailCause ≠ some .drop →
          t.ks.state = .announce ∨ t.ks.state = .keyWait ∨ t.ks.state = .lockout)) ∧
    (s.ks.tenurePeriod = .running due →
      ∃ t, exec .keyTenurePeriodExpiry s = .next t ∧ t.now = max s.now due ∧
        t.ks.keyTenure = min 63 (s.ks.keyTenure + 1) ∧
        t.ks.tenurePeriod = if 63 ≤ s.ks.keyTenure + 1 then .stopped else .running (max s.now due + s.period))

/-! ### Relays (10.2) -/

/-- R174, R176, R177: at the end of a break, movable lines that the target has dropped turn off in another
break; with none such its movable lines turn on and the make time runs. At the end of a make, a movable
difference begins another break; with none the driver is STEADY (u, before the target is next formed). (That
the clock stands at the moment the timer ran out, max of now and that moment, is the model's choice, log 2.) -/
def Obligations.RelayTimersBreakAndMake : Prop :=
  ∀ (s : State) (due : Nat), s.rd.timer = .running due →
    (s.rd.state = .breaking → (s.rd.lines.diff s.rd.target).and s.movable ≠ .none →
      ∃ t, exec .breakExpiry s = .next t ∧ t.rd.state = .breaking ∧
        t.rd.lines = s.rd.lines.diff ((s.rd.lines.diff s.rd.target).and s.movable) ∧
        t.rd.timer = .running (max s.now due + Config.ms s.timing.tBreak)) ∧
    (s.rd.state = .breaking → (s.rd.lines.diff s.rd.target).and s.movable = .none →
      ∃ t, exec .breakExpiry s = .next t ∧ t.rd.state = .making ∧
        t.rd.lines = s.rd.lines.or ((s.rd.target.diff s.rd.lines).and s.movable) ∧
        t.rd.timer = .running (max s.now due + Config.ms s.timing.tMake)) ∧
    (s.rd.state = .making → s.moves s.rd.target ≠ .none →
      ∃ t, exec .makeExpiry s = .next t ∧ t.rd.state = .breaking ∧
        t.rd.lines = s.rd.lines.diff ((s.rd.lines.diff s.rd.target).and s.movable) ∧
        t.rd.timer = .running (max s.now due + Config.ms s.timing.tBreak)) ∧
    (s.rd.state = .making → s.moves s.rd.target = .none →
      ∃ u, exec .makeExpiry s = .next (commit .nothing s u) ∧ u.rd.state = .steady ∧ u.rd.timer = .stopped ∧
        u.rd.lines = s.rd.lines ∧ u.now = max s.now due)

/-! ### Station commands (Chapter 11) -/

/-- R182 to R186: at a part with a number and a plan, in RUN, LISTEN, LEAVING or DUPLICATE, that accepts commands, a
command of another position that may command is applied: QUIET puts a quiet of the duration (0 read as 1) in force,
QUIET-END ends it, REJOIN for all or for this number starts LEAVING from RUN, LISTEN and DUPLICATE, and RELEARN in RUN
empties the view and starts 2P of relearn quiet. One from a position that may not command, or that comes to a part
which does not accept commands or has no number or no plan, or a REJOIN for another number, is recorded as IGNORED and
changes nothing else of the Command Unit; the join state, the view and relearn quiet stay. In LOAD and UNPLANNED none
is taken or recorded. (A command of another unit whose frame shows the part's own number, or the one it probes for, is
what OwnNumberShowsDuplicate and R29 have of it. That the record of a QUIET or QUIET-END stands as "all" with target 0
is the model's choice, log 9.) -/
def Obligations.StationCommandsApply : Prop :=
  (∀ (me issuer : Position) (f : CommandFields) (s : State), s.jc.number = some me → s.ps.plan.isSome = true →
    s.lc.receiver = .frame → s.acceptsCommands = true → issuer ≠ me →
    (s.jc.state = .run ∨ s.jc.state = .listen ∨ s.jc.state = .leaving ∨ s.jc.state = .duplicate) →
    (s.mayCommand issuer = true →
      (∃ t, exec (.quietCommand issuer f) s = .next t ∧ t.cu.quiet = some ⟨issuer, max 1 f.duration.toNat⟩ ∧
        t.cu.quietTimer = .running (s.now + Config.sec 1) ∧ t.cu.last = some ⟨.quiet, issuer, true, 0, true⟩) ∧
      (∃ t, exec (.quietEndCommand issuer f) s = .next t ∧ t.cu.quiet = none ∧ t.cu.quietTimer = .stopped ∧
        t.cu.last = some ⟨.quietEnd, issuer, true, 0, true⟩) ∧
      (f.all = true ∨ f.target = me → s.jc.state ≠ .leaving →
        ∃ t, exec (.rejoinCommand issuer f) s = .next t ∧ t.jc.state = .leaving ∧
          t.jc.leaving = some .rejoin ∧ t.jc.number = some me ∧ t.cu.standby = false ∧ t.cu.quiet = s.cu.quiet) ∧
      (s.jc.state = .run →
        ∃ t, exec (.relearnCommand issuer f) s = .next t ∧ t.pt.records = [] ∧ t.pt.linkLost = false ∧
          t.ct.relearn = .running (s.now + 2 * s.period) ∧ t.jc.state = .run))) ∧
  ∀ (issuer : Position) (f : CommandFields) (c : Instr) (name : CommandName) (s : State), s.lc.receiver = .frame →
    s.jc.number ≠ some issuer → ¬ (s.jc.state = .probe ∧ s.jc.tentative = some issuer) →
    (c = .quietCommand issuer f ∧ name = .quiet ∨ c = .quietEndCommand issuer f ∧ name = .quietEnd ∨
      c = .rejoinCommand issuer f ∧ name = .rejoin ∨ c = .relearnCommand issuer f ∧ name = .relearn) →
    (s.jc.state ≠ .load → s.jc.state ≠ .unplanned →
      (s.jc.number = none ∨ s.ps.plan = none ∨ s.acceptsCommands = false ∨ s.mayCommand issuer = false ∨
        name = .rejoin ∧ f.all = false ∧ s.jc.number ≠ some f.target) →
      ∃ t l, exec c s = .next t ∧ t.cu = { s.cu with last := some l } ∧ l.name = name ∧ l.issuer = issuer ∧
        l.applied = false ∧ t.jc.state = s.jc.state ∧ t.jc.leaving = s.jc.leaving ∧ t.ct.relearn = s.ct.relearn ∧
        t.pt.records = s.pt.records) ∧
    (s.jc.state = .load ∨ s.jc.state = .unplanned →
      ∃ t, exec c s = .next t ∧ t.cu = s.cu ∧ t.jc.state = s.jc.state ∧ t.pt.records = s.pt.records)

/-- R181, R182, R183: the part's own COMMAND gone out, none is outstanding, and it is taken as received from
itself: in RUN its QUIET is in force where the own row may command and accepts. A second of quiet over, the
remaining time is one less, and at 0 the quiet ends. (That the record of the QUIET stands as "all" with
target 0 is the model's choice, log 9; that the clock stands at the moment the second ran out is log 2.) -/
def Obligations.OwnCommandAndQuietSecond : Prop :=
  (∀ (s : State) (p : Position) (name : CommandName) (f : CommandFields),
    s.flight isCommand = some ⟨p, .command name f⟩ →
    ∃ t, exec .commandComplete s = .next t ∧ t.cu.outstanding = none ∧ flights t.lc.queue = [] ∧
      (name = .quiet → s.jc.state = .run → s.jc.number = some p → s.acceptsCommands = true →
        s.mayCommand p = true → t.cu.quiet = some ⟨p, max 1 f.duration.toNat⟩ ∧
          t.cu.quietTimer = .running (s.now + Config.sec 1) ∧ t.cu.last = some ⟨.quiet, p, true, 0, true⟩)) ∧
  ∀ (s : State) (due : Nat) (q : Quiet), s.cu.quietTimer = .running due → s.cu.quiet = some q →
    ∃ t, exec .quietSecondExpiry s = .next t ∧ t.now = max s.now due ∧
      (q.remaining ≤ 1 → t.cu.quiet = none ∧ t.cu.quietTimer = .stopped) ∧
      (1 < q.remaining → t.cu.quiet = some ⟨q.issuer, q.remaining - 1⟩ ∧
        t.cu.quietTimer = .running (max s.now due + Config.sec 1))

/-! ### The operator panel (Chapter 12) -/

/-- R191, R193, R194, R196, R197: in LOAD every key code, undefined ones too, is answered WAIT and changes nothing else.
After LOAD, outside RUN, every other defined key is refused as NOT_RUNNING and changes nothing else; WAIT toggles wait
mode; CANCEL empties the wait list, the ask and the panel mask; CLEAR-COUNTERS clears the four counters and the overflow
mark, and no adaptation; a code that names no key, or one whose argument is out of its range (log 28), is answered "?"
with no key named (u, before the other blocks take up the change). (That WAIT in LOAD names an undefined code as the key
is the model's choice, log 72.) -/
def Obligations.PanelKeysWaitOrAct : Prop :=
  (∀ (c : Instr) (code : Byte) (s : State), s.jc.state = .load → encodeKey c = some code →
    exec c s = .next (commit .nothing s (s.setPi { s.pi with answer := some ⟨.key code, .wait⟩ }))) ∧
  ∀ s : State, s.jc.state ≠ .load →
    (∃ t, exec .wait s = .next t ∧ t.pi.waitMode = !s.pi.waitMode) ∧
    (∃ u, exec .cancel s = .next (commit .nothing s u) ∧ u.ct.waitList = [] ∧ u.ct.panelMask = none ∧
      u.hu.ask = .none ∧ u.hu.latch = s.hu.latch ∧ u.hu.answer = s.hu.answer ∧ u.ct.slots = s.ct.slots) ∧
    (∃ u, exec .clearCounters s = .next (commit .nothing s u) ∧ u.lc.lineErrors = 0 ∧ u.lc.overflows = 0 ∧
      u.fu.sentenceErrors = 0 ∧ u.ks.refusals = 0 ∧ u.ks.overflowMark = false ∧ u.lc.level = s.lc.level ∧
      u.lc.errorCount = s.lc.errorCount ∧ u.lc.adaptation = s.lc.adaptation ∧
      (commit .nothing s u).lc.lineErrors = 0 ∧ (commit .nothing s u).fu.sentenceErrors = 0) ∧
    (∀ c code, encodeKey c = some code → c.wellFormed = true → s.jc.state ≠ .run →
      c ≠ .wait → c ≠ .cancel → c ≠ .clearCounters → c ≠ .rejoinSelf → (∀ x e, c ≠ .undefinedKeyCode x e) →
      exec c s = .next (commit .nothing s (s.answerKey c (.denied .notRunning)))) ∧
    ∀ c code, encodeKey c = some code → (c.wellFormed = false ∨ ∃ x e, c = .undefinedKeyCode x e) →
      exec c s = .next (commit .nothing s (s.setPi { s.pi with answer := some ⟨.nothing, .unknown⟩ }))

/-- R188, R190, R92: STANDBY in RUN with standby set clears it and sets the first-full-status obligation;
with an entry deferred it cancels it; else it enters standby in RECEIVE, KEY-WAIT and LOCKOUT and defers the
entry in ANNOUNCE, AMP-ON, TRANSMIT and TAIL. R143, R172: where standby is entered with an ask latched, at the key or at
the report of RECEIVE that takes a deferred entry (a PTT release, or a tail's end with PTT released), a part with
auto-give answers GIVE at once: the latch is empty, the hold is FREEING with reason YIELDED for the asker and the answer
is GIVING (with no hand-over of its members under way); one without leaves latch, answer and holds as they are (u, before
the other blocks take up the change). -/
def Obligations.StandbyKeyEntersDefersExits : Prop :=
  (∀ s : State, s.jc.state = .run →
    ∃ t, exec .standby s = .next t ∧
      (s.cu.standby = true → t.cu.standby = false ∧ t.sg.obligation = true) ∧
      (s.cu.standby = false → s.cu.deferred = true → t.cu.standby = false ∧ t.cu.deferred = false) ∧
      (s.cu.standby = false → s.cu.deferred = false →
        (s.ks.state = .receive ∨ s.ks.state = .keyWait ∨ s.ks.state = .lockout) →
        t.cu.standby = true ∧ t.cu.deferred = false) ∧
      (s.cu.standby = false → s.cu.deferred = false →
        (s.ks.state = .announce ∨ s.ks.state = .ampOn ∨ s.ks.state = .transmit ∨ s.ks.state = .tail) →
        t.cu.standby = false ∧ t.cu.deferred = true) ∧
      t.cu.quiet = s.cu.quiet ∧ t.cu.outstanding = s.cu.outstanding) ∧
  ∀ (c : Instr) (s : State) (l : Latch), s.hu.latch = some l → s.cu.standby = false →
    (c = .standby ∧ s.jc.state = .run ∧ s.cu.deferred = false ∧
        (s.ks.state = .receive ∨ s.ks.state = .keyWait ∨ s.ks.state = .lockout) ∨
      c = .pttRelease ∧ s.cu.deferred = true ∧ s.ks.ptt = true ∧
        (s.ks.state = .announce ∨ s.ks.state = .keyWait ∨ s.ks.state = .lockout) ∨
      c = .tailExpiry ∧ s.cu.deferred = true ∧ s.ks.ptt = false ∧ s.ks.state = .tail ∧ 
        s.ks.timer.isRunning = true) →
    ∃ u, exec c s = .next (commit .nothing s u) ∧ u.cu.standby = true ∧ u.cu.deferred = false ∧
      ((∃ row, s.ownRow = some row ∧ row.autoGive = true) →
        u.hu.latch = none ∧ u.hu.keepTimer = .stopped ∧
        (∀ i h, s.heldSlot (fun x => x.antenna == l.antenna) = some i → (s.slot i).held = some h →
          (u.slot i).held = none ∧ (u.slot i).freeing = (s.slot i).freeing ++
            [⟨h.antenna, h.mask, h.drive, h.tenure, h.tenureLink, .yielded, some l.asker, false⟩] ∧
          (h.shrink = none → h.give = none → u.hu.answer = some ⟨l.asker, l.antenna, .giving⟩) ∧
          ∀ j, j ≠ i → u.slot j = s.slot j)) ∧
      ((∀ row, s.ownRow = some row → row.autoGive = false) → u.hu = s.hu ∧ u.ct = s.ct)

/-- R181, R195: a station command key in RUN is refused as NOT_PERMITTED where the own row may not command, and as BUSY
with a command outstanding; else, with room in the queue, its COMMAND stands in the queue with the key's fields and the
command is outstanding, and with none the Command Unit reports QUEUE and none is outstanding (u, before the other blocks
take up the change). (That the all flag of QUIET, QUIET-END and RELEARN is sent set, where R202 would send 0, is the
model's choice, log 58; that the QUEUE is the Command Unit's report, with no answer that names the key beside it, is
inferred from both rules, log 11; that a key which is taken answers accepted, log 40; a full queue with an unsent STATUS
in it is left out.) -/
def Obligations.StationKeysOfferCommand : Prop :=
  ∀ (c : Instr) (name : CommandName) (f : CommandFields) (code : Byte) (s : State),
    (c = .quietKey ∧ name = .quiet ∧ f = ⟨true, 0, 60⟩ ∨ c = .quietEndKey ∧ name = .quietEnd ∧ f = ⟨true, 0, 0⟩ ∨
      c = .relearnKey ∧ name = .relearn ∧ f = ⟨true, 0, 0⟩ ∨
      (∃ p, c = .rejoinPos (some p) ∧ name = .rejoin ∧ f = ⟨false, p, 0⟩) ∨
      c = .rejoinPos none ∧ name = .rejoin ∧ f = ⟨true, 0, 0⟩) →
    encodeKey c = some code → s.jc.state = .run →
    ∃ u, exec c s = .next (commit .nothing s u) ∧
      ((∀ r, s.ownRow = some r → r.mayCommand = false) →
        u.pi.answer = some ⟨.key code, .denied .notPermitted⟩ ∧ u.lc = s.lc ∧ u.cu = s.cu) ∧
      (∀ r, s.ownRow = some r → r.mayCommand = true → s.cu.outstanding.isSome = true →
        u.pi.answer = some ⟨.key code, .denied .busy⟩ ∧ u.lc = s.lc ∧ u.cu = s.cu) ∧
      (∀ r, s.ownRow = some r → r.mayCommand = true → s.cu.outstanding = none → s.lc.queue.length < 8 →
        u.pi.answer = some ⟨.key code, .accepted⟩ ∧ u.cu.outstanding = some name ∧
          ∃ e ∈ u.lc.queue, e.inFlight = false ∧ e.frame = ⟨s.self, .command name f⟩) ∧
      (∀ r, s.ownRow = some r → r.mayCommand = true → s.cu.outstanding = none → 8 ≤ s.lc.queue.length →
        unsent isStatus s.lc.queue = none →
        u.pi.answer = some ⟨.block .cu, .denied .queue⟩ ∧ u.cu = s.cu ∧ u.lc.queue = s.lc.queue)

/-- R199, R200, R203: a record's last character gone, a pending change whose content differs from the last starts the
next record, and else none is on its way; with no record started for 1 s one starts with the content as it stands. A
change of the displayed content between a command and what the blocks leave of it starts a record with the content as
it then stands where none is on its way, and sets the pending flag where one is; with no change nothing is sent or
set. The first record after reset carries the content that stood before the first command, and what that command
changed is pending. A record is 82 characters: 165, 79, the content and the sum of all but the first, modulo 256.
R197, R198: the 79 characters of the content, field by field as 13.4 lays them out: each lamp by the first row of the
lamp table that applies; joining, flags and panel mask; reason, sequencer, lockout and the first eight warnings; b and
F; each slot's candidate, else its hold, else its latest freeing part; latch, ask and answers; quiet and the last
command; the positions flagged; the panel's answer; the counters; the relay lines and target
(fields of the content with nothing to show are 0, and the code of an ask's kind is its slot's, the model's choices,
log 9; an answer with no key and no block is left out, log 10; the answer read from the target is read while the ask
stands alone, log 12; the label of a latch that holds none is its record's, log 48; which values' changes count as
changes of content is log 47; which ports' members light a lamp is log 75; a PARTIAL record's mismatch is shown, log
50; the timer before the first record is log 33; that the clock stands at the moment the second is over, and the next
second runs from there, is the model's choice, log 2; a second that is over with a record on its way is left out). -/
def Obligations.DisplayRecordsFollowContent : Prop :=
  (∀ s : State, s.pi.inFlight = true →
    ∃ u, exec .displayRecordSent s = .next (commit .nothing s u) ∧
      if s.pi.pendingChange = true ∧ s.pi.last ≠ some s.displayed then
        u.pi.last = some s.displayed ∧ u.pi.inFlight = true ∧ u.pi.pendingChange = false ∧
          u.pi.refresh = .running (s.now + Config.sec 1)
      else u.pi.inFlight = false ∧ u.pi.pendingChange = false ∧ u.pi.last = s.pi.last) ∧
  (∀ (s : State) (due : Nat), s.pi.refresh = .running due → s.pi.inFlight = false →
    ∃ u, exec .displayRefreshExpiry s = .next (commit .nothing s u) ∧ u.now = max s.now due ∧
      u.pi.last = some s.displayed ∧ u.pi.inFlight = true ∧
      u.pi.refresh = .running (max s.now due + Config.sec 1)) ∧
  (∀ (heard : KeyHeard) (before s : State), s.pi.last = none → s.pi.inFlight = false →
    (commit heard before s).pi.last = some before.displayed ∧ (commit heard before s).pi.inFlight = true ∧
    ((commit heard before s).pi.pendingChange = true ↔ before.displayed ≠ (commit heard before s).displayed)) ∧
  (∀ (heard : KeyHeard) (before s t : State), commit heard before s = t → s.pi.last ≠ none ∨ s.pi.inFlight = true →
    (before.displayed = t.displayed → t.pi.last = s.pi.last ∧ t.pi.inFlight = s.pi.inFlight ∧
      t.pi.pendingChange = s.pi.pendingChange ∧ t.pi.refresh = s.pi.refresh) ∧
    (before.displayed ≠ t.displayed → s.pi.inFlight = true →
      t.pi.last = s.pi.last ∧ t.pi.inFlight = true ∧ t.pi.pendingChange = true ∧ t.pi.refresh = s.pi.refresh) ∧
    (before.displayed ≠ t.displayed → s.pi.inFlight = false →
      t.pi.last = some t.displayed ∧ t.pi.inFlight = true ∧ t.pi.pendingChange = false ∧
        t.pi.refresh = .running (t.now + Config.sec 1))) ∧
  (∀ s : State, (displayRecord s.content).length = 82 ∧ (displayRecord s.content).getD 0 0 = 165 ∧
    (displayRecord s.content).getD 1 0 = 79 ∧ s.displayed.content = s.content ∧
    (((displayRecord s.content).take 81).drop 1).foldl (fun acc x => acc + x.toNat) 0 % 256 =
      ((displayRecord s.content).getD 81 0).toNat) ∧
  ∀ (s : State) (at_ : Nat → Nat) (word : Nat → Nat) (order : List Reason),
    (∀ k, at_ k = ((displayRecord s.content).getD k 0).toNat) →
    (∀ k, word k = 65536 * at_ k + 256 * at_ (k + 1) + at_ (k + 2)) →
    order = [.notJoined, .plan, .duplicate, .standby, .stationQuiet, .linkLost, .noFreq, .outOfBand, .noAntenna,
      .antBand, .switching, .filter, .bandBusy, .spacing, .harmonic] →
    (∀ (n lamp : Nat) (shows : Slot → Prop), 1 ≤ n → n ≤ 32 →
      lamp = (if n % 2 = 1 then at_ (2 + (n - 1) / 2) / 16 else at_ (2 + (n - 1) / 2) % 16) →
      (∀ i, shows i ↔
        (∃ h, (s.slot i).held = some h ∧ (h.antenna = n ∨ n ∈ s.membersOf h.antenna h.mask)) ∨
        (∃ x ∈ (s.slot i).freeing, x.antenna = n ∨ n ∈ s.membersOf x.antenna x.mask) ∨
        ∃ c, (s.slot i).cand = some c ∧ c.antenna = n) →
      (s.ps.plan = none ∨ (s.antenna n).kind = .absent ∨ (s.antenna n).kind = .stackPort ∧ s.groupOf n = none →
        lamp = 0) ∧
      (s.ps.plan ≠ none → (s.antenna n).kind ≠ .absent → (s.antenna n).kind ≠ .stackPort ∨ s.groupOf n ≠ none →
        (shows .main → lamp = 2) ∧ (¬ shows .main → shows .aux → lamp = 3) ∧
        (¬ shows .main → ¬ shows .aux → shows .nextA ∨ shows .nextB → lamp = 4) ∧
        ((∀ i, ¬ shows i) →
          ((∃ p k since m, s.hu.ask = .standing p n k since m) → lamp = 8) ∧
          ((∀ p k since m, s.hu.ask ≠ .standing p n k since m) →
            ((∃ e ∈ s.ct.waitList, e.antenna = n) → lamp = 6) ∧
            ((∀ e ∈ s.ct.waitList, e.antenna ≠ n) →
              ((∃ x ∈ s.ct.reservations, x.antenna = n ∧ s.jc.number ≠ some x.position) → lamp = 7) ∧
              ((∀ x ∈ s.ct.reservations, x.antenna = n → s.jc.number = some x.position) →
                lamp = if s.holderCount n < s.capacity n then 1 else 5)))))) ∧
    (at_ 18 / 32 = (match s.jc.state with
        | .load => 0
        | .listen => 1
        | .probe => 2
        | .run => 3
        | .leaving => 4
        | .unplanned => 5
        | .unnumbered => 6
        | .duplicate => 7) ∧
      at_ 18 % 32 = (match (if s.jc.state = .probe then s.jc.tentative else s.jc.number) with
        | some p => 16 + p.toNat
        | none => 0) ∧
      (s.jc.attempts ≤ 255 → at_ 19 = s.jc.attempts) ∧ at_ 20 = s.ps.planCheck.toNat ∧
      (∀ x ∈ [(7, s.ps.planValid), (6, s.pi.waitMode), (5, s.ct.relearn.isRunning), (4, s.cu.standby),
        (3, s.cu.deferred), (2, s.pt.linkLost), (1, s.pt.disagreement), (0, s.cu.quiet.isSome)],
        at_ 21 / 2 ^ x.1 % 2 = x.2.toNat) ∧
      (s.lc.level ≤ 15 → at_ 22 / 32 = (s.ct.panelMask.getD 0).toNat ∧ at_ 22 / 16 % 2 = s.ks.overflowMark.toNat ∧
        at_ 22 % 16 = s.lc.level)) ∧
    ((∀ r, s.ie.reason = some r → order[at_ 23 / 16 - 1]? = some r ∧ 1 ≤ at_ 23 / 16) ∧
      (s.ie.reason = none → at_ 23 / 16 = 0) ∧
      [SeqState.receive, .keyWait, .announce, .ampOn, .transmit, .tail, .lockout][at_ 23 % 16]? = some s.ks.state ∧
      (∀ r, s.ks.lockout = some (.inhibit r) → order[at_ 24 - 1]? = some r ∧ 1 ≤ at_ 24) ∧
      (s.ks.lockout = some .queue → at_ 24 = 16) ∧ (s.ks.lockout = none → at_ 24 = 0) ∧
      (s.ie.warnings.length ≤ 255 → at_ 25 = s.ie.warnings.length) ∧
      ∀ k < 8, (s.ie.warnings[k]? = none → at_ (26 + k) = 0) ∧
        ∀ kind p, s.ie.warnings[k]? = some (kind, p) → at_ (26 + k) % 16 = p.toNat ∧
          [WarningKind.spacing, .harmonic2, .harmonic3][at_ (26 + k) / 16 - 1]? = some kind ∧ 1 ≤ at_ (26 + k) / 16) ∧
    (s.fu.band ≤ 10 → word 34 = 1048576 * s.fu.band + ((match s.fu.freq with
        | none => 1048575
        | some n => BitVec.ofNat 20 n) : BitVec 20).toNat) ∧
    (∀ (i : Slot) (k antenna code tenure : Nat) (mask : Mask), [Slot.main, .aux, .nextA, .nextB][k]? = some i →
      antenna ≤ 63 → tenure ≤ 63 →
      (∃ c, (s.slot i).cand = some c ∧ antenna = c.antenna ∧ code = (if c.phase = .queued then 3 else 4) ∧
          tenure = 0 ∧ mask = c.mask) ∨
        (∃ h, (s.slot i).cand = none ∧ (s.slot i).held = some h ∧ antenna = h.antenna ∧ code = 1 ∧
          tenure = h.tenure ∧ mask = h.mask) ∨
        (∃ x, (s.slot i).cand = none ∧ (s.slot i).held = none ∧ (s.slot i).freeing.getLast? = some x ∧
          antenna = x.antenna ∧ code = 2 ∧ tenure = x.tenure ∧ mask = x.mask) ∨
        ((s.slot i).cand = none ∧ (s.slot i).held = none ∧ (s.slot i).freeing = [] ∧ antenna = 0 ∧ code = 0 ∧
          tenure = 0 ∧ mask = 0) →
      word (37 + 3 * k) = 262144 * antenna + 32768 * code + 512 * tenure + 64 * mask.toNat) ∧
    ((s.hu.latch = none → ∀ k, 49 ≤ k → k ≤ 53 → at_ k = 0) ∧
      (∀ l, s.hu.latch = some l → at_ 49 = 128 + l.asker.toNat ∧ (l.antenna ≤ 255 → at_ 50 = l.antenna) ∧
        ∀ x, (l.label = some x ∨ l.label = none ∧ (s.pt.find l.asker).bind (fun r => r.label) = some x) →
          at_ 51 = x.c1.toNat ∧ at_ 52 = x.c2.toNat ∧ at_ 53 = x.c3.toNat) ∧
      (s.hu.ask = .none → at_ 54 = 0 ∧ at_ 55 = 0 ∧ at_ 56 = 0) ∧
      (∀ since m, s.hu.ask = .choosing since m → s.timing.askLife ≤ 255 →
        at_ 54 = 64 ∧ at_ 55 = 0 ∧ at_ 56 = s.timing.askLife - m) ∧
      (∀ p a kind since m, s.hu.ask = .standing p a kind since m → a ≤ 63 → s.timing.askLife ≤ 255 →
        at_ 54 / 64 = 2 ∧ at_ 54 % 16 = p.toNat ∧
        [AskKind.main, .aux, .next][at_ 54 / 16 % 4]? = some kind ∧ at_ 55 % 64 = a ∧
        at_ 56 = s.timing.askLife - m ∧
        (∀ r me k, s.pt.find p = some r → s.jc.number = some me → r.answer = some (me, a, k) →
          at_ 55 / 64 = if k = .keep then 1 else 2) ∧
        ((∀ r me k, s.pt.find p = some r → s.jc.number = some me → r.answer ≠ some (me, a, k)) → at_ 55 / 64 = 0)) ∧
      (s.hu.answer = none → at_ 57 = 0 ∧ at_ 58 = 0) ∧
      ∀ x, s.hu.answer = some x → at_ 57 / 16 = (if x.kind = .keep then 1 else 2) ∧ at_ 57 % 16 = x.asker.toNat ∧
        (x.antenna ≤ 255 → at_ 58 = x.antenna)) ∧
    ((s.cu.quiet = none → at_ 59 = 0 ∧ at_ 60 = 0) ∧
      (∀ q, s.cu.quiet = some q → at_ 59 = q.issuer.toNat ∧ (q.remaining ≤ 255 → at_ 60 = q.remaining)) ∧
      (s.cu.last = none → at_ 61 = 0 ∧ at_ 62 = 0) ∧
      (∀ c, s.cu.last = some c → at_ 61 / 64 = (if c.applied = true then 1 else 2) ∧
        [CommandName.quiet, .quietEnd, .rejoin, .relearn][at_ 61 / 4 % 16]? = some c.name ∧
        at_ 61 % 4 = c.all.toNat ∧ at_ 62 = 16 * c.issuer.toNat + c.target.toNat) ∧
      ∀ p : Position,
        ((256 * at_ 63 + at_ 64) / 2 ^ p.toNat % 2 = 1 ↔ ∃ r ∈ s.pt.records, r.pos = p ∧ r.mismatch = true) ∧
        ((256 * at_ 65 + at_ 66) / 2 ^ p.toNat % 2 = 1 ↔ ∃ r ∈ s.pt.records, r.pos = p ∧ r.linkLost = true)) ∧
    ((s.pi.answer = none → at_ 67 = 0 ∧ at_ 68 = 0 ∧ at_ 69 = 0) ∧
      (∀ c o, s.pi.answer = some ⟨.key c, o⟩ → at_ 67 = 1 ∧ at_ 68 = c.toNat) ∧
      (∀ b o, s.pi.answer = some ⟨.block b, o⟩ → at_ 68 = 0 ∧ 2 ≤ at_ 67 ∧
        [Block.fu, .ps, .jc, .lc, .pt, .sg, .ct, .hu, .ie, .ks, .rd, .cu, .pi][at_ 67 - 2]? = some b) ∧
      (∀ x o, s.pi.answer = some ⟨x, o⟩ → (∀ d, o ≠ .denied d) → 1 ≤ at_ 69 ∧
        [PanelOutcome.accepted, .waiting, .asking, .valueSet, .unknown, .wait, .kept, .giving, .notSent][at_ 69 - 1]? =
          some o) ∧
      (∀ x d, s.pi.answer = some ⟨x, .denied d⟩ → 16 ≤ at_ 69 ∧
        [Denial.notRunning, .noSuchAntenna, .wrongKind, .privateOwner, .notCovered, .relearn, .linkLost, .planDiff,
          .reserved, .mine, .busy, .full, .waitFull, .queue, .mask, .reshaping, .capacity, .notHeld, .notSingle, .noAsk,
          .notPermitted][at_ 69 - 16]? = some d) ∧
      (CountersOk s → at_ 70 = s.lc.lineErrors ∧ at_ 71 = s.lc.overflows ∧ at_ 72 = s.fu.sentenceErrors ∧
        1000 * (at_ 73 / 16) + 100 * (at_ 73 % 16) + 10 * (at_ 74 / 16) + at_ 74 % 16 = s.ks.refusals ∧
        at_ 73 / 16 ≤ 9 ∧ at_ 73 % 16 ≤ 9 ∧ at_ 74 / 16 ≤ 9 ∧ at_ 74 % 16 ≤ 9)) ∧
    [RelayState.steady, .breaking, .making][at_ 75 / 64]? = some s.rd.state ∧
    (∀ b, b ≤ 10 → (s.rd.lines.filter = filterBit b → at_ 75 % 64 = b) ∧ (s.rd.target.filter = filterBit b → at_ 80 = b)) ∧
    ∀ a, a ≤ 32 → (s.rd.lines.ant &&& ~~~s.auxPathAnt = antBit a → at_ 76 = a) ∧
      (s.rd.lines.ant &&& s.auxPathAnt = antBit a → at_ 77 = a) ∧
      (s.rd.target.ant &&& ~~~s.auxPathAnt = antBit a → at_ 78 = a) ∧
      (s.rd.target.ant &&& s.auxPathAnt = antBit a → at_ 79 = a)

/-! ### The whole part, every command -/

/-- What the Frequency Unit, the plan, the peer records, the line counts, the station quiet and wait mode hold
changes by their own commands alone, and no command changes the commands that wait. -/
def Obligations.StateChangesOnlyByItsCommands : Prop :=
  ∀ (c : Instr) (s t : State), exec c s = .next t →
    t.pending = s.pending ∧ (touchesFreq c = false → t.fu = s.fu) ∧ (touchesPlan c = false → t.ps = s.ps) ∧
    (touchesPeers c = false → t.pt.records = s.pt.records) ∧
    (touchesLineCounts c = false → t.lc.lineErrors = s.lc.lineErrors ∧ t.lc.level = s.lc.level ∧
      t.lc.errorCount = s.lc.errorCount) ∧
    (touchesQuiet c = false → t.cu.quiet = s.cu.quiet ∧ t.cu.quietTimer = s.cu.quietTimer) ∧
    (touchesWaitMode c = false → t.pi.waitMode = s.pi.waitMode)

/-- R145, R146, R156, R173, R175: after every command the permit is true exactly where no inhibit reason holds, the
reason is the first that holds and the warnings are the WARN conflicts, of the inputs as they then stand; the relay
target is what its owners give, and a STEADY driver has no movable line off it. R145, R148, R149: the fifteen reasons
in their order, and when the first eight hold. R127, R173: the lines of the target: the antenna line of the MAIN hold
and that of the AUX hold (an RXONLY antenna's line is the AUX slot's alone, any other the MAIN slot's), for a port in
MAIN the member lines of its group's places in the drive mask and the tap lines of their count, and the filter line of
b. R151, R152, R154, R155, R157: when NO_ANTENNA, ANT_BAND, SWITCHING, FILTER, BAND_BUSY, SPACING and HARMONIC hold,
and which warnings stand. R158 to R160: the key order marks: none while AMP KEY is off; each of a counted keyed peer
on the own band; a peer that starts to count is marked LATER by its plain KEY on and by key rank else, and one that
counted before keeps its mark, an assert KEY on of it apart, which ranks it anew.
(That band 0 is no band, so that two parts on it are never on one band, is inferred, log 37; that a transition begun
for a MAIN-path difference counts as one to its end is the model's choice, log 56.) -/
def Obligations.PermitAndTargetFollowInputs : Prop :=
  (∀ (c : Instr) (s t : State), exec c s = .next t → InterlockOk t ∧ RelaysOk t) ∧
  (∀ s : State, s.reasonNow = [.notJoined, .plan, .duplicate, .standby, .stationQuiet, .linkLost, .noFreq, .outOfBand,
      .noAntenna, .antBand, .switching, .filter, .bandBusy, .spacing, .harmonic].find? s.inhibits ∧
    (s.inhibits .notJoined = true ↔ s.jc.state = .load ∨ s.jc.state = .listen ∨ s.jc.state = .probe ∨
      s.jc.state = .unnumbered ∨ s.jc.state = .leaving) ∧
    (s.inhibits .plan = true ↔ s.jc.state = .unplanned) ∧
    (s.inhibits .duplicate = true ↔ s.jc.state = .duplicate) ∧
    (s.inhibits .standby = true ↔ s.cu.standby = true) ∧
    (s.inhibits .stationQuiet = true ↔ s.cu.quiet ≠ none) ∧
    (s.inhibits .linkLost = true ↔ s.pt.linkLost = true ∧ s.timing.failSafe = true) ∧
    (s.inhibits .noFreq = true ↔ s.fu.freq = none) ∧
    (s.inhibits .outOfBand = true ↔ s.fu.freq ≠ none ∧ s.fu.band = 0)) ∧
  (∀ s : State,
    (∀ n, 1 ≤ n → n ≤ 32 → (s.formTarget.ant.getLsbD (n - 1) = true ↔
      (∃ h, (s.slot .main).held = some h ∧ h.antenna = n ∧ (s.antenna n).kind ≠ .rxonly) ∨
      ∃ h, (s.slot .aux).held = some h ∧ h.antenna = n ∧ (s.antenna n).kind = .rxonly)) ∧
    (∀ b, 1 ≤ b → b ≤ 10 → (s.formTarget.filter.getLsbD (b - 1) = true ↔ s.fu.band = b)) ∧
    ∀ g (drives : Mask → Prop), 1 ≤ g → g ≤ 4 → (∀ m, drives m ↔ ∃ h grp, (s.slot .main).held = some h ∧
        s.groupOf h.antenna = some (g, grp) ∧ m = h.drive &&& grp.present) →
      (∀ place, 1 ≤ place → place ≤ 3 → (s.formTarget.member.getLsbD (3 * (g - 1) + (place - 1)) = true ↔
        ∃ m, drives m ∧ m.getLsbD (3 - place) = true)) ∧
      (s.formTarget.tap.getLsbD (2 * (g - 1)) = true ↔ ∃ m, drives m ∧ (maskCount m = 1 ∨ maskCount m = 3)) ∧
      (s.formTarget.tap.getLsbD (2 * (g - 1) + 1) = true ↔ ∃ m, drives m ∧ (maskCount m = 2 ∨ maskCount m = 3))) ∧
  (∀ (s : State) (counts : PeerRecord → Nat → Nat → Prop), (∀ r f fp, counts r f fp ↔ r ∈ s.pt.records ∧
      r.live = true ∧ r.standby = false ∧ s.fu.freq = some f ∧ r.freq = some fp) →
    (s.inhibits .noAntenna = true ↔ (s.slot .main).held = none) ∧
    (s.inhibits .antBand = true ↔
      ∃ h, (s.slot .main).held = some h ∧ (s.antenna h.antenna).covers s.fu.band = false) ∧
    (s.inhibits .switching = true ↔ s.rd.lines.and s.mainPath ≠ s.rd.target.and s.mainPath ∨
      s.rd.state ≠ .steady ∧ s.rd.movesMain = true) ∧
    (s.inhibits .filter = true ↔ s.fu.freq ≠ none ∧ s.fu.band ≠ 0 ∧ s.rd.lines.filter ≠ filterBit s.fu.band) ∧
    (s.inhibits .bandBusy = true ↔ (s.bandEntry s.fu.band).single = true ∧ s.fu.band ≠ 0 ∧
      ∃ r ∈ s.pt.records, r.live = true ∧ r.standby = false ∧ r.freq ≠ none ∧ r.keyed = true ∧
        r.band = s.fu.band ∧ (s.ampKey = true → s.markOf r.pos = some .earlier)) ∧
    (s.inhibits .spacing = true ↔ (s.bandEntry s.fu.band).warn = false ∧ ∃ r f fp, counts r f fp ∧
      r.band = s.fu.band ∧ s.fu.band ≠ 0 ∧ (s.bandEntry s.fu.band).spacing ≠ 0 ∧
      (f - fp) + (fp - f) < (s.bandEntry s.fu.band).spacing * 10) ∧
    (s.inhibits .harmonic = true ↔ ∃ g r f fp, s.ps.plan.map (fun x => x.harmonic) = some g ∧ g.warn = false ∧
      g.guardKHz ≠ 0 ∧ counts r f fp ∧
      (g.h2 = true ∧ (2 * f - fp) + (fp - 2 * f) < g.guardKHz * 10 * 2 ∨
        g.h3 = true ∧ (3 * f - fp) + (fp - 3 * f) < g.guardKHz * 10 * 3)) ∧
    (∀ p, (.spacing, p) ∈ s.warningSet ↔ (s.bandEntry s.fu.band).warn = true ∧ ∃ r f fp, counts r f fp ∧
      r.pos = p ∧ r.band = s.fu.band ∧ s.fu.band ≠ 0 ∧ (s.bandEntry s.fu.band).spacing ≠ 0 ∧
      (f - fp) + (fp - f) < (s.bandEntry s.fu.band).spacing * 10) ∧
    ∀ p kind k, (kind = .harmonic2 ∧ k = 2 ∨ kind = .harmonic3 ∧ k = 3) → ((kind, p) ∈ s.warningSet ↔
      ∃ g r f fp, s.ps.plan.map (fun x => x.harmonic) = some g ∧ g.warn = true ∧ g.guardKHz ≠ 0 ∧
        counts r f fp ∧ r.pos = p ∧ (k = 2 ∧ g.h2 = true ∨ k = 3 ∧ g.h3 = true) ∧
        (k * f - fp) + (fp - k * f) < g.guardKHz * 10 * k)) ∧
  ∀ (heard : KeyHeard) (before s : State),
    (s.ampKey = false → (commit heard before s).ie.marks = []) ∧
    (∀ p m, (p, m) ∈ (commit heard before s).ie.marks → ∃ r ∈ s.pt.records, r.pos = p ∧ s.keyedOnBand r = true) ∧
    (s.ampKey = true → ∀ r, s.pt.find r.pos = some r → s.keyedOnBand r = true →
      (startsKeyed before s r = true → heard = .plainOn r.pos →
        (commit heard before s).markOf r.pos = some .later) ∧
      (startsKeyed before s r = true ∧ heard ≠ .plainOn r.pos ∨
          startsKeyed before s r = false ∧ (s.markOf r.pos).isSome = true ∧ heard = .assertOn r.pos →
        (commit heard before s).markOf r.pos = some (if rankBefore r.keyTenure (s.peerPriority r) r.pos
          s.ks.keyTenureLink s.ownPriority s.self = true then .earlier else .later)) ∧
      (startsKeyed before s r = false → (s.markOf r.pos).isSome = true → heard ≠ .assertOn r.pos →
        (commit heard before s).markOf r.pos = s.markOf r.pos))

/-- R174, R176: while AMP KEY is on after a command no MAIN-path line has changed in it, and lines turn on
at the end of a break time alone. -/
def Obligations.LinesMoveOnlyWhereAllowed : Prop :=
  ∀ (c : Instr) (s t : State), exec c s = .next t →
    (t.ampKey = true → t.rd.lines.and t.mainPath = s.rd.lines.and t.mainPath) ∧
    (c ≠ .breakExpiry → t.rd.lines.diff s.rd.lines = .none)

/-- R162, R165, R167, R168: TRANSMIT is entered only from AMP-ON at the end of T_seq; AMP KEY goes on only at
a KEY on going out in ANNOUNCE, and off only at the end of the tail or at power-on reset. -/
def Obligations.TransmitterKeysInOrder : Prop :=
  ∀ (c : Instr) (s t : State), exec c s = .next t →
    (t.ks.state = .transmit → s.ks.state ≠ .transmit → c = .tSeqExpiry ∧ s.ks.state = .ampOn) ∧
    (t.ampKey = true → s.ampKey = false → c = .keyComplete ∧ s.ks.state = .announce) ∧
    (s.ampKey = true → t.ampKey = false →
      c = .powerOnReset ∨ (c = .tailExpiry ∧ s.ks.state = .tail))

/-- R47: every step keeps the transmit queue within 8 frames, one STATUS, one KEY and one frame in flight, in
class order. -/
def Obligations.EveryStepKeepsQueue : Prop :=
  ∀ s t : State, QueueOk s.lc → step s = .next t → QueueOk t.lc

/-- R8, R44, R52, R55, R106, R169, R171, R176: every step keeps the counters and tenures in their ranges, at
most one filter line on and in the target, and at most one antenna line of the MAIN path and one of the
RXONLY antennas on and in the target. (The lines stand as bits, log 30.) -/
def Obligations.EveryStepKeepsCountersAndFilter : Prop :=
  (∀ s t : State, CountersOk s → FilterOk s → step s = .next t → CountersOk t ∧ FilterOk t) ∧
  ∀ s t : State, AntennaLinesOk s → step s = .next t → AntennaLinesOk t

/-! ### Encodings (Chapter 13) -/

/-- 13.3: a key's code, on the panel line with a good stop bit, is decoded to that key with its argument,
and a code that names no key to that code. -/
def Obligations.KeyCodesDecodeToTheirKeys : Prop :=
  ∀ (c : Instr) (code : Byte), c.wellFormed = true → encodeKey c = some code →
    match c with
    | .undefinedKeyCode _ e => decodeKey code e = c
    | _ => decodeKey code false = c

/-- R38, R39, R43, R201, 13.1: a frame with no field at fault, put on the line with its start mark, CRC,
fill bits and end mark, is received as that frame, every field of it, whatever follows it on the line. (A
dominant bit stands as 0, log 31.) -/
def Obligations.ReceivedFrameIsTheSentFrame : Prop :=
  ∀ (f : LinkFrame) (rest : List Bool), f.body.fault = none →
    f.wireBits.head? = some false ∧ receiveBits (f.wireBits.drop 1 ++ rest) = .ok f
end

