-- ==== Sys2Proof/Laws/State.lean ====
section
/-! SUPPORT. Laws/State.lean: what each named update of State leaves in each field, true by unfolding; later proofs never unfold an update. -/

namespace Sys2Proof.Machine

variable (s : State)

@[simp] theorem State.setNow_now (x : Nat) : (s.setNow x).now = x := rfl
@[simp] theorem State.setNow_choices (x : Nat) : (s.setNow x).choices = s.choices := rfl
@[simp] theorem State.setNow_fu (x : Nat) : (s.setNow x).fu = s.fu := rfl
@[simp] theorem State.setNow_ps (x : Nat) : (s.setNow x).ps = s.ps := rfl
@[simp] theorem State.setNow_jc (x : Nat) : (s.setNow x).jc = s.jc := rfl
@[simp] theorem State.setNow_lc (x : Nat) : (s.setNow x).lc = s.lc := rfl
@[simp] theorem State.setNow_pt (x : Nat) : (s.setNow x).pt = s.pt := rfl
@[simp] theorem State.setNow_sg (x : Nat) : (s.setNow x).sg = s.sg := rfl
@[simp] theorem State.setNow_ct (x : Nat) : (s.setNow x).ct = s.ct := rfl
@[simp] theorem State.setNow_hu (x : Nat) : (s.setNow x).hu = s.hu := rfl
@[simp] theorem State.setNow_ie (x : Nat) : (s.setNow x).ie = s.ie := rfl
@[simp] theorem State.setNow_ks (x : Nat) : (s.setNow x).ks = s.ks := rfl
@[simp] theorem State.setNow_rd (x : Nat) : (s.setNow x).rd = s.rd := rfl
@[simp] theorem State.setNow_cu (x : Nat) : (s.setNow x).cu = s.cu := rfl
@[simp] theorem State.setNow_pi (x : Nat) : (s.setNow x).pi = s.pi := rfl
@[simp] theorem State.setNow_pending (x : Nat) : (s.setNow x).pending = s.pending := rfl
@[simp] theorem State.setChoices_now (x : Nat) : (s.setChoices x).now = s.now := rfl
@[simp] theorem State.setChoices_choices (x : Nat) : (s.setChoices x).choices = x := rfl
@[simp] theorem State.setChoices_fu (x : Nat) : (s.setChoices x).fu = s.fu := rfl
@[simp] theorem State.setChoices_ps (x : Nat) : (s.setChoices x).ps = s.ps := rfl
@[simp] theorem State.setChoices_jc (x : Nat) : (s.setChoices x).jc = s.jc := rfl
@[simp] theorem State.setChoices_lc (x : Nat) : (s.setChoices x).lc = s.lc := rfl
@[simp] theorem State.setChoices_pt (x : Nat) : (s.setChoices x).pt = s.pt := rfl
@[simp] theorem State.setChoices_sg (x : Nat) : (s.setChoices x).sg = s.sg := rfl
@[simp] theorem State.setChoices_ct (x : Nat) : (s.setChoices x).ct = s.ct := rfl
@[simp] theorem State.setChoices_hu (x : Nat) : (s.setChoices x).hu = s.hu := rfl
@[simp] theorem State.setChoices_ie (x : Nat) : (s.setChoices x).ie = s.ie := rfl
@[simp] theorem State.setChoices_ks (x : Nat) : (s.setChoices x).ks = s.ks := rfl
@[simp] theorem State.setChoices_rd (x : Nat) : (s.setChoices x).rd = s.rd := rfl
@[simp] theorem State.setChoices_cu (x : Nat) : (s.setChoices x).cu = s.cu := rfl
@[simp] theorem State.setChoices_pi (x : Nat) : (s.setChoices x).pi = s.pi := rfl
@[simp] theorem State.setChoices_pending (x : Nat) : (s.setChoices x).pending = s.pending := rfl
@[simp] theorem State.setFu_now (x : FreqUnit) : (s.setFu x).now = s.now := rfl
@[simp] theorem State.setFu_choices (x : FreqUnit) : (s.setFu x).choices = s.choices := rfl
@[simp] theorem State.setFu_fu (x : FreqUnit) : (s.setFu x).fu = x := rfl
@[simp] theorem State.setFu_ps (x : FreqUnit) : (s.setFu x).ps = s.ps := rfl
@[simp] theorem State.setFu_jc (x : FreqUnit) : (s.setFu x).jc = s.jc := rfl
@[simp] theorem State.setFu_lc (x : FreqUnit) : (s.setFu x).lc = s.lc := rfl
@[simp] theorem State.setFu_pt (x : FreqUnit) : (s.setFu x).pt = s.pt := rfl
@[simp] theorem State.setFu_sg (x : FreqUnit) : (s.setFu x).sg = s.sg := rfl
@[simp] theorem State.setFu_ct (x : FreqUnit) : (s.setFu x).ct = s.ct := rfl
@[simp] theorem State.setFu_hu (x : FreqUnit) : (s.setFu x).hu = s.hu := rfl
@[simp] theorem State.setFu_ie (x : FreqUnit) : (s.setFu x).ie = s.ie := rfl
@[simp] theorem State.setFu_ks (x : FreqUnit) : (s.setFu x).ks = s.ks := rfl
@[simp] theorem State.setFu_rd (x : FreqUnit) : (s.setFu x).rd = s.rd := rfl
@[simp] theorem State.setFu_cu (x : FreqUnit) : (s.setFu x).cu = s.cu := rfl
@[simp] theorem State.setFu_pi (x : FreqUnit) : (s.setFu x).pi = s.pi := rfl
@[simp] theorem State.setFu_pending (x : FreqUnit) : (s.setFu x).pending = s.pending := rfl
@[simp] theorem State.setPs_now (x : PlanStore) : (s.setPs x).now = s.now := rfl
@[simp] theorem State.setPs_choices (x : PlanStore) : (s.setPs x).choices = s.choices := rfl
@[simp] theorem State.setPs_fu (x : PlanStore) : (s.setPs x).fu = s.fu := rfl
@[simp] theorem State.setPs_ps (x : PlanStore) : (s.setPs x).ps = x := rfl
@[simp] theorem State.setPs_jc (x : PlanStore) : (s.setPs x).jc = s.jc := rfl
@[simp] theorem State.setPs_lc (x : PlanStore) : (s.setPs x).lc = s.lc := rfl
@[simp] theorem State.setPs_pt (x : PlanStore) : (s.setPs x).pt = s.pt := rfl
@[simp] theorem State.setPs_sg (x : PlanStore) : (s.setPs x).sg = s.sg := rfl
@[simp] theorem State.setPs_ct (x : PlanStore) : (s.setPs x).ct = s.ct := rfl
@[simp] theorem State.setPs_hu (x : PlanStore) : (s.setPs x).hu = s.hu := rfl
@[simp] theorem State.setPs_ie (x : PlanStore) : (s.setPs x).ie = s.ie := rfl
@[simp] theorem State.setPs_ks (x : PlanStore) : (s.setPs x).ks = s.ks := rfl
@[simp] theorem State.setPs_rd (x : PlanStore) : (s.setPs x).rd = s.rd := rfl
@[simp] theorem State.setPs_cu (x : PlanStore) : (s.setPs x).cu = s.cu := rfl
@[simp] theorem State.setPs_pi (x : PlanStore) : (s.setPs x).pi = s.pi := rfl
@[simp] theorem State.setPs_pending (x : PlanStore) : (s.setPs x).pending = s.pending := rfl
@[simp] theorem State.setJc_now (x : JoinCtl) : (s.setJc x).now = s.now := rfl
@[simp] theorem State.setJc_choices (x : JoinCtl) : (s.setJc x).choices = s.choices := rfl
@[simp] theorem State.setJc_fu (x : JoinCtl) : (s.setJc x).fu = s.fu := rfl
@[simp] theorem State.setJc_ps (x : JoinCtl) : (s.setJc x).ps = s.ps := rfl
@[simp] theorem State.setJc_jc (x : JoinCtl) : (s.setJc x).jc = x := rfl
@[simp] theorem State.setJc_lc (x : JoinCtl) : (s.setJc x).lc = s.lc := rfl
@[simp] theorem State.setJc_pt (x : JoinCtl) : (s.setJc x).pt = s.pt := rfl
@[simp] theorem State.setJc_sg (x : JoinCtl) : (s.setJc x).sg = s.sg := rfl
@[simp] theorem State.setJc_ct (x : JoinCtl) : (s.setJc x).ct = s.ct := rfl
@[simp] theorem State.setJc_hu (x : JoinCtl) : (s.setJc x).hu = s.hu := rfl
@[simp] theorem State.setJc_ie (x : JoinCtl) : (s.setJc x).ie = s.ie := rfl
@[simp] theorem State.setJc_ks (x : JoinCtl) : (s.setJc x).ks = s.ks := rfl
@[simp] theorem State.setJc_rd (x : JoinCtl) : (s.setJc x).rd = s.rd := rfl
@[simp] theorem State.setJc_cu (x : JoinCtl) : (s.setJc x).cu = s.cu := rfl
@[simp] theorem State.setJc_pi (x : JoinCtl) : (s.setJc x).pi = s.pi := rfl
@[simp] theorem State.setJc_pending (x : JoinCtl) : (s.setJc x).pending = s.pending := rfl
@[simp] theorem State.setLc_now (x : LinkCtl) : (s.setLc x).now = s.now := rfl
@[simp] theorem State.setLc_choices (x : LinkCtl) : (s.setLc x).choices = s.choices := rfl
@[simp] theorem State.setLc_fu (x : LinkCtl) : (s.setLc x).fu = s.fu := rfl
@[simp] theorem State.setLc_ps (x : LinkCtl) : (s.setLc x).ps = s.ps := rfl
@[simp] theorem State.setLc_jc (x : LinkCtl) : (s.setLc x).jc = s.jc := rfl
@[simp] theorem State.setLc_lc (x : LinkCtl) : (s.setLc x).lc = x := rfl
@[simp] theorem State.setLc_pt (x : LinkCtl) : (s.setLc x).pt = s.pt := rfl
@[simp] theorem State.setLc_sg (x : LinkCtl) : (s.setLc x).sg = s.sg := rfl
@[simp] theorem State.setLc_ct (x : LinkCtl) : (s.setLc x).ct = s.ct := rfl
@[simp] theorem State.setLc_hu (x : LinkCtl) : (s.setLc x).hu = s.hu := rfl
@[simp] theorem State.setLc_ie (x : LinkCtl) : (s.setLc x).ie = s.ie := rfl
@[simp] theorem State.setLc_ks (x : LinkCtl) : (s.setLc x).ks = s.ks := rfl
@[simp] theorem State.setLc_rd (x : LinkCtl) : (s.setLc x).rd = s.rd := rfl
@[simp] theorem State.setLc_cu (x : LinkCtl) : (s.setLc x).cu = s.cu := rfl
@[simp] theorem State.setLc_pi (x : LinkCtl) : (s.setLc x).pi = s.pi := rfl
@[simp] theorem State.setLc_pending (x : LinkCtl) : (s.setLc x).pending = s.pending := rfl
@[simp] theorem State.setPt_now (x : PeerTable) : (s.setPt x).now = s.now := rfl
@[simp] theorem State.setPt_choices (x : PeerTable) : (s.setPt x).choices = s.choices := rfl
@[simp] theorem State.setPt_fu (x : PeerTable) : (s.setPt x).fu = s.fu := rfl
@[simp] theorem State.setPt_ps (x : PeerTable) : (s.setPt x).ps = s.ps := rfl
@[simp] theorem State.setPt_jc (x : PeerTable) : (s.setPt x).jc = s.jc := rfl
@[simp] theorem State.setPt_lc (x : PeerTable) : (s.setPt x).lc = s.lc := rfl
@[simp] theorem State.setPt_pt (x : PeerTable) : (s.setPt x).pt = x := rfl
@[simp] theorem State.setPt_sg (x : PeerTable) : (s.setPt x).sg = s.sg := rfl
@[simp] theorem State.setPt_ct (x : PeerTable) : (s.setPt x).ct = s.ct := rfl
@[simp] theorem State.setPt_hu (x : PeerTable) : (s.setPt x).hu = s.hu := rfl
@[simp] theorem State.setPt_ie (x : PeerTable) : (s.setPt x).ie = s.ie := rfl
@[simp] theorem State.setPt_ks (x : PeerTable) : (s.setPt x).ks = s.ks := rfl
@[simp] theorem State.setPt_rd (x : PeerTable) : (s.setPt x).rd = s.rd := rfl
@[simp] theorem State.setPt_cu (x : PeerTable) : (s.setPt x).cu = s.cu := rfl
@[simp] theorem State.setPt_pi (x : PeerTable) : (s.setPt x).pi = s.pi := rfl
@[simp] theorem State.setPt_pending (x : PeerTable) : (s.setPt x).pending = s.pending := rfl
@[simp] theorem State.setSg_now (x : StatusGen) : (s.setSg x).now = s.now := rfl
@[simp] theorem State.setSg_choices (x : StatusGen) : (s.setSg x).choices = s.choices := rfl
@[simp] theorem State.setSg_fu (x : StatusGen) : (s.setSg x).fu = s.fu := rfl
@[simp] theorem State.setSg_ps (x : StatusGen) : (s.setSg x).ps = s.ps := rfl
@[simp] theorem State.setSg_jc (x : StatusGen) : (s.setSg x).jc = s.jc := rfl
@[simp] theorem State.setSg_lc (x : StatusGen) : (s.setSg x).lc = s.lc := rfl
@[simp] theorem State.setSg_pt (x : StatusGen) : (s.setSg x).pt = s.pt := rfl
@[simp] theorem State.setSg_sg (x : StatusGen) : (s.setSg x).sg = x := rfl
@[simp] theorem State.setSg_ct (x : StatusGen) : (s.setSg x).ct = s.ct := rfl
@[simp] theorem State.setSg_hu (x : StatusGen) : (s.setSg x).hu = s.hu := rfl
@[simp] theorem State.setSg_ie (x : StatusGen) : (s.setSg x).ie = s.ie := rfl
@[simp] theorem State.setSg_ks (x : StatusGen) : (s.setSg x).ks = s.ks := rfl
@[simp] theorem State.setSg_rd (x : StatusGen) : (s.setSg x).rd = s.rd := rfl
@[simp] theorem State.setSg_cu (x : StatusGen) : (s.setSg x).cu = s.cu := rfl
@[simp] theorem State.setSg_pi (x : StatusGen) : (s.setSg x).pi = s.pi := rfl
@[simp] theorem State.setSg_pending (x : StatusGen) : (s.setSg x).pending = s.pending := rfl
@[simp] theorem State.setCt_now (x : ClaimTable) : (s.setCt x).now = s.now := rfl
@[simp] theorem State.setCt_choices (x : ClaimTable) : (s.setCt x).choices = s.choices := rfl
@[simp] theorem State.setCt_fu (x : ClaimTable) : (s.setCt x).fu = s.fu := rfl
@[simp] theorem State.setCt_ps (x : ClaimTable) : (s.setCt x).ps = s.ps := rfl
@[simp] theorem State.setCt_jc (x : ClaimTable) : (s.setCt x).jc = s.jc := rfl
@[simp] theorem State.setCt_lc (x : ClaimTable) : (s.setCt x).lc = s.lc := rfl
@[simp] theorem State.setCt_pt (x : ClaimTable) : (s.setCt x).pt = s.pt := rfl
@[simp] theorem State.setCt_sg (x : ClaimTable) : (s.setCt x).sg = s.sg := rfl
@[simp] theorem State.setCt_ct (x : ClaimTable) : (s.setCt x).ct = x := rfl
@[simp] theorem State.setCt_hu (x : ClaimTable) : (s.setCt x).hu = s.hu := rfl
@[simp] theorem State.setCt_ie (x : ClaimTable) : (s.setCt x).ie = s.ie := rfl
@[simp] theorem State.setCt_ks (x : ClaimTable) : (s.setCt x).ks = s.ks := rfl
@[simp] theorem State.setCt_rd (x : ClaimTable) : (s.setCt x).rd = s.rd := rfl
@[simp] theorem State.setCt_cu (x : ClaimTable) : (s.setCt x).cu = s.cu := rfl
@[simp] theorem State.setCt_pi (x : ClaimTable) : (s.setCt x).pi = s.pi := rfl
@[simp] theorem State.setCt_pending (x : ClaimTable) : (s.setCt x).pending = s.pending := rfl
@[simp] theorem State.setHu_now (x : HandOver) : (s.setHu x).now = s.now := rfl
@[simp] theorem State.setHu_choices (x : HandOver) : (s.setHu x).choices = s.choices := rfl
@[simp] theorem State.setHu_fu (x : HandOver) : (s.setHu x).fu = s.fu := rfl
@[simp] theorem State.setHu_ps (x : HandOver) : (s.setHu x).ps = s.ps := rfl
@[simp] theorem State.setHu_jc (x : HandOver) : (s.setHu x).jc = s.jc := rfl
@[simp] theorem State.setHu_lc (x : HandOver) : (s.setHu x).lc = s.lc := rfl
@[simp] theorem State.setHu_pt (x : HandOver) : (s.setHu x).pt = s.pt := rfl
@[simp] theorem State.setHu_sg (x : HandOver) : (s.setHu x).sg = s.sg := rfl
@[simp] theorem State.setHu_ct (x : HandOver) : (s.setHu x).ct = s.ct := rfl
@[simp] theorem State.setHu_hu (x : HandOver) : (s.setHu x).hu = x := rfl
@[simp] theorem State.setHu_ie (x : HandOver) : (s.setHu x).ie = s.ie := rfl
@[simp] theorem State.setHu_ks (x : HandOver) : (s.setHu x).ks = s.ks := rfl
@[simp] theorem State.setHu_rd (x : HandOver) : (s.setHu x).rd = s.rd := rfl
@[simp] theorem State.setHu_cu (x : HandOver) : (s.setHu x).cu = s.cu := rfl
@[simp] theorem State.setHu_pi (x : HandOver) : (s.setHu x).pi = s.pi := rfl
@[simp] theorem State.setHu_pending (x : HandOver) : (s.setHu x).pending = s.pending := rfl
@[simp] theorem State.setIe_now (x : Interlock) : (s.setIe x).now = s.now := rfl
@[simp] theorem State.setIe_choices (x : Interlock) : (s.setIe x).choices = s.choices := rfl
@[simp] theorem State.setIe_fu (x : Interlock) : (s.setIe x).fu = s.fu := rfl
@[simp] theorem State.setIe_ps (x : Interlock) : (s.setIe x).ps = s.ps := rfl
@[simp] theorem State.setIe_jc (x : Interlock) : (s.setIe x).jc = s.jc := rfl
@[simp] theorem State.setIe_lc (x : Interlock) : (s.setIe x).lc = s.lc := rfl
@[simp] theorem State.setIe_pt (x : Interlock) : (s.setIe x).pt = s.pt := rfl
@[simp] theorem State.setIe_sg (x : Interlock) : (s.setIe x).sg = s.sg := rfl
@[simp] theorem State.setIe_ct (x : Interlock) : (s.setIe x).ct = s.ct := rfl
@[simp] theorem State.setIe_hu (x : Interlock) : (s.setIe x).hu = s.hu := rfl
@[simp] theorem State.setIe_ie (x : Interlock) : (s.setIe x).ie = x := rfl
@[simp] theorem State.setIe_ks (x : Interlock) : (s.setIe x).ks = s.ks := rfl
@[simp] theorem State.setIe_rd (x : Interlock) : (s.setIe x).rd = s.rd := rfl
@[simp] theorem State.setIe_cu (x : Interlock) : (s.setIe x).cu = s.cu := rfl
@[simp] theorem State.setIe_pi (x : Interlock) : (s.setIe x).pi = s.pi := rfl
@[simp] theorem State.setIe_pending (x : Interlock) : (s.setIe x).pending = s.pending := rfl
@[simp] theorem State.setKs_now (x : KeySeq) : (s.setKs x).now = s.now := rfl
@[simp] theorem State.setKs_choices (x : KeySeq) : (s.setKs x).choices = s.choices := rfl
@[simp] theorem State.setKs_fu (x : KeySeq) : (s.setKs x).fu = s.fu := rfl
@[simp] theorem State.setKs_ps (x : KeySeq) : (s.setKs x).ps = s.ps := rfl
@[simp] theorem State.setKs_jc (x : KeySeq) : (s.setKs x).jc = s.jc := rfl
@[simp] theorem State.setKs_lc (x : KeySeq) : (s.setKs x).lc = s.lc := rfl
@[simp] theorem State.setKs_pt (x : KeySeq) : (s.setKs x).pt = s.pt := rfl
@[simp] theorem State.setKs_sg (x : KeySeq) : (s.setKs x).sg = s.sg := rfl
@[simp] theorem State.setKs_ct (x : KeySeq) : (s.setKs x).ct = s.ct := rfl
@[simp] theorem State.setKs_hu (x : KeySeq) : (s.setKs x).hu = s.hu := rfl
@[simp] theorem State.setKs_ie (x : KeySeq) : (s.setKs x).ie = s.ie := rfl
@[simp] theorem State.setKs_ks (x : KeySeq) : (s.setKs x).ks = x := rfl
@[simp] theorem State.setKs_rd (x : KeySeq) : (s.setKs x).rd = s.rd := rfl
@[simp] theorem State.setKs_cu (x : KeySeq) : (s.setKs x).cu = s.cu := rfl
@[simp] theorem State.setKs_pi (x : KeySeq) : (s.setKs x).pi = s.pi := rfl
@[simp] theorem State.setKs_pending (x : KeySeq) : (s.setKs x).pending = s.pending := rfl
@[simp] theorem State.setRd_now (x : RelayDriver) : (s.setRd x).now = s.now := rfl
@[simp] theorem State.setRd_choices (x : RelayDriver) : (s.setRd x).choices = s.choices := rfl
@[simp] theorem State.setRd_fu (x : RelayDriver) : (s.setRd x).fu = s.fu := rfl
@[simp] theorem State.setRd_ps (x : RelayDriver) : (s.setRd x).ps = s.ps := rfl
@[simp] theorem State.setRd_jc (x : RelayDriver) : (s.setRd x).jc = s.jc := rfl
@[simp] theorem State.setRd_lc (x : RelayDriver) : (s.setRd x).lc = s.lc := rfl
@[simp] theorem State.setRd_pt (x : RelayDriver) : (s.setRd x).pt = s.pt := rfl
@[simp] theorem State.setRd_sg (x : RelayDriver) : (s.setRd x).sg = s.sg := rfl
@[simp] theorem State.setRd_ct (x : RelayDriver) : (s.setRd x).ct = s.ct := rfl
@[simp] theorem State.setRd_hu (x : RelayDriver) : (s.setRd x).hu = s.hu := rfl
@[simp] theorem State.setRd_ie (x : RelayDriver) : (s.setRd x).ie = s.ie := rfl
@[simp] theorem State.setRd_ks (x : RelayDriver) : (s.setRd x).ks = s.ks := rfl
@[simp] theorem State.setRd_rd (x : RelayDriver) : (s.setRd x).rd = x := rfl
@[simp] theorem State.setRd_cu (x : RelayDriver) : (s.setRd x).cu = s.cu := rfl
@[simp] theorem State.setRd_pi (x : RelayDriver) : (s.setRd x).pi = s.pi := rfl
@[simp] theorem State.setRd_pending (x : RelayDriver) : (s.setRd x).pending = s.pending := rfl
@[simp] theorem State.setCu_now (x : CommandUnit) : (s.setCu x).now = s.now := rfl
@[simp] theorem State.setCu_choices (x : CommandUnit) : (s.setCu x).choices = s.choices := rfl
@[simp] theorem State.setCu_fu (x : CommandUnit) : (s.setCu x).fu = s.fu := rfl
@[simp] theorem State.setCu_ps (x : CommandUnit) : (s.setCu x).ps = s.ps := rfl
@[simp] theorem State.setCu_jc (x : CommandUnit) : (s.setCu x).jc = s.jc := rfl
@[simp] theorem State.setCu_lc (x : CommandUnit) : (s.setCu x).lc = s.lc := rfl
@[simp] theorem State.setCu_pt (x : CommandUnit) : (s.setCu x).pt = s.pt := rfl
@[simp] theorem State.setCu_sg (x : CommandUnit) : (s.setCu x).sg = s.sg := rfl
@[simp] theorem State.setCu_ct (x : CommandUnit) : (s.setCu x).ct = s.ct := rfl
@[simp] theorem State.setCu_hu (x : CommandUnit) : (s.setCu x).hu = s.hu := rfl
@[simp] theorem State.setCu_ie (x : CommandUnit) : (s.setCu x).ie = s.ie := rfl
@[simp] theorem State.setCu_ks (x : CommandUnit) : (s.setCu x).ks = s.ks := rfl
@[simp] theorem State.setCu_rd (x : CommandUnit) : (s.setCu x).rd = s.rd := rfl
@[simp] theorem State.setCu_cu (x : CommandUnit) : (s.setCu x).cu = x := rfl
@[simp] theorem State.setCu_pi (x : CommandUnit) : (s.setCu x).pi = s.pi := rfl
@[simp] theorem State.setCu_pending (x : CommandUnit) : (s.setCu x).pending = s.pending := rfl
@[simp] theorem State.setPi_now (x : PanelIf) : (s.setPi x).now = s.now := rfl
@[simp] theorem State.setPi_choices (x : PanelIf) : (s.setPi x).choices = s.choices := rfl
@[simp] theorem State.setPi_fu (x : PanelIf) : (s.setPi x).fu = s.fu := rfl
@[simp] theorem State.setPi_ps (x : PanelIf) : (s.setPi x).ps = s.ps := rfl
@[simp] theorem State.setPi_jc (x : PanelIf) : (s.setPi x).jc = s.jc := rfl
@[simp] theorem State.setPi_lc (x : PanelIf) : (s.setPi x).lc = s.lc := rfl
@[simp] theorem State.setPi_pt (x : PanelIf) : (s.setPi x).pt = s.pt := rfl
@[simp] theorem State.setPi_sg (x : PanelIf) : (s.setPi x).sg = s.sg := rfl
@[simp] theorem State.setPi_ct (x : PanelIf) : (s.setPi x).ct = s.ct := rfl
@[simp] theorem State.setPi_hu (x : PanelIf) : (s.setPi x).hu = s.hu := rfl
@[simp] theorem State.setPi_ie (x : PanelIf) : (s.setPi x).ie = s.ie := rfl
@[simp] theorem State.setPi_ks (x : PanelIf) : (s.setPi x).ks = s.ks := rfl
@[simp] theorem State.setPi_rd (x : PanelIf) : (s.setPi x).rd = s.rd := rfl
@[simp] theorem State.setPi_cu (x : PanelIf) : (s.setPi x).cu = s.cu := rfl
@[simp] theorem State.setPi_pi (x : PanelIf) : (s.setPi x).pi = x := rfl
@[simp] theorem State.setPi_pending (x : PanelIf) : (s.setPi x).pending = s.pending := rfl
@[simp] theorem State.setPending_now (x : List Instr) : (s.setPending x).now = s.now := rfl
@[simp] theorem State.setPending_choices (x : List Instr) : (s.setPending x).choices = s.choices := rfl
@[simp] theorem State.setPending_fu (x : List Instr) : (s.setPending x).fu = s.fu := rfl
@[simp] theorem State.setPending_ps (x : List Instr) : (s.setPending x).ps = s.ps := rfl
@[simp] theorem State.setPending_jc (x : List Instr) : (s.setPending x).jc = s.jc := rfl
@[simp] theorem State.setPending_lc (x : List Instr) : (s.setPending x).lc = s.lc := rfl
@[simp] theorem State.setPending_pt (x : List Instr) : (s.setPending x).pt = s.pt := rfl
@[simp] theorem State.setPending_sg (x : List Instr) : (s.setPending x).sg = s.sg := rfl
@[simp] theorem State.setPending_ct (x : List Instr) : (s.setPending x).ct = s.ct := rfl
@[simp] theorem State.setPending_hu (x : List Instr) : (s.setPending x).hu = s.hu := rfl
@[simp] theorem State.setPending_ie (x : List Instr) : (s.setPending x).ie = s.ie := rfl
@[simp] theorem State.setPending_ks (x : List Instr) : (s.setPending x).ks = s.ks := rfl
@[simp] theorem State.setPending_rd (x : List Instr) : (s.setPending x).rd = s.rd := rfl
@[simp] theorem State.setPending_cu (x : List Instr) : (s.setPending x).cu = s.cu := rfl
@[simp] theorem State.setPending_pi (x : List Instr) : (s.setPending x).pi = s.pi := rfl
@[simp] theorem State.setPending_pending (x : List Instr) : (s.setPending x).pending = x := rfl

end Sys2Proof.Machine
end

