-- ==== Sys2Proof/Laws/Link.lean ====
section
/-! SUPPORT. Laws/Link.lean: what each operation of the transmit queue can do (R47 to R51): the frames in flight, the queue's order and its limits, and the Link Controller's other fields. -/

namespace Sys2Proof.Machine

@[simp] theorem flights_nil : flights [] = [] := rfl

theorem flights_cons (e : QueueEntry) (q : List QueueEntry) :
    flights (e :: q) = (if e.inFlight then [e.frame] else []) ++ flights q := by
  cases h : e.inFlight <;> simp [flights, h]

/-- Entering an unsent frame puts nothing into flight. -/
theorem flights_enqueue (f : LinkFrame) (w : Bool) (q : List QueueEntry) :
    flights (enqueue ⟨f, false, w⟩ q) = flights q := by
  induction q with
  | nil => simp [enqueue, flights]
  | cons x xs ih =>
    unfold enqueue
    split <;> simp [flights_cons, ih]

theorem flights_dropUnsent (p : LinkFrame → Bool) (q : List QueueEntry) :
    flights (dropUnsent p q) = flights q := by
  induction q with
  | nil => rfl
  | cons x xs ih =>
    unfold dropUnsent at *
    rcases hx : x.inFlight <;> rcases hp : p x.frame <;> simp_all [flights_cons]

theorem flights_replaceUnsent (p : LinkFrame → Bool) (f : LinkFrame) (q : List QueueEntry) :
    flights (replaceUnsent p f q) = flights q := by
  induction q with
  | nil => rfl
  | cons x xs ih =>
    unfold replaceUnsent at *
    rcases hx : x.inFlight <;> rcases hp : p x.frame <;> simp_all [flights_cons]

theorem flights_markFlying (p : LinkFrame → Bool) (q : List QueueEntry) :
    flights (markFlying p q) = flights q := by
  induction q with
  | nil => rfl
  | cons x xs ih =>
    unfold markFlying at *
    rcases hx : x.inFlight <;> rcases hp : p x.frame <;> simp_all [flights_cons]

/-- Two Link Controller states that differ at most in unsent frames, held offers, withdrawal marks and
the overflow count. -/
structure LinkKept (a b : LinkCtl) : Prop where
  receiver : b.receiver = a.receiver
  lineErrors : b.lineErrors = a.lineErrors
  level : b.level = a.level
  errorCount : b.errorCount = a.errorCount
  adaptation : b.adaptation = a.adaptation
  flights : flights b.queue = flights a.queue

theorem LinkKept.refl (a : LinkCtl) : LinkKept a a := ⟨rfl, rfl, rfl, rfl, rfl, rfl⟩

theorem LinkKept.trans {a b c : LinkCtl} (h : LinkKept a b) (k : LinkKept b c) : LinkKept a c :=
  ⟨k.receiver.trans h.receiver, k.lineErrors.trans h.lineErrors, k.level.trans h.level,
    k.errorCount.trans h.errorCount, k.adaptation.trans h.adaptation, k.flights.trans h.flights⟩

theorem LinkCtl.enter_kept (lc : LinkCtl) (f : LinkFrame) : LinkKept lc (lc.enter f).1 := by
  unfold LinkCtl.enter
  split
  · exact ⟨rfl, rfl, rfl, rfl, rfl, flights_enqueue ..⟩
  · split
    · exact ⟨rfl, rfl, rfl, rfl, rfl, (flights_enqueue ..).trans (flights_dropUnsent ..)⟩
    · exact ⟨rfl, rfl, rfl, rfl, rfl, rfl⟩

/-- An offer changes unsent frames, held offers and the overflow count alone (R47 to R50). -/
theorem LinkCtl.offer_kept (lc : LinkCtl) (f : LinkFrame) : LinkKept lc (lc.offer f).1 := by
  unfold LinkCtl.offer
  split
  · split
    · exact ⟨rfl, rfl, rfl, rfl, rfl, rfl⟩
    · split
      · exact ⟨rfl, rfl, rfl, rfl, rfl, flights_replaceUnsent ..⟩
      · exact LinkCtl.enter_kept lc f
  · split
    · exact ⟨rfl, rfl, rfl, rfl, rfl, rfl⟩
    · split
      · split
        · exact ⟨rfl, rfl, rfl, rfl, rfl, flights_dropUnsent ..⟩
        · exact ⟨rfl, rfl, rfl, rfl, rfl, flights_replaceUnsent ..⟩
      · exact LinkCtl.enter_kept lc f
  · split
    · exact ⟨rfl, rfl, rfl, rfl, rfl, flights_dropUnsent ..⟩
    · exact LinkCtl.enter_kept lc f
  · exact LinkCtl.enter_kept lc f

theorem LinkCtl.withdraw_kept (lc : LinkCtl) (p : LinkFrame → Bool) : LinkKept lc (lc.withdraw p) :=
  ⟨rfl, rfl, rfl, rfl, rfl, (flights_markFlying ..).trans (flights_dropUnsent ..)⟩

/-! ### Lengths -/

@[simp] theorem enqueue_length (e : QueueEntry) (q : List QueueEntry) :
    (enqueue e q).length = q.length + 1 := by
  induction q with
  | nil => rfl
  | cons x xs ih => unfold enqueue; split <;> simp [ih]

theorem mem_enqueue {e x : QueueEntry} {q : List QueueEntry} : x ∈ enqueue e q ↔ x = e ∨ x ∈ q := by
  induction q with
  | nil => simp [enqueue]
  | cons y ys ih => unfold enqueue; split <;> simp [ih]; tauto

theorem dropUnsent_length_le (p : LinkFrame → Bool) (q : List QueueEntry) :
    (dropUnsent p q).length ≤ q.length := List.length_filter_le ..

@[simp] theorem replaceUnsent_length (p : LinkFrame → Bool) (f : LinkFrame) (q : List QueueEntry) :
    (replaceUnsent p f q).length = q.length := by simp [replaceUnsent]

@[simp] theorem markFlying_length (p : LinkFrame → Bool) (q : List QueueEntry) :
    (markFlying p q).length = q.length := by simp [markFlying]

/-- Where an unsent frame satisfies p, dropping those frames makes room. -/
theorem dropUnsent_length_lt {p : LinkFrame → Bool} {q : List QueueEntry}
    (h : (unsent p q).isSome = true) : (dropUnsent p q).length < q.length := by
  simp only [unsent, Option.isSome_map, List.find?_isSome] at h
  obtain ⟨e, he, hp⟩ := h
  exact List.length_filter_lt_length_iff_exists.2 ⟨e, he, by simp_all⟩

/-- The queue stays within 8 frames over an offer (R47). -/
theorem LinkCtl.offer_length (lc : LinkCtl) (f : LinkFrame) (h : lc.queue.length ≤ 8) :
    (lc.offer f).1.queue.length ≤ 8 := by
  have enter : (lc.enter f).1.queue.length ≤ 8 := by
    unfold LinkCtl.enter
    split
    · simp; omega
    · split
      · rename_i hs
        simp only [Bool.and_eq_true, decide_eq_true_eq] at hs
        have := dropUnsent_length_lt hs.2
        simp; omega
      · exact h
  have drop (p : LinkFrame → Bool) := (dropUnsent_length_le p lc.queue).trans h
  unfold LinkCtl.offer
  split <;> repeat' split
  all_goals first | exact enter | exact h | exact drop _ | simpa using h

end Sys2Proof.Machine
end

