-- ==== Sys2Proof/Laws/Frame.lean ====
section
/-! SUPPORT. Laws/Frame.lean: what the blocks change when they take up one event's changes, said once: every reaction is a chain of the small moves below, and no chain of them touches what `Kept` lists. -/

namespace Sys2Proof.Machine

/-- One small change a block makes while it takes up an event's changes. -/
inductive Move : State → State → Prop
  | slot (s : State) (i : Slot) (r : SlotRecord) : Move s (s.setSlot i r)
  | waitList (s : State) (l : List WaitEntry) : Move s (s.setCt { s.ct with waitList := l })
  | maskUsed (s : State) : Move s (s.setCt { s.ct with panelMask := none })
  | passDue (s : State) (due : Bool) : Move s (s.owePass due)
  | offer (s : State) (f : LinkFrame) : Move s (s.offer f).1
  | withdraw (s : State) (p : LinkFrame → Bool) : Move s (s.withdraw p)
  | withdrawUnsent (s : State) (p : LinkFrame → Bool) : Move s (s.withdrawUnsent p)
  | givingDone (s : State) (p : Position) (l : List Antenna) : Move s (s.givingDone p l)
  | dropAsk (s : State) : Move s (s.setHu { s.hu with ask := .none })
  | dropLatch (s : State) : Move s (s.setHu { s.hu with latch := none })
  | outstanding (s : State) (x : Option (Cadence × Nat)) : Move s (s.setSg { s.sg with outstanding := x })
  | notified (s : State) (x : Slots Bool) : Move s (s.setSg { s.sg with notified := x })
  | liveSeen (s : State) : Move s (s.setPt { s.pt with liveSeen := true })
  | interlock (s : State) (x : Interlock) : Move s (s.setIe x)
  | sequencer (s : State) : Move s s.sequencerTold
  | relays (s : State) : Move s s.rdSync
  | probeOwed (s : State) (b : Bool) : Move s (s.setJc { s.jc with probeOwed := b })
  | panel (s : State) (x : PanelIf) (h : x.waitMode = s.pi.waitMode) : Move s (s.setPi x)
  | choices (s : State) (n : Nat) : Move s (s.setChoices n)

/-- A chain of small moves. -/
abbrev Moves : State → State → Prop := Relation.ReflTransGen Move

theorem Move.one {s t : State} (h : Move s t) : Moves s t := .single h

/-! ### A pass that is due for a refused CLAIM -/

@[simp] theorem State.owePass_ct (s : State) (due : Bool) : (s.owePass due).ct = { s.ct with passDue := due } := rfl
@[simp] theorem State.owePass_slot (s : State) (due : Bool) (i : Slot) : (s.owePass due).slot i = s.slot i := rfl
@[simp] theorem State.owePass_lc (s : State) (due : Bool) : (s.owePass due).lc = s.lc := rfl
@[simp] theorem State.owePass_pi (s : State) (due : Bool) : (s.owePass due).pi = s.pi := rfl

/-! ### Every reaction is a chain of moves -/

theorem foldl_moves {α : Type} (f : State → α → State) (h : ∀ s x, Moves s (f s x)) (l : List α) (s : State) :
    Moves s (l.foldl f s) := by
  induction l generalizing s with
  | nil => exact .refl
  | cons x xs ih => exact (h s x).trans (ih _)

theorem report_moves (s : State) (b : Block) (o : PanelOutcome) : Moves s (s.report b o) :=
  (Move.panel s { s.pi with answer := some ⟨.block b, o⟩ } rfl).one

theorem offerStatus_moves (s : State) : Moves s s.offerStatus := by
  unfold State.offerStatus
  split
  · exact (Move.offer s _).one.trans (Move.outstanding _ _).one
  · exact .refl

theorem offerRelease_moves (s : State) (i : Slot) (a : Antenna) (r : ReleaseReason) (y : Option Position) :
    Moves s (s.offerRelease i a r y).1 := by
  unfold State.offerRelease
  split
  · exact .refl
  · exact (Move.withdrawUnsent s _).one.trans (Move.offer _ _).one

theorem offerAssert_moves (s : State) (i : Slot) (a : Antenna) (m : Mask) (t : Nat) :
    Moves s (s.offerAssert i a m t) := by
  unfold State.offerAssert
  dsimp only
  split
  · exact (Move.offer s _).one
  · exact (Move.offer s _).one.trans (Move.slot _ _ _).one

theorem unwait_moves (s : State) (a : Antenna) : Moves s (s.unwait a) := (Move.waitList s _).one

theorem consumeMask_moves (s : State) (i : Slot) (a : Antenna) : Moves s (s.consumeMask i a) := by
  unfold State.consumeMask
  split
  · exact (Move.maskUsed s).one
  · exact .refl

theorem handOversLapse_moves (s : State) (h : HeldPart) : Moves s (s.handOversLapse h) := by
  unfold State.handOversLapse
  repeat' split
  all_goals first
    | exact .refl
    | exact (Move.givingDone _ _ _).one
    | exact (Move.givingDone _ _ _).one.trans (Move.givingDone _ _ _).one

theorem freeHold_moves (s : State) (i : Slot) (r : ReleaseReason) (y : Option Position) :
    Moves s (s.freeHold i r y) := by
  unfold State.freeHold
  split
  · exact .refl
  · exact (Move.slot s _ _).one.trans (handOversLapse_moves _ _)

theorem dropCandidate_moves (s : State) (i : Slot) (r : ReleaseReason) : Moves s (s.dropCandidate i r) := by
  unfold State.dropCandidate
  split
  · exact .refl
  · dsimp only
    split
    · exact (Move.slot s _ _).one.trans (Move.withdraw _ _).one
    · exact (Move.slot s _ _).one.trans (offerRelease_moves _ _ _ _ _)

theorem dropSlot_moves (s : State) (i : Slot) : Moves s (s.dropSlot i) :=
  (freeHold_moves s _ _ _).trans (dropCandidate_moves _ _ _)

theorem selfDrop_moves (s : State) (i : Slot) : Moves s (s.selfDrop i) := by
  unfold State.selfDrop
  dsimp only
  split
  · exact (freeHold_moves s _ _ _).trans (dropCandidate_moves _ _ _)
  · exact freeHold_moves s _ _ _

theorem startClaim_moves (s : State) (i : Slot) (a : Antenna) (m : Mask) (w : Bool) :
    Moves s (s.startClaim i a m w).1 := by
  unfold State.startClaim
  dsimp only
  have h := ((unwait_moves s a).trans (dropCandidate_moves _ i .voluntary)).trans
    ((Move.slot _ i { ((s.unwait a).dropCandidate i .voluntary).slot i with cand := some ⟨a, m, .queued, w, none, false⟩ }).one)
  split
  · exact ((h.trans (Move.offer _ _).one).trans (Move.slot _ _ _).one).trans (Move.passDue _ true).one
  · exact h.trans (Move.offer _ _).one

theorem placeWait_moves (s : State) (e : WaitEntry) : Moves s (s.placeWait e).1 := by
  unfold State.placeWait
  split
  · exact (Move.waitList s _).one
  · exact .refl

theorem newClaim_moves (s : State) (i : Slot) (a : Antenna) (m : Mask) (w al : Bool) :
    Moves s (s.newClaim i a m w al).1 := by
  unfold State.newClaim
  split
  · exact startClaim_moves ..
  · split
    · split
      · exact .refl
      · exact placeWait_moves ..
    · exact .refl

theorem startGrow_moves (s : State) (i : Slot) (h : HeldPart) (f : Mask) (x : Option Mask) :
    Moves s (s.startGrow i h f x).1 := by
  unfold State.startGrow
  split
  · exact .refl
  · dsimp only
    split
    · exact (Move.offer s _).one
    · exact (Move.offer s _).one.trans (Move.slot _ _ _).one

theorem reshape_moves (s : State) (h : HeldPart) (p r : Mask) : Moves s (s.reshape h p r).1 := by
  unfold State.reshape
  dsimp only
  repeat' split
  all_goals first
    | exact .refl
    | exact (Move.slot s _ _).one
    | exact startGrow_moves ..

theorem promote_moves (s : State) (n : Slot) : Moves s (s.promote n) := by
  unfold State.promote
  split
  · exact .refl
  · exact ((((dropCandidate_moves s _ _).trans (freeHold_moves _ _ _ _)).trans (Move.slot _ _ _).one).trans
      (Move.slot _ _ _).one).trans (offerAssert_moves ..)

theorem requestPromotion_moves (s : State) (n : Slot) (a : Antenna) : Moves s (s.requestPromotion n a).1 := by
  unfold State.requestPromotion
  repeat' split
  all_goals first
    | exact .refl
    | exact promote_moves ..

theorem request_moves (s : State) (i : Slot) (a : Antenna) (w al : Bool) : Moves s (s.request i a w al).1 := by
  unfold State.request
  dsimp only
  repeat' split
  all_goals first
    | exact requestPromotion_moves ..
    | exact consumeMask_moves ..
    | exact (consumeMask_moves s _ _).trans (reshape_moves ..)
    | exact (consumeMask_moves s _ _).trans (newClaim_moves ..)

theorem serveEntry_moves (s : State) (e : WaitEntry) : Moves s (s.serveEntry e).1 := by
  unfold State.serveEntry
  dsimp only
  repeat' split
  all_goals first
    | exact .refl
    | exact (consumeMask_moves s _ _).trans (startClaim_moves ..)
    | exact ((consumeMask_moves s _ _).trans (startClaim_moves ..)).trans (report_moves ..)
    | exact (unwait_moves s _).trans (report_moves ..)

theorem serveEntries_moves (l : List WaitEntry) (s : State) : Moves s (s.serveEntries l).1 := by
  induction l generalizing s with
  | nil => exact .refl
  | cons e es ih => exact (serveEntry_moves s e).trans (ih _)

theorem servicePasses_moves (n : Nat) (s : State) : Moves s (servicePasses n s) := by
  induction n generalizing s with
  | zero => exact .refl
  | succ n ih =>
    unfold servicePasses
    split
    · dsimp only
      split
      · exact (serveEntries_moves _ s).trans (ih _)
      · exact serveEntries_moves _ s
    · exact .refl

theorem servicePass_moves (s : State) : Moves s s.servicePass := servicePasses_moves _ s

theorem showRefusal_moves (s : State) (r : State × PanelOutcome) (h : Moves s r.1) :
    Moves s (State.showRefusal r) := by
  unfold State.showRefusal
  split
  · exact h.trans (report_moves ..)
  · exact h

theorem autoSelect_moves (s : State) : Moves s s.autoSelect := by
  unfold State.autoSelect
  dsimp only
  split
  · exact .refl
  · split
    · exact (dropCandidate_moves s _ _).trans (promote_moves ..)
    · split
      · exact dropCandidate_moves s _ _
      · exact (dropCandidate_moves s _ _).trans (showRefusal_moves _ _ (request_moves ..))

theorem giveMember_moves (s : State) (i : Slot) (a : Antenna) (p : Position) : Moves s (s.giveMember i a p) := by
  unfold State.giveMember
  dsimp only
  repeat' split
  all_goals first
    | exact .refl
    | exact (Move.slot s _ _).one
    | exact (Move.givingDone s _ _).one
    | exact freeHold_moves ..

theorem driveStep_moves (s : State) : Moves s s.driveStep := by
  unfold State.driveStep
  repeat' split
  all_goals first
    | exact .refl
    | exact (Move.slot s _ _).one

theorem shrinkStep_moves (s : State) (i : Slot) : Moves s (s.shrinkStep i) := by
  unfold State.shrinkStep
  repeat' split
  all_goals try exact .refl
  · exact (Move.slot s _ _).one.trans (offerAssert_moves ..)
  · dsimp only
    refine (Move.slot s _ _).one.trans (foldl_moves _ (fun s a => ?_) _ _)
    split
    · exact (offerRelease_moves ..).trans (Move.givingDone _ _ _).one
    · exact offerRelease_moves ..

theorem giveStep_moves (s : State) (i : Slot) : Moves s (s.giveStep i) := by
  unfold State.giveStep
  repeat' split
  all_goals first
    | exact .refl
    | exact (Move.slot s _ _).one.trans (giveMember_moves ..)

theorem givingPartDone_moves (s : State) (p : FreeingPart) : Moves s (s.givingPartDone p) := by
  unfold State.givingPartDone
  split
  · exact (Move.givingDone s _ _).one
  · exact .refl

theorem releaseParts_moves (i : Slot) (l : List FreeingPart) (s : State) : Moves s (s.releaseParts i l).1 := by
  induction l generalizing s with
  | nil => exact .refl
  | cons p ps ih =>
    unfold State.releaseParts
    split
    · exact ih _
    · dsimp only
      split
      · exact ((offerRelease_moves ..).trans (givingPartDone_moves ..)).trans (ih _)
      · exact (offerRelease_moves ..).trans (ih _)

theorem freeingStep_moves (s : State) (i : Slot) : Moves s (s.freeingStep i) :=
  (releaseParts_moves i _ s).trans (Move.slot _ _ _).one

theorem slotProgress_moves (s : State) (i : Slot) : Moves s (s.slotProgress i) :=
  ((shrinkStep_moves s i).trans (giveStep_moves _ i)).trans (freeingStep_moves _ i)

theorem relayRound_moves (s : State) : Moves s s.relayRound :=
  ((driveStep_moves s).trans (foldl_moves _ slotProgress_moves _ _)).trans (Move.relays _).one

theorem relayReact_moves (s : State) : Moves s s.relayReact :=
  (((relayRound_moves s).trans (relayRound_moves _)).trans (relayRound_moves _)).trans (relayRound_moves _)

theorem huReact_moves (s : State) : Moves s s.huReact := by
  unfold State.huReact
  dsimp only
  repeat' split
  all_goals first
    | exact .refl
    | exact (Move.dropAsk s).one
    | exact (Move.dropLatch s).one
    | exact (Move.dropAsk s).one.trans (Move.dropLatch _).one

theorem ptReact_moves (s : State) : Moves s s.ptReact := by
  unfold State.ptReact
  split
  · exact (Move.liveSeen s).one
  · exact .refl

theorem sgReact_moves (before s : State) : Moves s (State.sgReact before s) := by
  unfold State.sgReact
  split
  · exact .refl
  · exact offerStatus_moves s

theorem interlockTurn_moves (s : State) : Moves s s.interlockTurn :=
  (Move.interlock s _).one.trans (Move.sequencer _).one

theorem turnIf_moves (s : State) (b : Bool) : Moves s (s.turnIf b) := by
  unfold State.turnIf
  split
  · exact interlockTurn_moves s
  · exact .refl

theorem serviceReact_moves (before s : State) : Moves s (State.serviceReact before s) := by
  refine Relation.ReflTransGen.trans ?_ (Move.passDue _ false).one
  split
  · exact servicePass_moves s
  · exact .refl

theorem serviceLeft_moves (before s : State) : Moves s (State.serviceLeft before s) := by
  refine Relation.ReflTransGen.trans ?_ (Move.passDue _ false).one
  split
  · exact servicePass_moves s
  · exact .refl

theorem autoReact_moves (before s : State) : Moves s (State.autoReact before s) := by
  unfold State.autoReact
  split
  · exact (autoSelect_moves s).trans (serviceLeft_moves _ _)
  · exact .refl

theorem selfDropNotice_moves (s : State) (i : Slot) : Moves s (s.selfDropNotice i) :=
  (Move.notified s _).one.trans (selfDrop_moves _ i)

theorem gainedReact_moves (before s : State) : Moves s (State.gainedReact before s) :=
  foldl_moves _ (fun s i => by
    split
    · exact selfDropNotice_moves s i
    · exact .refl) _ _

theorem ctReact_moves (before s : State) : Moves s (State.ctReact before s) :=
  (((serviceReact_moves before s).trans (autoReact_moves before _)).trans (gainedReact_moves before _)).trans
    (serviceLeft_moves _ _)

theorem offerProbe_moves (s : State) (n : Position) : Moves s (s.offerProbe n) :=
  (Move.offer s _).one.trans (Move.probeOwed _ _).one

theorem jcReact_moves (s : State) : Moves s s.jcReact := by
  unfold State.jcReact
  repeat' split
  all_goals first
    | exact .refl
    | exact offerProbe_moves s _

theorem startRecord_moves (s : State) : Moves s s.startRecord :=
  (Move.panel s { s.pi with
    last := some s.displayed, inFlight := true, pendingChange := false, refresh := s.timerFor (Config.sec 1) } rfl).one

theorem piReact_moves (before s : State) : Moves s (State.piReact before s) := by
  unfold State.piReact
  repeat' split
  all_goals first
    | exact .refl
    | exact startRecord_moves s
    | exact Move.one (Move.panel s _ (by rfl))

/-- After the marks and the recent-change timer, all that the blocks do with one event's changes is a
chain of moves. -/
theorem reactWith_moves (first middle : Bool) (heard : KeyHeard) (before s : State) :
    Moves (State.recentReact before (State.remark heard before s)) (reactWith first middle heard before s) :=
  (((((((((((ptReact_moves _).trans (turnIf_moves _ first)).trans (ctReact_moves before _)).trans
    (turnIf_moves _ middle)).trans (relayReact_moves _)).trans (huReact_moves _)).trans (jcReact_moves _)).trans
    (interlockTurn_moves _)).trans (sgReact_moves before _)).trans (piReact_moves before _)).trans
    (Move.choices _ _).one)

end Sys2Proof.Machine
end

