-- ==== Sys2Proof/Laws/Kept.lean ====
section
/-! SUPPORT. Laws/Kept.lean: what no small move, and so no reaction to an event, can touch: the frame of `commit`. -/

namespace Sys2Proof.Machine

/-- A sequencer state in which the Interlock Evaluator's word changes nothing (R147, R164, R167). -/
def SeqState.settled : SeqState → Bool
  | .receive | .announce | .tail | .lockout => true
  | .keyWait | .ampOn | .transmit => false

/-- What stays between two states of a step's reactions. -/
structure Kept (s t : State) : Prop where
  now : t.now = s.now
  fu : t.fu = s.fu
  ps : t.ps = s.ps
  cu : t.cu = s.cu
  pending : t.pending = s.pending
  join : t.jc = { s.jc with probeOwed := t.jc.probeOwed }
  records : t.pt.records = s.pt.records
  linkLost : t.pt.linkLost = s.pt.linkLost
  link : LinkKept s.lc t.lc
  running : t.sg.running = s.sg.running
  cadence : t.sg.cadence = s.sg.cadence
  slice : t.sg.slice = s.sg.slice
  interval : t.sg.interval = s.sg.interval
  obligation : t.sg.obligation = s.sg.obligation
  renewed : t.sg.renewed = s.sg.renewed
  recent : t.sg.recent = s.sg.recent
  relearn : t.ct.relearn = s.ct.relearn
  reservations : t.ct.reservations = s.ct.reservations
  panelMask : t.ct.panelMask = s.ct.panelMask ∨ t.ct.panelMask = none
  keepTimer : t.hu.keepTimer = s.hu.keepTimer
  ask : t.hu.ask = s.hu.ask ∨ t.hu.ask = .none
  latch : t.hu.latch = s.hu.latch ∨ t.hu.latch = none
  answer : t.hu.answer = s.hu.answer ∨
    (t.hu.answer = none ∧ ∃ p a, s.hu.answer = some ⟨p, a, .giving⟩)
  ptt : t.ks.ptt = s.ks.ptt
  keyTenure : t.ks.keyTenure = s.ks.keyTenure
  tenurePeriod : t.ks.tenurePeriod = s.ks.tenurePeriod
  keyTenureLink : t.ks.keyTenureLink = s.ks.keyTenureLink
  amp : t.ampKey = s.ampKey
  seqState : t.ks.state = s.ks.state ∨
    (s.ks.state = .keyWait ∧ (t.ks.state = .announce ∨ t.ks.state = .lockout)) ∨
    ((s.ks.state = .ampOn ∨ s.ks.state = .transmit) ∧ t.ks.state = .tail)
  sequencer : s.ks.state.settled = true → t.ks = s.ks
  waitMode : t.pi.waitMode = s.pi.waitMode
  relays : s.rd.state ≠ .steady → t.rd = { s.rd with target := t.rd.target }
  noneOn : t.rd.lines.diff s.rd.lines = .none
  mainStill : s.ampKey = true → t.rd.lines.and s.mainPath = s.rd.lines.and s.mainPath

theorem Lines.diff_self (x : Lines) : x.diff x = .none := by
  simp [Lines.diff, Lines.none]

theorem Kept.refl (s : State) : Kept s s := by
  constructor <;> first | rfl | exact .inl rfl | exact LinkKept.refl _ | exact fun _ => rfl | exact Lines.diff_self _

/-- The MAIN-path lines depend on the plan alone. -/
theorem mainPath_congr {s t : State} (h : t.ps = s.ps) : t.mainPath = s.mainPath := by
  have ha (a : Antenna) : t.antenna a = s.antenna a := by simp [State.antenna, h]
  simp [State.mainPath, State.auxPath, State.auxPathAnt, ha]

theorem Lines.diff_trans {x y z : Lines} (h : y.diff x = .none) (k : z.diff y = .none) : z.diff x = .none := by
  simp only [Lines.diff, Lines.none, Lines.mk.injEq] at *
  obtain ⟨h1, h2, h3, h4⟩ := h
  obtain ⟨k1, k2, k3, k4⟩ := k
  refine ⟨?_, ?_, ?_, ?_⟩
  · apply BitVec.eq_of_getLsbD_eq; intro i hi
    have a := congrArg (fun v => v.getLsbD i) h1
    have b := congrArg (fun v => v.getLsbD i) k1
    simp [hi] at a b ⊢; grind
  · apply BitVec.eq_of_getLsbD_eq; intro i hi
    have a := congrArg (fun v => v.getLsbD i) h2
    have b := congrArg (fun v => v.getLsbD i) k2
    simp [hi] at a b ⊢; grind
  · apply BitVec.eq_of_getLsbD_eq; intro i hi
    have a := congrArg (fun v => v.getLsbD i) h3
    have b := congrArg (fun v => v.getLsbD i) k3
    simp [hi] at a b ⊢; grind
  · apply BitVec.eq_of_getLsbD_eq; intro i hi
    have a := congrArg (fun v => v.getLsbD i) h4
    have b := congrArg (fun v => v.getLsbD i) k4
    simp [hi] at a b ⊢; grind

theorem Kept.trans {s t u : State} (h : Kept s t) (k : Kept t u) : Kept s u where
  now := k.now.trans h.now
  fu := k.fu.trans h.fu
  ps := k.ps.trans h.ps
  cu := k.cu.trans h.cu
  pending := k.pending.trans h.pending
  join := by rw [k.join, h.join]
  records := k.records.trans h.records
  linkLost := k.linkLost.trans h.linkLost
  link := h.link.trans k.link
  running := k.running.trans h.running
  cadence := k.cadence.trans h.cadence
  slice := k.slice.trans h.slice
  interval := k.interval.trans h.interval
  obligation := k.obligation.trans h.obligation
  renewed := k.renewed.trans h.renewed
  recent := k.recent.trans h.recent
  relearn := k.relearn.trans h.relearn
  reservations := k.reservations.trans h.reservations
  panelMask := by rcases k.panelMask with e | e <;> rcases h.panelMask with f | f <;> simp_all
  keepTimer := k.keepTimer.trans h.keepTimer
  ask := by rcases k.ask with e | e <;> rcases h.ask with f | f <;> simp_all
  latch := by rcases k.latch with e | e <;> rcases h.latch with f | f <;> simp_all
  answer := by
    rcases k.answer with e | ⟨e, p, a, e'⟩ <;> rcases h.answer with f | ⟨f, q, b, f'⟩
    · exact .inl (e.trans f)
    · exact .inr ⟨e.trans f, q, b, f'⟩
    · exact .inr ⟨e, p, a, f ▸ e'⟩
    · rw [f] at e'; cases e'
  ptt := k.ptt.trans h.ptt
  keyTenure := k.keyTenure.trans h.keyTenure
  tenurePeriod := k.tenurePeriod.trans h.tenurePeriod
  keyTenureLink := k.keyTenureLink.trans h.keyTenureLink
  amp := k.amp.trans h.amp
  seqState := by
    rcases k.seqState with e | ⟨e, e'⟩ | ⟨e | e, e'⟩ <;>
      rcases h.seqState with f | ⟨f, f' | f'⟩ | ⟨f | f, f'⟩ <;> simp_all
  sequencer := fun hs => by
    have e := h.sequencer hs
    exact (k.sequencer (by rw [e]; exact hs)).trans e
  waitMode := k.waitMode.trans h.waitMode
  relays := fun hs => by
    have e := h.relays hs
    have f := k.relays (by rw [e]; exact hs)
    rw [f, e]
  noneOn := Lines.diff_trans h.noneOn k.noneOn
  mainStill := fun hs => by
    have e := k.mainStill (h.amp.trans hs)
    rw [mainPath_congr h.ps] at e
    exact e.trans (h.mainStill hs)

/-! ### One move -/

/-- A state with a change outside what Kept lists: the fields that may differ are given. -/
theorem Kept.of {s t : State} (now : t.now = s.now) (fu : t.fu = s.fu) (ps : t.ps = s.ps) (cu : t.cu = s.cu)
    (pending : t.pending = s.pending) (jc : t.jc = s.jc) (pt : t.pt = s.pt) (lc : t.lc = s.lc) (sg : t.sg = s.sg)
    (ct : t.ct = s.ct) (hu : t.hu = s.hu) (ks : t.ks = s.ks) (rd : t.rd = s.rd)
    (wait : t.pi.waitMode = s.pi.waitMode) : Kept s t := by
  constructor <;> simp_all [State.ampKey, LinkKept.refl, Lines.diff_self]

theorem Kept.ofSlots {s t : State} (now : t.now = s.now) (fu : t.fu = s.fu) (ps : t.ps = s.ps) (cu : t.cu = s.cu)
    (pending : t.pending = s.pending) (jc : t.jc = s.jc) (pt : t.pt = s.pt) (lc : t.lc = s.lc) (sg : t.sg = s.sg)
    (relearn : t.ct.relearn = s.ct.relearn) (res : t.ct.reservations = s.ct.reservations)
    (mask : t.ct.panelMask = s.ct.panelMask ∨ t.ct.panelMask = none)
    (hu : t.hu = s.hu) (ks : t.ks = s.ks) (rd : t.rd = s.rd) (pi : t.pi = s.pi) : Kept s t := by
  constructor <;> simp_all [State.ampKey, LinkKept.refl, Lines.diff_self]

theorem Kept.ofStatus {s t : State} (now : t.now = s.now) (fu : t.fu = s.fu) (ps : t.ps = s.ps) (cu : t.cu = s.cu)
    (pending : t.pending = s.pending) (jc : t.jc = s.jc) (pt : t.pt = s.pt) (lc : LinkKept s.lc t.lc)
    (sg : t.sg.running = s.sg.running ∧ t.sg.cadence = s.sg.cadence ∧ t.sg.slice = s.sg.slice ∧
      t.sg.interval = s.sg.interval ∧ t.sg.obligation = s.sg.obligation ∧ t.sg.renewed = s.sg.renewed ∧
      t.sg.recent = s.sg.recent)
    (ct : t.ct = s.ct) (hu : t.hu = s.hu) (ks : t.ks = s.ks) (rd : t.rd = s.rd) (pi : t.pi = s.pi) : Kept s t := by
  constructor <;> simp_all [State.ampKey, Lines.diff_self]

theorem Kept.ofHandOver {s t : State} (now : t.now = s.now) (fu : t.fu = s.fu) (ps : t.ps = s.ps) (cu : t.cu = s.cu)
    (pending : t.pending = s.pending) (jc : t.jc = s.jc) (pt : t.pt = s.pt) (lc : t.lc = s.lc) (sg : t.sg = s.sg)
    (ct : t.ct = s.ct) (ks : t.ks = s.ks) (rd : t.rd = s.rd) (pi : t.pi = s.pi)
    (keep : t.hu.keepTimer = s.hu.keepTimer) (ask : t.hu.ask = s.hu.ask ∨ t.hu.ask = .none)
    (latch : t.hu.latch = s.hu.latch ∨ t.hu.latch = none)
    (answer : t.hu.answer = s.hu.answer ∨ (t.hu.answer = none ∧ ∃ p a, s.hu.answer = some ⟨p, a, .giving⟩)) :
    Kept s t := by
  constructor <;> simp_all [State.ampKey, LinkKept.refl, Lines.diff_self]

theorem setSlot_kept (s : State) (i : Slot) (r : SlotRecord) : Kept s (s.setSlot i r) :=
  Kept.ofSlots rfl rfl rfl rfl rfl rfl rfl rfl rfl rfl rfl (.inl rfl) rfl rfl rfl rfl

theorem offer_kept (s : State) (f : LinkFrame) : Kept s (s.offer f).1 := by
  unfold State.offer
  dsimp only
  split
  · exact Kept.ofStatus rfl rfl rfl rfl rfl rfl rfl (LinkCtl.offer_kept s.lc f) ⟨rfl, rfl, rfl, rfl, rfl, rfl, rfl⟩
      rfl rfl rfl rfl rfl
  · exact Kept.ofStatus rfl rfl rfl rfl rfl rfl rfl (LinkCtl.offer_kept s.lc f) ⟨rfl, rfl, rfl, rfl, rfl, rfl, rfl⟩
      rfl rfl rfl rfl rfl

theorem withdraw_kept (s : State) (p : LinkFrame → Bool) : Kept s (s.withdraw p) :=
  Kept.ofStatus rfl rfl rfl rfl rfl rfl rfl (LinkCtl.withdraw_kept s.lc p) ⟨rfl, rfl, rfl, rfl, rfl, rfl, rfl⟩
    rfl rfl rfl rfl rfl

theorem withdrawUnsent_kept (s : State) (p : LinkFrame → Bool) : Kept s (s.withdrawUnsent p) :=
  Kept.ofStatus rfl rfl rfl rfl rfl rfl rfl ⟨rfl, rfl, rfl, rfl, rfl, flights_dropUnsent ..⟩
    ⟨rfl, rfl, rfl, rfl, rfl, rfl, rfl⟩ rfl rfl rfl rfl rfl

theorem givingDone_kept (s : State) (p : Position) (l : List Antenna) : Kept s (s.givingDone p l) := by
  unfold State.givingDone
  split
  · split
    · exact Kept.ofHandOver rfl rfl rfl rfl rfl rfl rfl rfl rfl rfl rfl rfl rfl rfl (.inl rfl) (.inl rfl)
        (.inr ⟨rfl, _, _, by assumption⟩)
    · exact Kept.refl s
  · exact Kept.refl s

/-! The Key Sequencer and its offers. -/

/-- What changes in the Key Sequencer, the rest of the part keeping all but its queue. -/
theorem Kept.ofKeys {s t : State} (now : t.now = s.now) (fu : t.fu = s.fu) (ps : t.ps = s.ps) (cu : t.cu = s.cu)
    (pending : t.pending = s.pending) (jc : t.jc = s.jc) (pt : t.pt = s.pt) (lc : LinkKept s.lc t.lc)
    (sg : t.sg.running = s.sg.running ∧ t.sg.cadence = s.sg.cadence ∧ t.sg.slice = s.sg.slice ∧
      t.sg.interval = s.sg.interval ∧ t.sg.obligation = s.sg.obligation ∧ t.sg.renewed = s.sg.renewed ∧
      t.sg.recent = s.sg.recent)
    (ct : t.ct = s.ct) (hu : t.hu = s.hu) (rd : t.rd = s.rd) (pi : t.pi = s.pi)
    (held : t.ks.ptt = s.ks.ptt ∧ t.ks.keyTenure = s.ks.keyTenure ∧ t.ks.tenurePeriod = s.ks.tenurePeriod ∧
      t.ks.keyTenureLink = s.ks.keyTenureLink)
    (state : (s.ks.state = .keyWait ∧ (t.ks.state = .announce ∨ t.ks.state = .lockout ∨ t.ks.state = .keyWait)) ∨
      ((s.ks.state = .ampOn ∨ s.ks.state = .transmit) ∧ t.ks.state = .tail)) : Kept s t := by
  constructor <;> try simp_all [Lines.diff_self]
  · rcases state with ⟨e, f | f | f⟩ | ⟨e | e, f⟩ <;> simp [State.ampKey, e, f]
  · rcases state with ⟨e, f | f | f⟩ | ⟨e | e, f⟩ <;> simp [e, f]
  · rcases state with ⟨e, f | f | f⟩ | ⟨e | e, f⟩ <;> simp [SeqState.settled, e]

/-- An offered KEY changes the queue and the outstanding marks alone. -/
theorem offerKey_fields (s : State) (f : LinkFrame) :
    (s.offerKey f).1.now = s.now ∧ (s.offerKey f).1.fu = s.fu ∧ (s.offerKey f).1.ps = s.ps ∧
    (s.offerKey f).1.cu = s.cu ∧ (s.offerKey f).1.pending = s.pending ∧ (s.offerKey f).1.jc = s.jc ∧
    (s.offerKey f).1.pt = s.pt ∧ LinkKept s.lc (s.offerKey f).1.lc ∧
    ((s.offerKey f).1.sg.running = s.sg.running ∧ (s.offerKey f).1.sg.cadence = s.sg.cadence ∧
      (s.offerKey f).1.sg.slice = s.sg.slice ∧ (s.offerKey f).1.sg.interval = s.sg.interval ∧
      (s.offerKey f).1.sg.obligation = s.sg.obligation ∧ (s.offerKey f).1.sg.renewed = s.sg.renewed ∧
      (s.offerKey f).1.sg.recent = s.sg.recent) ∧
    (s.offerKey f).1.ct = s.ct ∧ (s.offerKey f).1.hu = s.hu ∧ (s.offerKey f).1.rd = s.rd ∧
    (s.offerKey f).1.pi = s.pi ∧
    (s.offerKey f).1.ks = { s.ks with keyOnOutstanding := (s.offerKey f).1.ks.keyOnOutstanding } := by
  have h := LinkCtl.offer_kept s.lc f
  by_cases hd : (s.lc.offer f).2 = .displacing <;> simp [State.offerKey, State.offer, State.syncKeyOn, hd, h]

/-- The judging of a press held in KEY-WAIT (R163, R164). -/
theorem judgePress_kept (s : State) (h : s.ks.state = .keyWait) : Kept s s.judgePress := by
  have key := offerKey_fields (s.setKs { s.ks with state := .announce })
    (s.keyFrame true false 0)
  have lock (t : State) (r : Option LockReason) : (t.lockOut r).ks.state = .lockout ∧
      (t.lockOut r).ks.ptt = t.ks.ptt ∧ (t.lockOut r).ks.keyTenure = t.ks.keyTenure ∧
      (t.lockOut r).ks.tenurePeriod = t.ks.tenurePeriod ∧ (t.lockOut r).ks.keyTenureLink = t.ks.keyTenureLink ∧
      (t.lockOut r) = t.setKs (t.lockOut r).ks := by
    unfold State.lockOut State.countRefusal
    split <;> simp [State.setKs]
  unfold State.judgePress
  split
  · split
    · exact Kept.ofKeys rfl rfl rfl rfl rfl rfl rfl (LinkKept.refl _) ⟨rfl, rfl, rfl, rfl, rfl, rfl, rfl⟩
        rfl rfl rfl rfl ⟨rfl, rfl, rfl, rfl⟩ (.inl ⟨h, .inr (.inr rfl)⟩)
    · unfold State.announceKey
      dsimp only
      generalize (s.setKs { s.ks with state := .announce }).offerKey
        (s.keyFrame true false 0) = r at key
      obtain ⟨k1, k2, k3, k4, k5, k6, k7, k8, k9, k10, k11, k12, k13, k14⟩ := key
      split
      · obtain ⟨e1, e2, e3, e4, e5, e6⟩ := lock r.1 (some .queue)
        rw [e6]
        refine Kept.ofKeys k1 k2 k3 k4 k5 k6 k7 k8 k9 k10 k11 k12 k13 ?_ (.inl ⟨h, .inr (.inl e1)⟩)
        rw [State.setKs_ks, e2, e3, e4, e5, k14]
        exact ⟨rfl, rfl, rfl, rfl⟩
      · refine Kept.ofKeys k1 k2 k3 k4 k5 k6 k7 k8 k9 k10 k11 k12 k13 ?_ (.inl ⟨h, .inl ?_⟩)
        · rw [k14]; exact ⟨rfl, rfl, rfl, rfl⟩
        · rw [k14]; rfl
  · have locked (r : Option LockReason) : Kept s (s.lockOut r) := by
      obtain ⟨e1, e2, e3, e4, e5, e6⟩ := lock s r
      rw [e6]
      exact Kept.ofKeys rfl rfl rfl rfl rfl rfl rfl (LinkKept.refl _) ⟨rfl, rfl, rfl, rfl, rfl, rfl, rfl⟩
        rfl rfl rfl rfl ⟨e2, e3, e4, e5⟩ (.inl ⟨h, .inr (.inl e1)⟩)
    split
    · exact Kept.ofKeys rfl rfl rfl rfl rfl rfl rfl (LinkKept.refl _) ⟨rfl, rfl, rfl, rfl, rfl, rfl, rfl⟩
        rfl rfl rfl rfl ⟨rfl, rfl, rfl, rfl⟩ (.inl ⟨h, .inr (.inr rfl)⟩)
    · exact locked _
    · exact locked _

/-- A KEY off offered keeps all but the queue and the outstanding marks. -/
theorem offerKeyOff_fields (s : State) :
    s.offerKeyOff.now = s.now ∧ s.offerKeyOff.fu = s.fu ∧ s.offerKeyOff.ps = s.ps ∧
    s.offerKeyOff.cu = s.cu ∧ s.offerKeyOff.pending = s.pending ∧ s.offerKeyOff.jc = s.jc ∧
    s.offerKeyOff.pt = s.pt ∧ LinkKept s.lc s.offerKeyOff.lc ∧
    (s.offerKeyOff.sg.running = s.sg.running ∧ s.offerKeyOff.sg.cadence = s.sg.cadence ∧
      s.offerKeyOff.sg.slice = s.sg.slice ∧ s.offerKeyOff.sg.interval = s.sg.interval ∧
      s.offerKeyOff.sg.obligation = s.sg.obligation ∧ s.offerKeyOff.sg.renewed = s.sg.renewed ∧
      s.offerKeyOff.sg.recent = s.sg.recent) ∧
    s.offerKeyOff.ct = s.ct ∧ s.offerKeyOff.hu = s.hu ∧ s.offerKeyOff.rd = s.rd ∧
    s.offerKeyOff.pi = s.pi ∧
    s.offerKeyOff.ks = { s.ks with keyOnOutstanding := s.offerKeyOff.ks.keyOnOutstanding } := by
  unfold State.offerKeyOff
  split
  · simp [LinkKept.refl]
  · exact offerKey_fields s _

/-- The tail begun from AMP-ON or TRANSMIT (R167). -/
theorem startTail_kept (s : State) (c : TailCause) (l : Option LockReason)
    (h : s.ks.state = .ampOn ∨ s.ks.state = .transmit) : Kept s (s.startTail c l) := by
  unfold State.startTail
  have key := offerKeyOff_fields (s.setKs { s.ks with
    state := .tail, timer := s.timerFor (Config.ms s.timing.tSeq), tailCause := some c, lockout := l })
  generalize State.offerKeyOff _ = t at key
  obtain ⟨k1, k2, k3, k4, k5, k6, k7, k8, k9, k10, k11, k12, k13, k14⟩ := key
  refine Kept.ofKeys k1 k2 k3 k4 k5 k6 k7 k8 k9 k10 k11 k12 k13 ?_ (.inr ⟨h, ?_⟩)
  · rw [k14]; exact ⟨rfl, rfl, rfl, rfl⟩
  · rw [k14]; rfl

theorem sequencerTold_kept (s : State) : Kept s s.sequencerTold := by
  unfold State.sequencerTold
  split
  · exact judgePress_kept s (by assumption)
  · split
    · exact Kept.refl s
    · exact startTail_kept s _ _ (.inl (by assumption))
  · split
    · exact Kept.refl s
    · exact startTail_kept s _ _ (.inr (by assumption))
  · exact Kept.refl s

/-! The Relay Driver. -/

/-- Removing lines turns none on. -/
theorem Lines.diff_diff (x y : Lines) : (x.diff y).diff x = .none := by
  simp only [Lines.diff, Lines.none, Lines.mk.injEq]
  refine ⟨?_, ?_, ?_, ?_⟩ <;>
    (apply BitVec.eq_of_getLsbD_eq; intro i hi; simp; grind)

/-- AUX lines removed leave the MAIN-path lines as they are (R174). -/
theorem Lines.diff_and_aux (x y a : Lines) : (x.diff (y.and a)).and (Lines.every.diff a) = x.and (Lines.every.diff a) := by
  simp only [Lines.diff, Lines.and, Lines.every, Lines.mk.injEq]
  refine ⟨?_, ?_, ?_, ?_⟩ <;>
    (apply BitVec.eq_of_getLsbD_eq; intro i hi; simp; grind)

theorem Kept.ofRelays {s t : State} (now : t.now = s.now) (fu : t.fu = s.fu) (ps : t.ps = s.ps) (cu : t.cu = s.cu)
    (pending : t.pending = s.pending) (jc : t.jc = s.jc) (pt : t.pt = s.pt) (lc : t.lc = s.lc) (sg : t.sg = s.sg)
    (ct : t.ct = s.ct) (hu : t.hu = s.hu) (ks : t.ks = s.ks) (pi : t.pi = s.pi)
    (relays : s.rd.state ≠ .steady → t.rd = { s.rd with target := t.rd.target })
    (noneOn : t.rd.lines.diff s.rd.lines = .none)
    (mainStill : s.ampKey = true → t.rd.lines.and s.mainPath = s.rd.lines.and s.mainPath) : Kept s t := by
  exact
    { now := now, fu := fu, ps := ps, cu := cu, pending := pending, join := by rw [jc], records := by rw [pt],
      linkLost := by rw [pt], link := by rw [lc]; exact LinkKept.refl _, running := by rw [sg],
      cadence := by rw [sg], slice := by rw [sg], interval := by rw [sg], obligation := by rw [sg],
      renewed := by rw [sg], recent := by rw [sg], relearn := by rw [ct], reservations := by rw [ct], panelMask := .inl (by rw [ct]),
      keepTimer := by rw [hu], ask := .inl (by rw [hu]), latch := .inl (by rw [hu]), answer := .inl (by rw [hu]),
      ptt := by rw [ks], keyTenure := by rw [ks], tenurePeriod := by rw [ks], keyTenureLink := by rw [ks],
      amp := by simp [State.ampKey, ks], seqState := .inl (by rw [ks]), sequencer := fun _ => ks,
      waitMode := by rw [pi], relays := relays, noneOn := noneOn, mainStill := mainStill }

theorem rdSync_kept (s : State) : Kept s s.rdSync := by
  unfold State.rdSync State.settle
  split
  · rename_i h
    refine Kept.ofRelays rfl rfl rfl rfl rfl rfl rfl rfl rfl rfl rfl rfl rfl (fun hs => absurd h.1 hs) ?_ ?_
    · exact Lines.diff_diff _ _
    · intro ha
      have hm : (s.setRd { s.rd with target := s.formTarget }).movable = s.auxPath := by
        show (if s.ampKey then s.auxPath else .every) = _
        simp [ha]
      unfold State.startBreak
      rw [hm]
      exact Lines.diff_and_aux _ _ _
  · exact Kept.ofRelays rfl rfl rfl rfl rfl rfl rfl rfl rfl rfl rfl rfl rfl (fun _ => rfl) (Lines.diff_self _)
      (fun _ => rfl)

/-! ### All moves -/

theorem Move.kept {s t : State} (h : Move s t) : Kept s t := by
  cases h with
  | slot i r => exact setSlot_kept s i r
  | waitList l => exact Kept.ofSlots rfl rfl rfl rfl rfl rfl rfl rfl rfl rfl rfl (.inl rfl) rfl rfl rfl rfl
  | passDue due => exact Kept.ofSlots rfl rfl rfl rfl rfl rfl rfl rfl rfl rfl rfl (.inl rfl) rfl rfl rfl rfl
  | maskUsed => exact Kept.ofSlots rfl rfl rfl rfl rfl rfl rfl rfl rfl rfl rfl (.inr rfl) rfl rfl rfl rfl
  | offer f => exact offer_kept s f
  | withdraw p => exact withdraw_kept s p
  | withdrawUnsent p => exact withdrawUnsent_kept s p
  | givingDone p l => exact givingDone_kept s p l
  | dropAsk =>
    exact Kept.ofHandOver rfl rfl rfl rfl rfl rfl rfl rfl rfl rfl rfl rfl rfl rfl (.inr rfl) (.inl rfl) (.inl rfl)
  | dropLatch =>
    exact Kept.ofHandOver rfl rfl rfl rfl rfl rfl rfl rfl rfl rfl rfl rfl rfl rfl (.inl rfl) (.inr rfl) (.inl rfl)
  | outstanding x =>
    exact Kept.ofStatus rfl rfl rfl rfl rfl rfl rfl (LinkKept.refl _) ⟨rfl, rfl, rfl, rfl, rfl, rfl, rfl⟩ rfl rfl rfl rfl rfl
  | notified x =>
    exact Kept.ofStatus rfl rfl rfl rfl rfl rfl rfl (LinkKept.refl _) ⟨rfl, rfl, rfl, rfl, rfl, rfl, rfl⟩ rfl rfl rfl rfl rfl
  | liveSeen =>
    constructor <;> simp [State.ampKey, LinkKept.refl, Lines.diff_self]
  | interlock x => exact Kept.of rfl rfl rfl rfl rfl rfl rfl rfl rfl rfl rfl rfl rfl rfl
  | sequencer => exact sequencerTold_kept s
  | relays => exact rdSync_kept s
  | probeOwed b =>
    constructor <;> simp [State.ampKey, LinkKept.refl, Lines.diff_self]
  | panel x h => exact Kept.of rfl rfl rfl rfl rfl rfl rfl rfl rfl rfl rfl rfl rfl h
  | choices n => exact Kept.of rfl rfl rfl rfl rfl rfl rfl rfl rfl rfl rfl rfl rfl rfl

theorem Moves.kept {s t : State} (h : Moves s t) : Kept s t := by
  induction h with
  | refl => exact Kept.refl s
  | tail _ h ih => exact ih.trans h.kept

/-- What no reaction to an event touches, the recent-change timer apart. -/
theorem commit_kept (heard : KeyHeard) (before s : State) :
    Kept (State.recentReact before s) (commit heard before s) := by
  refine Kept.trans ?_ (reactWith_moves _ _ heard before s).kept
  unfold State.recentReact
  show Kept _ (if before.fu.freq = s.fu.freq then _ else _)
  split
  · exact Kept.of rfl rfl rfl rfl rfl rfl rfl rfl rfl rfl rfl rfl rfl rfl
  · exact Kept.of rfl rfl rfl rfl rfl rfl rfl rfl rfl rfl rfl rfl rfl rfl

/-- Where F is as it was, no reaction touches even the recent-change timer. -/
theorem commit_kept_of_freq {before s : State} (heard : KeyHeard) (h : s.fu.freq = before.fu.freq) :
    Kept s (commit heard before s) := by
  have k := commit_kept heard before s
  rwa [State.recentReact, if_pos h.symm] at k

/-- A changed F restarts the recent-change timer with the own P and changes nothing else there (R90). -/
theorem recentReact_of_changed {before s : State} (h : before.fu.freq ≠ s.fu.freq) :
    State.recentReact before s = s.setSg { s.sg with recent := s.timerFor s.period } := if_neg h

end Sys2Proof.Machine
end

