-- ==== Sys2Proof/Laws/Peers.lean ====
section
/-! SUPPORT. Laws/Peers.lean: finding a record after the table's operations: putting one back, removing one, and what removal leaves of the rest of the part (R59, R72). -/

namespace Sys2Proof.Machine

/-- After a record is put into its place, its number finds it. -/
theorem find_putRecord_self (r : PeerRecord) (l : List PeerRecord) :
    (putRecord r l).find? (fun x => x.pos == r.pos) = some r := by
  induction l with
  | nil => simp [putRecord]
  | cons x xs ih =>
    unfold putRecord
    split
    · rename_i h
      have e : x.pos ≠ r.pos := fun e => by rw [e] at h; exact Nat.lt_irrefl _ h
      simp [e, ih]
    · split <;> simp

/-- Putting a record into its place leaves what other numbers find. -/
theorem find_putRecord_ne (r : PeerRecord) (l : List PeerRecord) {p : Position} (h : p ≠ r.pos) :
    (putRecord r l).find? (fun x => x.pos == p) = l.find? (fun x => x.pos == p) := by
  have hr : (r.pos == p) = false := by simpa using fun e => h e.symm
  induction l with
  | nil => simp [putRecord, hr]
  | cons x xs ih =>
    unfold putRecord
    split
    · simp only [List.find?_cons, ih]
    · split
      · rename_i e
        have hx : (x.pos == p) = false := by rw [e]; exact hr
        simp [hr, hx]
      · simp [List.find?_cons, hr]

theorem find_putPeer_self (s : State) (r : PeerRecord) : (s.putPeer r).pt.find r.pos = some r :=
  find_putRecord_self r s.pt.records

theorem find_putPeer_ne (s : State) (r : PeerRecord) {p : Position} (h : p ≠ r.pos) :
    (s.putPeer r).pt.find p = s.pt.find p := find_putRecord_ne r s.pt.records h

/-- A record that a number finds has that number. -/
theorem pos_of_find {pt : PeerTable} {p : Position} {r : PeerRecord} (h : pt.find p = some r) : r.pos = p := by
  simpa using List.find?_some h

theorem peerGone_pt (s : State) (p : Position) : (s.peerGone p).pt = s.pt := rfl

/-- Removing a record leaves the records of the other numbers. -/
theorem removePeer_records (s : State) (p : Position) :
    (s.removePeer p).pt.records = s.pt.records.filter (fun r => r.pos != p) := by
  unfold State.removePeer
  split
  · rfl
  · rename_i h
    have h' : s.pt.find p = none := by simpa using h
    symm
    rw [List.filter_eq_self]
    intro r hr
    have := List.find?_eq_none.1 h' r hr
    simpa using this

theorem find_removePeer_self (s : State) (p : Position) : (s.removePeer p).pt.find p = none := by
  unfold PeerTable.find
  rw [removePeer_records]
  simp

theorem find_removePeer_ne (s : State) {p q : Position} (h : q ≠ p) :
    (s.removePeer p).pt.find q = s.pt.find q := by
  unfold PeerTable.find
  rw [removePeer_records, List.find?_filter]
  congr 1
  funext r
  by_cases e : r.pos = q
  · simp [e, h]
  · simp [e]

end Sys2Proof.Machine
end

