-- ==== Sys2Proof/Laws/PerInstr.lean ====
section
/-! SUPPORT. Laws/PerInstr.lean: one lemma per command about its panel key code (13.3): a well-formed key's code names a key, and the code of an unknown key does not, or came with a framing error. -/

namespace Sys2Proof.Laws.Family

/-- The key code of a well-formed command, where it has one, is a code that names a key; an unknown key's
names none, or its character had a framing error (R191, 13.3). -/
def Statement (c : Instr) : Prop :=
  c.wellFormed = true → ∀ code, encodeKey c = some code →
    match c with
    | .undefinedKeyCode _ e => (e || !definedKeyCode code) = true
    | _ => definedKeyCode code = true

/-- A command with no key code meets it. -/
theorem of_none {c : Instr} (h : encodeKey c = none) : Statement c := by
  intro _ code e
  rw [h] at e
  cases e

/-- A code of the antenna and mask keys names a key. -/
theorem code_defined {n : Nat} (h : (1 ≤ n ∧ n ≤ 32) ∨ (49 ≤ n ∧ n ≤ 80) ∨ (97 ≤ n ∧ n ≤ 128) ∨
    (144 ≤ n ∧ n ≤ 176) ∨ (193 ≤ n ∧ n ≤ 216)) : definedKeyCode (BitVec.ofNat 8 n) = true := by
  have e : (BitVec.ofNat 8 n).toNat = n := by simp; omega
  unfold definedKeyCode
  rw [e]
  simp
  omega

theorem powerOnReset : Statement .powerOnReset := of_none rfl

theorem planReadEnd (bytes : List Byte) : Statement (.planReadEnd bytes) := of_none rfl

theorem radioCharacterArrival (c : Byte) (framingError : Bool) : Statement (.radioCharacterArrival c framingError) := of_none rfl

theorem freshnessTimerExpiry : Statement .freshnessTimerExpiry := of_none rfl

theorem listenTimerExpiry : Statement .listenTimerExpiry := of_none rfl

theorem probeComplete : Statement .probeComplete := of_none rfl

theorem probeWaitExpiry : Statement .probeWaitExpiry := of_none rfl

theorem leavingComplete : Statement .leavingComplete := of_none rfl

theorem receiverSynced : Statement .receiverSynced := of_none rfl

theorem frameStart : Statement .frameStart := of_none rfl

theorem contentionLost : Statement .contentionLost := of_none rfl

theorem senderLineFault : Statement .senderLineFault := of_none rfl

theorem frameFault (kind : FaultKind) : Statement (.frameFault kind) := of_none rfl

theorem adaptationPeriodEnd : Statement .adaptationPeriodEnd := of_none rfl

theorem statusReceived (sender : Position) (f : StatusFrame) : Statement (.statusReceived sender f) := of_none rfl

theorem claimReceived (sender : Position) (f : ClaimFrame) : Statement (.claimReceived sender f) := of_none rfl

theorem releaseReceived (sender : Position) (f : ReleaseFrame) : Statement (.releaseReceived sender f) := of_none rfl

theorem keyReceived (sender : Position) (f : KeyFrame) : Statement (.keyReceived sender f) := of_none rfl

theorem probeReceived (number : Position) (f : ProbeFrame) : Statement (.probeReceived number f) := of_none rfl

theorem peerEntryExpiry (peer : Position) (slot : Slot) : Statement (.peerEntryExpiry peer slot) := of_none rfl

theorem peerRecordExpiry (peer : Position) : Statement (.peerRecordExpiry peer) := of_none rfl

theorem statusIntervalExpiry : Statement .statusIntervalExpiry := of_none rfl

theorem statusComplete : Statement .statusComplete := of_none rfl

theorem recentChangeExpiry : Statement .recentChangeExpiry := of_none rfl

theorem selfDropLimit (slot : Slot) : Statement (.selfDropLimit slot) := of_none rfl

theorem claimComplete : Statement .claimComplete := of_none rfl

theorem claimWindowExpiry (slot : Slot) : Statement (.claimWindowExpiry slot) := of_none rfl

theorem tenurePeriodExpiry (slot : Slot) : Statement (.tenurePeriodExpiry slot) := of_none rfl

theorem releaseComplete : Statement .releaseComplete := of_none rfl

theorem reservationExpiry (antenna : Antenna) : Statement (.reservationExpiry antenna) := of_none rfl

theorem relearnQuietExpiry : Statement .relearnQuietExpiry := of_none rfl

theorem growWindowExpiry : Statement .growWindowExpiry := of_none rfl

theorem askLifeExpiry : Statement .askLifeExpiry := of_none rfl

theorem keepLifeExpiry : Statement .keepLifeExpiry := of_none rfl

theorem pttPress : Statement .pttPress := of_none rfl

theorem pttRelease : Statement .pttRelease := of_none rfl

theorem keyComplete : Statement .keyComplete := of_none rfl

theorem tSeqExpiry : Statement .tSeqExpiry := of_none rfl

theorem tailExpiry : Statement .tailExpiry := of_none rfl

theorem keyTenurePeriodExpiry : Statement .keyTenurePeriodExpiry := of_none rfl

theorem breakExpiry : Statement .breakExpiry := of_none rfl

theorem makeExpiry : Statement .makeExpiry := of_none rfl

theorem quietCommand (issuer : Position) (f : CommandFields) : Statement (.quietCommand issuer f) := of_none rfl

theorem quietEndCommand (issuer : Position) (f : CommandFields) : Statement (.quietEndCommand issuer f) := of_none rfl

theorem rejoinCommand (issuer : Position) (f : CommandFields) : Statement (.rejoinCommand issuer f) := of_none rfl

theorem relearnCommand (issuer : Position) (f : CommandFields) : Statement (.relearnCommand issuer f) := of_none rfl

theorem commandComplete : Statement .commandComplete := of_none rfl

theorem quietSecondExpiry : Statement .quietSecondExpiry := of_none rfl

theorem selectMain (n : Nat) : Statement (.selectMain n) := by
  intro w code e
  cases e
  simp only [Instr.wellFormed, antennaArgOk, Bool.and_eq_true, decide_eq_true_eq] at w
  exact code_defined (by omega)

theorem selectAux (n : Nat) : Statement (.selectAux n) := by
  intro w code e
  cases e
  simp only [Instr.wellFormed, antennaArgOk, Bool.and_eq_true, decide_eq_true_eq] at w
  exact code_defined (by omega)

theorem selectNext (n : Nat) : Statement (.selectNext n) := by
  intro w code e
  cases e
  simp only [Instr.wellFormed, antennaArgOk, Bool.and_eq_true, decide_eq_true_eq] at w
  exact code_defined (by omega)

theorem dropMain : Statement .dropMain := by
  intro _ code e
  cases e
  rfl

theorem dropAux : Statement .dropAux := by
  intro _ code e
  cases e
  rfl

theorem dropNext : Statement .dropNext := by
  intro _ code e
  cases e
  rfl

theorem wait : Statement .wait := by
  intro _ code e
  cases e
  rfl

theorem cancel : Statement .cancel := by
  intro _ code e
  cases e
  rfl

theorem ask (n : Nat) : Statement (.ask n) := by
  intro w code e
  cases e
  simp only [Instr.wellFormed, decide_eq_true_eq] at w
  exact code_defined (by omega)

theorem give : Statement .give := by
  intro _ code e
  cases e
  rfl

theorem keep : Statement .keep := by
  intro _ code e
  cases e
  rfl

theorem stackMask (m : Mask) : Statement (.stackMask m) := by
  intro w code e
  cases e
  have h : m.toNat ≠ 0 := fun h => by simp [Instr.wellFormed, BitVec.eq_of_toNat_eq (y := 0#3) h] at w
  have := m.isLt
  exact code_defined (by omega)

theorem standby : Statement .standby := by
  intro _ code e
  cases e
  rfl

theorem quietKey : Statement .quietKey := by
  intro _ code e
  cases e
  rfl

theorem quietEndKey : Statement .quietEndKey := by
  intro _ code e
  cases e
  rfl

theorem relearnKey : Statement .relearnKey := by
  intro _ code e
  cases e
  rfl

theorem rejoinPos (p : Option Position) : Statement (.rejoinPos p) := by
  intro _ code e
  cases p with
  | none => cases e; rfl
  | some p =>
    cases e
    have := p.isLt
    exact code_defined (by omega)

theorem rejoinSelf : Statement .rejoinSelf := by
  intro _ code e
  cases e
  rfl

theorem clearCounters : Statement .clearCounters := by
  intro _ code e
  cases e
  rfl

theorem undefinedKeyCode (code : Byte) (framingError : Bool) : Statement (.undefinedKeyCode code framingError) := by
  intro w code' e
  cases e
  exact w

theorem displayRecordSent : Statement .displayRecordSent := of_none rfl

theorem displayRefreshExpiry : Statement .displayRefreshExpiry := of_none rfl

theorem startMarkReceived : Statement .startMarkReceived := of_none rfl

theorem askAgeWholePeriod : Statement .askAgeWholePeriod := of_none rfl


end Sys2Proof.Laws.Family
end

