-- ==== Sys2Proof/Laws/Slots.lean ====
section
/-! SUPPORT. Laws/Slots.lean: reading a slot after each operation that writes one: what a slot holds once it is set, freed or its candidate dropped, and that the other slots stay. -/

namespace Sys2Proof.Machine

@[simp] theorem Slots.get_set_self {α : Type} (x : Slots α) (i : Slot) (v : α) : (x.set i v).get i = v := by
  cases i <;> rfl

theorem Slots.get_set_ne {α : Type} (x : Slots α) {i j : Slot} (v : α) (h : j ≠ i) : (x.set i v).get j = x.get j := by
  cases i <;> cases j <;> first | rfl | exact absurd rfl h

@[simp] theorem Slots.get_all {α : Type} (v : α) (i : Slot) : (Slots.all v).get i = v := by
  cases i <;> rfl

@[simp] theorem slot_setSlot_self (s : State) (i : Slot) (r : SlotRecord) : (s.setSlot i r).slot i = r :=
  Slots.get_set_self ..

theorem slot_setSlot_ne (s : State) {i j : Slot} (r : SlotRecord) (h : j ≠ i) : (s.setSlot i r).slot j = s.slot j :=
  Slots.get_set_ne _ r h

/-- The slots depend on the Claim Table's slots alone. -/
theorem slot_congr {s t : State} (h : t.ct.slots = s.ct.slots) (i : Slot) : t.slot i = s.slot i := by
  unfold State.slot
  rw [h]

theorem givingDone_ct (s : State) (p : Position) (l : List Antenna) : (s.givingDone p l).ct = s.ct := by
  unfold State.givingDone
  split
  · split <;> rfl
  · rfl

theorem handOversLapse_ct (s : State) (h : HeldPart) : (s.handOversLapse h).ct = s.ct := by
  unfold State.handOversLapse
  dsimp only
  split <;> split <;> simp [givingDone_ct]

theorem offer_ct (s : State) (f : LinkFrame) : (s.offer f).1.ct = s.ct := by
  unfold State.offer
  dsimp only
  split <;> rfl

theorem offerRelease_ct (s : State) (i : Slot) (a : Antenna) (r : ReleaseReason) (y : Option Position) :
    (s.offerRelease i a r y).1.ct = s.ct := by
  unfold State.offerRelease
  split
  · rfl
  · exact offer_ct ..

/-- The part a hold leaves behind when it is given up (R110). -/
def HeldPart.freed (h : HeldPart) (reason : ReleaseReason) (yieldTo : Option Position) : FreeingPart :=
  ⟨h.antenna, h.mask, h.drive, h.tenure, h.tenureLink, reason, yieldTo, false⟩

/-- Giving up a hold empties it and puts its part last among the freeing ones (R110 step 1). -/
theorem freeHold_slot_self (s : State) (i : Slot) (r : ReleaseReason) (y : Option Position) :
    (s.freeHold i r y).slot i = { s.slot i with
      held := none,
      freeing := (s.slot i).freeing ++ (match (s.slot i).held with
        | some h => [h.freed r y]
        | none => []) } := by
  unfold State.freeHold
  split
  · rename_i h
    have e : s.slot i = ⟨none, (s.slot i).freeing, (s.slot i).cand⟩ := by rw [← h]
    rw [e]
    simp
  · rename_i h e
    rw [slot_congr (congrArg ClaimTable.slots (handOversLapse_ct _ h)), slot_setSlot_self, e]
    rfl

theorem freeHold_slot_ne (s : State) {i j : Slot} (r : ReleaseReason) (y : Option Position) (h : j ≠ i) :
    (s.freeHold i r y).slot j = s.slot j := by
  unfold State.freeHold
  split
  · rfl
  · rename_i x _
    rw [slot_congr (congrArg ClaimTable.slots (handOversLapse_ct _ x)), slot_setSlot_ne _ _ h]

/-- Dropping a candidate empties it and leaves the rest of its slot (R98, R109). -/
theorem dropCandidate_slot_self (s : State) (i : Slot) (r : ReleaseReason) :
    (s.dropCandidate i r).slot i = { s.slot i with cand := none } := by
  unfold State.dropCandidate
  split
  · rename_i h
    rw [← h]
  · dsimp only
    split
    · exact slot_setSlot_self ..
    · rw [slot_congr (congrArg ClaimTable.slots (offerRelease_ct ..)), slot_setSlot_self]

theorem dropCandidate_slot_ne (s : State) {i j : Slot} (r : ReleaseReason) (h : j ≠ i) :
    (s.dropCandidate i r).slot j = s.slot j := by
  unfold State.dropCandidate
  split
  · rfl
  · dsimp only
    split
    · exact slot_setSlot_ne _ _ h
    · rw [slot_congr (congrArg ClaimTable.slots (offerRelease_ct ..)), slot_setSlot_ne _ _ h]

end Sys2Proof.Machine
end

