-- ==== Sys2Proof/Tests/Slice0.lean ====
section
/-! SUPPORT. Tests/Slice0.lean: small tests on fixed values, their results taken from the spec's tables and rules, and for each statement with hypotheses a state and operands that meet them. -/

set_option Elab.async false

namespace Sys2Proof.Tests

open Sys2Proof.Machine

/-! ### WellFormed refuses what the inputs cannot carry (R43, R191, 13.1 to 13.3) -/

/-- A SINGLE STATUS with nothing to report. -/
def plainStatus : StatusFrame :=
  { cadence := 0, slice := 0, periodCode := 1, freq := 18500, band := 1, keyed := false, standby := false,
    planValid := true, linkLost := false, keyTenure := 0, priority := 2, planCheck := 0, askTarget := 0,
    askAntenna := 0, askKind := 0, answerTarget := 0, answerAntenna := 0, answer := 0,
    entries := List.replicate 4 ⟨0, 0, 0⟩, ident := some (⟨0, 0, 0⟩, 7) }

theorem test_status_ok : (Instr.statusReceived 1 plainStatus).wellFormed = true := by decide

theorem test_status_bad_cadence :
    (Instr.statusReceived 1 { plainStatus with cadence := 3 }).wellFormed = false := by decide

theorem test_status_bad_entry_count :
    (Instr.statusReceived 1 { plainStatus with entries := [] }).wellFormed = false := by decide

theorem test_status_bad_ident : (Instr.statusReceived 1 { plainStatus with ident := none }).wellFormed = false := by
  decide

theorem test_status_bad_slice : (Instr.statusReceived 1 { plainStatus with slice := 1 }).wellFormed = false := by
  decide

theorem test_status_bad_entry :
    (Instr.statusReceived 1 { plainStatus with entries := List.replicate 4 ⟨33, 0, 0⟩ }).wellFormed = false := by
  decide

theorem test_status_bad_ask :
    (Instr.statusReceived 1 { plainStatus with askAntenna := 33 }).wellFormed = false := by decide

theorem test_status_bad_answer_antenna :
    (Instr.statusReceived 1 { plainStatus with answerAntenna := 63 }).wellFormed = false := by decide

theorem test_status_bad_answer : (Instr.statusReceived 1 { plainStatus with answer := 3 }).wellFormed = false := by
  decide

theorem test_claim_bad_antenna : (Instr.claimReceived 1 ⟨.main, 33, 0, false, 0, 0⟩).wellFormed = false := by decide

theorem test_release_bad_antenna : (Instr.releaseReceived 1 ⟨.main, 40, 0, false, 0⟩).wellFormed = false := by decide

theorem test_release_bad_reason : (Instr.releaseReceived 1 ⟨.main, 1, 5, false, 0⟩).wellFormed = false := by decide

theorem test_plan_too_long : (Instr.planReadEnd (List.replicate 520 0)).wellFormed = false := by decide +kernel

theorem test_reservation_bad_antenna : (Instr.reservationExpiry 33).wellFormed = false := by decide

theorem test_keys_out_of_range :
    [Instr.selectMain 0, .selectMain 33, .selectAux 0, .selectAux 33, .selectNext 0, .selectNext 33, .ask 33,
      .stackMask 0, .undefinedKeyCode 224 false].all (fun c => !c.wellFormed) = true := by decide

theorem test_keys_at_their_ends :
    [Instr.selectMain 1, .selectMain 32, .selectAux 1, .selectAux 32, .selectNext 1, .selectNext 32, .ask 0, .ask 32,
      .stackMask 1, .stackMask 7, .rejoinPos none, .undefinedKeyCode 224 true, .undefinedKeyCode 237 false].all
      (fun c => c.wellFormed) = true := by decide

/-! ### Encodings (R1, R38, R201, Chapter 13) -/

/-- R201: over the characters "123456789" the CRC-8 is 244, and over the byte 1 it is 7. -/
theorem test_crc_check_values : crcBytes [49, 50, 51, 52, 53, 54, 55, 56, 57] = 244 ∧ crcBytes [1] = 7 := by decide +kernel

/-- 13.3, the rows of the key code table at their ends. -/
theorem test_key_codes :
    [1, 32, 0, 33, 49, 80, 81, 97, 128, 144, 176, 177, 193, 199, 192, 200, 215, 216, 217, 224, 236, 237].map
      (fun n => decodeKey (BitVec.ofNat 8 n) false) =
    [.selectMain 1, .selectMain 32, .undefinedKeyCode 0 false, .undefinedKeyCode 33 false, .selectAux 1,
      .selectAux 32, .undefinedKeyCode 81 false, .selectNext 1, .selectNext 32, .ask 0, .ask 32,
      .undefinedKeyCode 177 false, .stackMask 1, .stackMask 7, .undefinedKeyCode 192 false, .rejoinPos (some 0),
      .rejoinPos (some 15), .rejoinPos none, .undefinedKeyCode 217 false, .wait, .dropNext,
      .undefinedKeyCode 237 false] := by decide

/-- 13.3: codes 224 to 236 in the order of the table. -/
theorem test_key_codes_in_order :
    (List.range 13).map (fun n => decodeKey (BitVec.ofNat 8 (224 + n)) false) =
    [.wait, .cancel, .give, .keep, .standby, .quietKey, .quietEndKey, .relearnKey, .rejoinSelf, .clearCounters,
      .dropMain, .dropAux, .dropNext] := by decide

/-- R1: "#", the ends of the digit and letter ranges, a carriage return, their neighbours, and a framing error. -/
theorem test_character_classes :
    [35, 48, 57, 65, 70, 13, 47, 58, 64, 71, 97].map (fun n => charClass (BitVec.ofNat 8 n) false) =
      [.hash, .digit 0, .digit 9, .hexLetter 10, .hexLetter 15, .cr, .other, .other, .other, .other, .other] ∧
    charClass 48 true = .other := by decide

/-- A KEY on of position 5 with band 1, 18500 counts and tenure 0: the head and body bits of 13.1. -/
theorem test_key_frame_bits :
    (LinkFrame.coveredBits ⟨5, .key ⟨true, false, 1, 18500, 0⟩⟩).map Bool.toNat =
      [0, 0, 1, 0, 1, 0, 1, 1, 0, 0, 0, 0, 1, 0, 0, 0, 0, 0, 1, 0, 0, 1, 0, 0, 0, 0, 1, 0, 0, 0, 1, 0, 0,
        0, 0, 0, 0, 0, 0] := by decide

/-- R38: after five bits of one level, one of the other; the start mark counts. -/
theorem test_fill_bits :
    (fill false 1 [false, false, false, false, false, true, true, true, true, true]).map Bool.toNat =
      [0, 0, 0, 0, 1, 0, 1, 1, 1, 1, 1, 0] := by decide

/-- R43: a frame class 6 is a class fault, and a line that ends early a length fault. -/
theorem test_line_faults :
    commandOfLine [true, true, false, false, false, false, true] = .frameFault .classFault ∧
      commandOfLine [] = .frameFault .lengthFault := by decide

/-- R43: the class is read off the first three bits: three 1s are a class fault though the line then ends. -/
theorem test_class_fault_first :
    commandOfLine [true, true, true] = .frameFault .classFault ∧ commandOfLine [true, true] = .frameFault .lengthFault := by
  decide

/-- R22: 0 a space, 1 to 26 the letters, 27 to 36 the digits, 37 "-", 38 "/", the rest a space. -/
theorem test_label_characters :
    [0, 1, 26, 27, 36, 37, 38, 39, 63].map (fun n => labelChar (BitVec.ofNat 6 n)) =
      [' ', 'A', 'Z', '0', '9', '-', '/', ' ', ' '] := by decide

/-! ### A small station: antenna 1 MAIN on every band, 2 MAIN on band 1 alone, 3 RXONLY with capacity 2, port 4
of members 5, 6 and 7, 8 MAIN; every position may command and accepts commands -/

/-- The plan of the tests. -/
def testPlan : Plan :=
  { bands := [⟨18000, 20000, 0, true, false⟩, ⟨35000, 38000, 0, true, false⟩] ++ List.replicate 8 deadBand,
    antennas := [⟨.main, 1023, 1, none, ⟨1, 2, 3⟩⟩, ⟨.main, 512, 1, none, ⟨1, 2, 4⟩⟩,
      ⟨.rxonly, 1023, 2, none, ⟨0, 0, 0⟩⟩, ⟨.stackPort, 1023, 1, none, ⟨0, 0, 0⟩⟩,
      ⟨.member, 1023, 1, none, ⟨0, 0, 0⟩⟩, ⟨.member, 1023, 1, none, ⟨0, 0, 0⟩⟩,
      ⟨.member, 1023, 1, none, ⟨0, 0, 0⟩⟩, ⟨.main, 1023, 1, none, ⟨0, 0, 0⟩⟩] ++ List.replicate 24 absentAntenna,
    groups := ⟨true, 4, 5, 6, 7, 6⟩ :: List.replicate 3 ⟨false, 0, 0, 0, 0, 4⟩,
    harmonic := ⟨0, false, false, false⟩,
    rows := List.replicate 16 ⟨true, true, true, 2, List.replicate 10 1⟩,
    timing := defaultTiming }

/-- A part in RUN with number 3 on 1.85 MHz, band 1, holding nothing; P is 250 ms, 500 units. -/
def joined : State :=
  { State.reset with
    now := 1000, fu := ⟨some 18500, 1, .running 9000, .hunting, 0⟩,
    ps := { PlanStore.reset with planValid := true, plan := some testPlan },
    jc := { JoinCtl.reset with state := .run, number := some 3 },
    lc := { LinkCtl.reset with receiver := .idle },
    sg := { StatusGen.reset with running := true, obligation := false, interval := .running 1500 } }

/-- A hold of an antenna with a mask, all of it driven. -/
def aHold (a : Antenna) (m : Mask) : HeldPart := ⟨a, m, m, 5, 4, .running 1500, none, none, none, none⟩

/-- The part with one slot given. -/
def with1 (i : Slot) (r : SlotRecord) : State := joined.setSlot i r

/-- A peer record of position 5 with one entry. -/
def aPeer (e : Option PeerEntry) : PeerRecord :=
  { PeerRecord.fresh 5 900 with live := true, freq := some 18600, band := 1, entries := ⟨e, none, none, none⟩ }

/-- The part with peers in its view. -/
def withPeers (l : List PeerRecord) : State := joined.setPt ⟨l, true, false⟩

/-- The part with frames in its queue, the first in flight. -/
def withQueue (l : List LinkFrame) : State :=
  joined.setLc { joined.lc with
    receiver := .frame, queue := l.zipIdx.map (fun x => ⟨x.1, x.2 == 0, false⟩) }

/-- The part with its receiver gathering a frame (R38). -/
def hearing (s : State) : State := s.setLc { s.lc with receiver := .frame }

/-- The part with the port 4 held with places 1 and 2 and the CLAIM of its grow in flight. -/
def growClaiming (l : List PeerRecord) : State :=
  ((withQueue [⟨3, .claim ⟨.main, 4, 7, false, 0, 2⟩⟩]).setSlot .main
    ⟨some { aHold 4 6 with grow := some ⟨7, .queued, none⟩ }, [], none⟩).setPt ⟨l, true, false⟩

/-- A state in RUN with MAIN held on antenna 1, its lines on and the permit true. -/
def keyable : State :=
  ((with1 .main ⟨some (aHold 1 0), [], none⟩).setRd
    { RelayDriver.reset with lines := ⟨1, 1, 0, 0⟩, target := ⟨1, 1, 0, 0⟩ }).evaluate

/-! ### What a step leaves, whatever the order of the blocks (log 3) -/

/-- exec answers a next state that passes a test. -/
def After (c : Instr) (s : State) (p : State → Bool) : Prop :=
  match exec c s with
  | .next t => p t = true
  | .fault _ => False
  | .refused _ => False

/-- A test that holds for both places of each open choice holds of the step. -/
theorem After.of {c : Instr} {s before u : State} {heard : KeyHeard} {p : State → Bool}
    (e : exec c s = .next (commit heard before u)) (h : ∀ a b, p (reactWith a b heard before u) = true) : After c s p := by
  unfold After
  rw [e]
  exact h _ _

/-! ### One step of a command (expected values from the rule named) -/

/-- The part in END of a sentence of a frequency in hertz, its check right. -/
def atEnd (hz : Nat) : State := joined.setFu { joined.fu with decoder := ⟨.endMark, 8, hz, 400, 2, 144⟩ }

/-- R9: 1850050 Hz is 18501 counts, half a count rounding up; T_freq by default is 2 s, 4000 units (R12, R19). -/
theorem test_sentence_accepted : After (.radioCharacterArrival 13 false) (atEnd 1850050)
    (fun t => t.fu.freq == some 18501 && t.fu.freshness == .running 5000 && t.sg.recent == .running 1500) := .of rfl (by decide +kernel)

/-- R9, R10: 17999900 Hz is 179999 counts, in no entry of the table: band 0. -/
theorem test_sentence_out_of_bands : After (.radioCharacterArrival 13 false) (atEnd 17999900)
    (fun t => t.fu.freq == some 179999 && t.fu.band == 0) := .of rfl (by decide +kernel)

/-- R1, R8: a carriage return with a framing error abandons the sentence. -/
theorem test_framing_error_abandons : After (.radioCharacterArrival 13 true) (atEnd 1850000)
    (fun t => t.fu.freq == some 18500 && t.fu.sentenceErrors == 1 && t.fu.decoder.state == .hunt) := .of rfl (by decide +kernel)

/-- R12: at the expiry F is invalid and b is held. -/
theorem test_freshness : After .freshnessTimerExpiry joined
    (fun t => t.fu.freq == none && t.fu.band == 1 && t.now == 9000) := .of rfl (by decide +kernel)

/-- R23, R179: everything at its power-on values. -/
theorem test_power_on : After .powerOnReset keyable
    (fun t => t.jc.state == .load && t.rd.lines == .none && t.ie.reason == some .notJoined && t.fu.freq == none) := .of rfl (by decide +kernel)

/-- R24: a memory that gave nothing leaves the part UNPLANNED. -/
theorem test_plan_unread : After (.planReadEnd []) State.reset
    (fun t => t.jc.state == .unplanned && !t.ps.planValid && t.ie.reason == some .plan) := .of rfl (by decide +kernel)

set_option maxRecDepth 20000 in
/-- R17 to R19: 519 zero bytes pass both checks; LISTEN runs 2P of P = 200 ms, 800 units. -/
theorem test_plan_of_zeros : After (.planReadEnd (List.replicate 519 0)) State.reset
    (fun t => t.jc.state == .listen && t.jc.listenTimer == .running 800 && t.timing.tSeq == 5 && t.timing.wMin == 10) := .of rfl (by decide +kernel)

/-- The part in LISTEN, its timer running out at 1200. -/
def listening (number : Option Position) (fixed : Bool) (failed : List Position) : State :=
  (joined.setPs { joined.ps with preferred := 14, fixedNumber := fixed }).setJc
    { JoinCtl.reset with state := .listen, number := number, failed := failed, listenTimer := .running 1200 }

/-- R27, R28: from preferred 14, with 14 and 15 failed, 0 is probed for. -/
theorem test_listen_probes : After .listenTimerExpiry (listening none false [14, 15])
    (fun t => t.jc.state == .probe && t.jc.tentative == some 0 && t.jc.attempts == 1 && t.now == 1200) := .of rfl (by decide +kernel)

/-- R28: a kept number is taken. -/
theorem test_listen_keeps_number : After .listenTimerExpiry (listening (some 9) false [])
    (fun t => t.jc.state == .run && t.jc.number == some 9 && t.sg.obligation && t.sg.running) := .of rfl (by decide +kernel)

/-- The part in PROBE for number 14, its PROBE in flight. -/
def probing : State :=
  (withQueue [⟨14, .probe ⟨7, 0, true⟩⟩]).setJc
    { JoinCtl.reset with state := .probe, tentative := some 14, attempts := 1, probeWait := .running 1200 }

/-- R30: the wait runs 2P, 1000 units. -/
theorem test_probe_out : After .probeComplete probing
    (fun t => t.jc.probeWait == .running 2000 && t.lc.queue == []) := .of rfl (by decide +kernel)

/-- R30: the tentative number is taken. -/
theorem test_probe_wait : After .probeWaitExpiry probing
    (fun t => t.jc.state == .run && t.jc.number == some 14) := .of rfl (by decide +kernel)

/-- R29: the attempt fails and 15 follows 14. -/
theorem test_probe_for_the_same_number : After (.probeReceived 14 ⟨0, 0, true⟩) probing
    (fun t => t.jc.tentative == some 15 && t.jc.failed == [14]) := .of rfl (by decide +kernel)

/-- The part in LEAVING with a case. -/
def leaving (c : LeavingCase) : State :=
  joined.setJc { joined.jc with state := .leaving, leaving := some c }

/-- R35: case REJOIN keeps the number. -/
theorem test_leaving_done : After .leavingComplete (leaving .rejoin)
    (fun t => t.jc.state == .listen && t.jc.number == some 3 && t.jc.listenTimer == .running 2000) := .of rfl (by decide +kernel)

/-- R36: LEAVING, with MAIN's hold freeing. -/
theorem test_rejoin_self : After .rejoinSelf keyable
    (fun t => t.jc.state == .leaving && (t.slot .main).held == none && (t.slot .main).freeing.length == 1) := .of rfl (by decide +kernel)

/-- R33: another unit with number 3 makes the part leave with case DUPLICATE. -/
theorem test_own_number_heard : After (.keyReceived 3 ⟨true, false, 1, 18500, 0⟩) (hearing joined)
    (fun t => t.jc.leaving == some .duplicate && t.sg.running == false) := .of rfl (by decide +kernel)

/-- R38: SYNC to IDLE. -/
theorem test_synced : After .receiverSynced State.reset
    (fun t => t.lc.receiver == .idle) := .of rfl (by decide +kernel)

/-- R38: IDLE to FRAME. -/
theorem test_start_mark : After .startMarkReceived joined
    (fun t => t.lc.receiver == .frame) := .of rfl (by decide +kernel)

/-- A COMMAND of position 3. -/
def aCommand : LinkFrame := ⟨3, .command .quiet ⟨true, 0, 60⟩⟩

/-- A CLAIM of position 3 for MAIN. -/
def aClaim (a : BitVec 6) : LinkFrame := ⟨3, .claim ⟨.main, a, 0, false, 0, 2⟩⟩

/-- A STATUS of position 3. -/
def aStatus : LinkFrame := ⟨3, .status plainStatus⟩

/-- A KEY of position 3. -/
def aKey (on isAssert : Bool) : LinkFrame := ⟨3, .key ⟨on, isAssert, 1, 18500, 9⟩⟩

/-- A RELEASE of antenna 1 from MAIN by position 3. -/
def aRelease : LinkFrame := ⟨3, .release ⟨.main, 1, 0, false, 0⟩⟩

/-- An unsent frame. -/
def waiting (f : LinkFrame) : QueueEntry := ⟨f, false, false⟩

/-- A full queue: seven COMMANDs and one more frame. -/
def fullQueue (f : LinkFrame) : LinkCtl :=
  { LinkCtl.reset with queue := List.replicate 7 (waiting aCommand) ++ [waiting f] }

/-- R40, R47: the head of the queue goes into flight. -/
theorem test_frame_start : After .frameStart (joined.setLc { joined.lc with queue := [waiting aCommand, waiting aStatus] })
    (fun t => flights t.lc.queue == [aCommand] && t.lc.receiver == .frame) := .of rfl (by decide +kernel)

/-- R41: the frame is unsent again and nothing is counted. -/
theorem test_contention_lost : After .contentionLost (withQueue [aCommand])
    (fun t => t.lc.queue == [waiting aCommand] && t.lc.lineErrors == 0) := .of rfl (by decide +kernel)

/-- R42, R44, R56: the fourth error of a period raises the level. -/
theorem test_sender_line_fault : After .senderLineFault (withQueue [aCommand] |>.setLc { (withQueue [aCommand]).lc with errorCount := 3 })
    (fun t => t.lc.receiver == .sync && t.lc.lineErrors == 1 && t.lc.level == 1 && t.lc.errorCount == 0) := .of rfl (by decide +kernel)

/-- R43, R44: one line error, 255 at most. -/
theorem test_frame_fault : After (.frameFault .crcFault) (hearing (joined.setLc { joined.lc with lineErrors := 255 }))
    (fun t => t.lc.receiver == .sync && t.lc.lineErrors == 255 && t.lc.errorCount == 1) := .of rfl (by decide +kernel)

/-- R57: with no error in the period the level falls; the next starts with 8P. -/
theorem test_adaptation_falls : After .adaptationPeriodEnd (joined.setLc { joined.lc with level := 2 })
    (fun t => t.lc.level == 1 && t.lc.adaptation == .running 8000 && t.now == 4000) := .of rfl (by decide +kernel)

/-- R64, R65: a frequency code above 1000000 reads as 1000000, a period code 15 as 12, a band 11 as 0. -/
theorem test_status_received : After (.statusReceived 5 { plainStatus with freq := 1000001, periodCode := 15, band := 11 }) (hearing joined)
    (fun t => t.pt.records.map (fun r => (r.freq, r.periodCode, r.band, r.live, r.token)) == [(some 1000000, some 12, 0, true, some 7)]) := .of rfl (by decide +kernel)

/-- R66: the antenna moves to the claimed slot. -/
theorem test_claim_received : After (.claimReceived 5 ⟨.aux, 3, 0, true, 9, 1⟩) (hearing (withPeers [aPeer (some ⟨3, 0, 4, 900⟩)]))
    (fun t => t.pt.records.map (fun r => (r.entries.main, r.entries.aux, r.priority)) == [(none, some ⟨3, 0, 9, 1000⟩, some 1)]) := .of rfl (by decide +kernel)

/-- R38: out of FRAME no frame comes in. -/
theorem test_no_frame_in_idle : After (.statusReceived 5 plainStatus) joined
    (fun t => t.pt.records == [] && t.lc.receiver == .idle) := .of rfl (by decide +kernel)

/-- R67: a member leaves the mask of the port, the age staying. -/
theorem test_release_received : After (.releaseReceived 5 ⟨.main, 5, 1, true, 6⟩) (hearing (withPeers [aPeer (some ⟨4, 6, 4, 900⟩)]))
    (fun t => t.pt.records.map (fun r => r.entries.main) == [some ⟨4, 2, 4, 900⟩]) := .of rfl (by decide +kernel)

/-- R68: keyed, band, frequency and key tenure. -/
theorem test_key_received : After (.keyReceived 5 ⟨true, true, 2, 1048575, 9⟩) (hearing (withPeers [aPeer none]))
    (fun t => t.pt.records.map (fun r => (r.keyed, r.band, r.freq, r.keyTenure)) == [(true, 2, none, 9)]) := .of rfl (by decide +kernel)

/-- R70: at 9P of 250 ms, 4500 units, the entry is absent; with the head age there too the record goes. -/
theorem test_entry_expires : After (.peerEntryExpiry 5 .main) (withPeers [aPeer (some ⟨3, 0, 4, 900⟩)])
    (fun t => t.pt.records == [] && t.pt.linkLost && t.now == 5400) := .of rfl (by decide +kernel)

/-- R71, R75: the record goes and link lost is set. -/
theorem test_record_expires : After (.peerRecordExpiry 5) (withPeers [aPeer none])
    (fun t => t.pt.records == [] && t.pt.linkLost) := .of rfl (by decide +kernel)

/-- R86: the interval restarts with P. -/
theorem test_interval : After .statusIntervalExpiry joined
    (fun t => t.sg.interval == .running 2000 && t.lc.queue.length == 1) := .of rfl (by decide +kernel)

/-- R87, R92, R114: the SINGLE frame renews every slot and clears the obligation, and auto-select claims the
default antenna of band 1. -/
theorem test_status_complete : After .statusComplete ((withQueue [aStatus]).setSg { joined.sg with obligation := true })
    (fun t => t.sg.renewed == .all 1000 && !t.sg.obligation && t.lc.queue == [waiting (aClaim 1)]) := .of rfl (by decide +kernel)

/-- R90. -/
theorem test_recent_change : After .recentChangeExpiry (joined.setSg { joined.sg with recent := .running 1400 })
    (fun t => t.sg.recent == .expired && t.now == 1400) := .of rfl (by decide +kernel)

/-- R94: at 8P, 4000 units, the hold goes; its RELEASE is in the queue once its line is off. -/
theorem test_self_drop : After (.selfDropLimit .main) (with1 .main ⟨some (aHold 1 0), [], none⟩)
    (fun t => (t.slot .main).held == none && t.now == 4000 && t.lc.queue.any (fun e => isRelease e.frame)) := .of rfl (by decide +kernel)

/-- A candidate for antenna 1 in a phase. -/
def aCand (p : Phase) : Candidate := ⟨1, 0, p, false, none, false⟩

/-- The part with a CLAIM for antenna 1 in flight, its candidate QUEUED, and some peers. -/
def claiming (l : List PeerRecord) : State :=
  ((withQueue [aClaim 1]).setSlot .main ⟨none, [], some (aCand .queued)⟩).setPt ⟨l, true, false⟩

/-- R55, R103: the window is 20 ms at level 0, 40 units. -/
theorem test_claim_complete : After .claimComplete (claiming [])
    (fun t => (t.slot .main).cand == some (aCand (.window 1040))) := .of rfl (by decide +kernel)

/-- R103: with the antenna held by a peer the claim is lost. -/
theorem test_claim_complete_lost : After .claimComplete (claiming [aPeer (some ⟨1, 0, 4, 900⟩)])
    (fun t => (t.slot .main).cand == none && t.lc.queue.any (fun e => isRelease e.frame)) := .of rfl (by decide +kernel)

/-- R105: the candidate is HELD with tenure 0. -/
theorem test_window_ends : After (.claimWindowExpiry .main) (with1 .main ⟨none, [], some (aCand (.window 1040))⟩)
    (fun t => (t.slot .main).held.map (fun h => (h.antenna, h.tenure, h.period)) == some (1, 0, .running 1540)) := .of rfl (by decide +kernel)

/-- R106. -/
theorem test_tenure_period : After (.tenurePeriodExpiry .main) (with1 .main ⟨some (aHold 1 0), [], none⟩)
    (fun t => (t.slot .main).held.map (fun h => (h.tenure, h.period)) == some (6, .running 2000)) := .of rfl (by decide +kernel)

/-- R110: the freeing part goes. -/
theorem test_release_complete : After .releaseComplete ((withQueue [aRelease]).setSlot .main ⟨none, [⟨1, 0, 0, 5, 4, .voluntary, none, true⟩], none⟩)
    (fun t => (t.slot .main).freeing == [] && t.lc.queue == []) := .of rfl (by decide +kernel)

/-- R110, R47: the first of two equal RELEASEs is that of a hold given up earlier, and the freeing part waits for its own. -/
theorem test_release_of_earlier_hold : After .releaseComplete
    (((withQueue [aRelease]).setLc { (withQueue [aRelease]).lc with
      queue := (withQueue [aRelease]).lc.queue ++ [waiting aRelease] }).setSlot .main
        ⟨none, [⟨1, 0, 0, 5, 4, .voluntary, none, true⟩], none⟩)
    (fun t => (t.slot .main).freeing.length == 1 && t.lc.queue == [waiting aRelease]) := .of rfl (by decide +kernel)

/-- R113. -/
theorem test_reservation_ends : After (.reservationExpiry 2) (joined.setCt { joined.ct with reservations := [⟨2, 5, 1080⟩, ⟨8, 5, 1090⟩] })
    (fun t => t.ct.reservations == [⟨8, 5, 1090⟩] && t.now == 1080) := .of rfl (by decide +kernel)

/-- R116. -/
theorem test_relearn_ends : After .relearnQuietExpiry (joined.setCt { joined.ct with relearn := .running 1800 })
    (fun t => t.ct.relearn == .stopped && t.now == 1800) := .of rfl (by decide +kernel)

/-- R126. -/
theorem test_grow_window : After .growWindowExpiry (with1 .main ⟨some { aHold 4 6 with grow := some ⟨7, .window 1040, none⟩ }, [], none⟩)
    (fun t => (t.slot .main).held.map (fun h => (h.mask, h.grow)) == some (7, none)) := .of rfl (by decide +kernel)

/-- R98, R100: a candidate QUEUED and its CLAIM in the queue. -/
theorem test_select_main : After (.selectMain 1) joined
    (fun t => (t.slot .main).cand == some (aCand .queued) && t.pi.answer == some ⟨.key 1, .accepted⟩ && t.lc.queue == [waiting (aClaim 1)]) := .of rfl (by decide +kernel)

/-- R99 check 5: antenna 2 does not cover band 2. -/
theorem test_select_main_not_covered : After (.selectMain 2) (joined.setFu { joined.fu with freq := some 36000, band := 2 })
    (fun t => t.pi.answer == some ⟨.key 2, .denied .notCovered⟩ && t.ct == joined.ct) := .of rfl (by decide +kernel)

/-- R21: group 2 is disabled, its port 8 being of kind MAIN, and a claim of antenna 8 is refused. -/
theorem test_disabled_port_refused : After (.selectMain 8)
    (joined.setPs { joined.ps with plan := some { testPlan with
      groups := [⟨true, 4, 5, 6, 7, 6⟩, ⟨false, 8, 5, 6, 0, 6⟩] ++ List.replicate 2 ⟨false, 0, 0, 0, 0, 4⟩ } })
    (fun t => t.pi.answer == some ⟨.key 8, .denied .noSuchAntenna⟩ && t.ct == joined.ct) := .of rfl (by decide +kernel)

/-- R97, R99 check 3: AUX takes RXONLY antennas alone; the code is 48 + n. -/
theorem test_select_aux_wrong_kind : After (.selectAux 1) joined
    (fun t => t.pi.answer == some ⟨.key 49, .denied .wrongKind⟩) := .of rfl (by decide +kernel)

/-- R101: BUSY in wait mode is answered waiting. -/
theorem test_select_next_waits : After (.selectNext 8) ((withPeers [aPeer (some ⟨8, 0, 4, 900⟩)]).setPi { joined.pi with waitMode := true })
    (fun t => t.pi.answer == some ⟨.key 104, .waiting⟩ && t.ct.waitList == [⟨8, .nextA, 0, false⟩]) := .of rfl (by decide +kernel)

/-- R109, R110, R175: the hold is freeing; its line is off as the break begins, and its RELEASE follows. -/
theorem test_drop_main : After .dropMain keyable
    (fun t => (t.slot .main).held == none && (t.slot .main).freeing.map (fun p => p.released) == [true] && t.rd.state == .breaking &&
      t.rd.lines == ⟨0, 1, 0, 0⟩ && t.lc.queue == [waiting aRelease]) := .of rfl (by decide +kernel)

/-- R192: a drop of nothing is accepted. -/
theorem test_drop_aux_empty : After .dropAux joined
    (fun t => t.pi.answer == some ⟨.key 235, .accepted⟩ && t.ct == joined.ct) := .of rfl (by decide +kernel)

/-- R192: NEXT-B before NEXT-A. -/
theorem test_drop_next : After .dropNext ((with1 .nextA ⟨some (aHold 1 0), [], none⟩).setSlot .nextB ⟨some (aHold 8 0), [], none⟩)
    (fun t => (t.slot .nextA).held == some (aHold 1 0) && (t.slot .nextB).held == none) := .of rfl (by decide +kernel)

/-- R120. -/
theorem test_stack_mask_panel : After (.stackMask 3) joined
    (fun t => t.ct.panelMask == some 3) := .of rfl (by decide +kernel)

/-- R123: with AMP KEY off and no line on, the shrink ends at once and an assert tells it. -/
theorem test_stack_mask_shrinks : After (.stackMask 4) (with1 .main ⟨some (aHold 4 6), [], none⟩)
    (fun t => (t.slot .main).held.map (fun h => (h.mask, h.shrink)) == some (4, none) && t.lc.queue.length == 1) := .of rfl (by decide +kernel)

/-- R133. -/
theorem test_ask_zero : After (.ask 0) joined
    (fun t => t.hu.ask == .choosing 1000 0) := .of rfl (by decide +kernel)

/-- R134: the one holder is the target and a wait entry stands. -/
theorem test_ask_stands : After (.ask 1) (withPeers [aPeer (some ⟨1, 0, 4, 900⟩)])
    (fun t => t.hu.ask == .standing 5 1 .main 1000 0 && t.ct.waitList == [⟨1, .main, 0, true⟩]) := .of rfl (by decide +kernel)

/-- The part holding antenna 8 in NEXT-A, asked for it by position 5. -/
def asked : State :=
  (with1 .nextA ⟨some (aHold 8 0), [], none⟩).setHu { HandOver.reset with latch := some ⟨5, 8, none⟩ }

/-- R140, R110: in a NEXT slot the RELEASE with reason YIELDED for the asker goes at once. -/
theorem test_give : After .give asked
    (fun t => t.hu.answer == some ⟨5, 8, .giving⟩ && t.lc.queue == [waiting ⟨3, .release ⟨.nextA, 8, 1, true, 5⟩⟩]) := .of rfl (by decide +kernel)

/-- R130: the only member given, though a grow is on: the whole port goes, YIELDED. -/
theorem test_give_only_member : After .give
    ((with1 .main ⟨some { aHold 4 2 with grow := some ⟨6, .window 1040, none⟩ }, [], none⟩).setHu
      { HandOver.reset with latch := some ⟨5, 6, none⟩ })
    (fun t => (t.slot .main).held == none && t.lc.queue.any (fun e => isRelease e.frame)) := .of rfl (by decide +kernel)

/-- R142: 40 periods of 500 units. -/
theorem test_keep : After .keep asked
    (fun t => t.hu.answer == some ⟨5, 8, .keep⟩ && t.hu.keepTimer == .running 21000 && t.hu.latch == none) := .of rfl (by decide +kernel)

/-- The part with an ask out since 500 and a KEEP shown. -/
def asking : State :=
  (withPeers [aPeer (some ⟨1, 0, 4, 900⟩)]).setHu
    ⟨.standing 5 1 .main 500 1, none, some ⟨6, 8, .keep⟩, .running 2000⟩

/-- R136: 40 periods after 500. -/
theorem test_ask_life : After .askLifeExpiry asking
    (fun t => t.hu.ask == .none && t.now == 20500) := .of rfl (by decide +kernel)

/-- R132: the second whole period ends at 1500. -/
theorem test_ask_period : After .askAgeWholePeriod (joined.setHu { HandOver.reset with ask := .choosing 500 1 })
    (fun t => t.hu.ask == .choosing 500 2 && t.now == 1500) := .of rfl (by decide +kernel)

/-- R142. -/
theorem test_keep_life : After .keepLifeExpiry asking
    (fun t => t.hu.answer == none && t.hu.keepTimer == .stopped && t.now == 2000) := .of rfl (by decide +kernel)

theorem test_permit : keyable.ie.permit = true := by decide +kernel

/-- R163: a press with the permit true announces the key. -/
theorem test_press : After .pttPress keyable
    (fun t => t.ks.state == .announce && t.lc.queue.length == 1) := .of rfl (by decide +kernel)

/-- R148, R163: with no antenna held the press ends in LOCKOUT. -/
theorem test_press_refused : After .pttPress joined.evaluate
    (fun t => t.ks.state == .lockout && t.ks.lockout == some (.inhibit .noAntenna) && t.ks.refusals == 1) := .of rfl (by decide +kernel)

/-- The part in a sequencer state with PTT pressed, its timer running out at 1030. -/
def keyed (st : SeqState) : State :=
  keyable.setKs { KeySeq.reset with
    state := st, ptt := true, timer := .running 1030, keyTenure := 2, tenurePeriod := .running 1100,
    tailCause := if st = .tail then some .release else none }

/-- The part in ANNOUNCE with its KEY on in flight. -/
def announced : State :=
  ((keyed .announce).setLc (withQueue [aKey true false]).lc).setKs { (keyed .announce).ks with keyOnOutstanding := true }

/-- R123, R129: a shrink after a grow that ended keyed waits for AMP KEY off, though the drive is its mask. -/
theorem test_shrink_waits_keyed : After (.stackMask 4)
    ((keyed .transmit).setSlot .main ⟨some { aHold 4 6 with drive := 4 }, [], none⟩)
    (fun t => (t.slot .main).held.map (fun h => (h.mask, h.shrink)) == some (6, some ⟨4, none⟩)) := .of rfl (by decide +kernel)

/-- R167: the tail of 15 ms, 30 units, and a KEY off. -/
theorem test_release_in_transmit : After .pttRelease (keyed .transmit)
    (fun t => t.ks.state == .tail && t.ks.timer == .running 1030 && t.lc.queue.any (fun e => isKey e.frame)) := .of rfl (by decide +kernel)

/-- R166: back to RECEIVE. -/
theorem test_release_in_announce : After .pttRelease announced
    (fun t => t.ks.state == .receive && !t.ks.ptt) := .of rfl (by decide +kernel)

/-- R165: AMP KEY goes on. -/
theorem test_key_complete : After .keyComplete announced
    (fun t => t.ks.state == .ampOn && t.ks.timer == .running 1030 && t.ks.keyTenureLink == 9) := .of rfl (by decide +kernel)

/-- R167: TRANSMIT, RADIO INHIBIT released. -/
theorem test_t_seq : After .tSeqExpiry (keyed .ampOn)
    (fun t => t.ks.state == .transmit && !t.radioInhibit) := .of rfl (by decide +kernel)

/-- R168: with PTT pressed again the press is judged, and announces. -/
theorem test_tail : After .tailExpiry (keyed .tail)
    (fun t => t.ks.state == .announce && !t.ampKey && t.ks.keyTenure == 0) := .of rfl (by decide +kernel)

/-- R169. -/
theorem test_key_tenure : After .keyTenurePeriodExpiry (keyed .transmit)
    (fun t => t.ks.keyTenure == 3 && t.ks.tenurePeriod == .running 1600) := .of rfl (by decide +kernel)

/-- The part in a relay transition, its timer running out at 1020. -/
def moving (st : RelayState) (on target : BitVec 32) : State :=
  keyable.setRd ⟨⟨on, 1, 0, 0⟩, ⟨target, 1, 0, 0⟩, st, .running 1020, true⟩

/-- R176: the target's lines turn on and the make time, 25 ms, runs. -/
theorem test_break_ends : After .breakExpiry (moving .breaking 0 1)
    (fun t => t.rd.lines.ant == 1 && t.rd.state == .making && t.rd.timer == .running 1070) := .of rfl (by decide +kernel)

/-- R177. -/
theorem test_make_ends : After .makeExpiry (moving .making 1 1)
    (fun t => t.rd.state == .steady && t.ie.permit) := .of rfl (by decide +kernel)

/-- R183: a duration of 0 is 1 s. -/
theorem test_quiet : After (.quietCommand 5 ⟨true, 0, 0⟩) (hearing joined)
    (fun t => t.cu.quiet == some ⟨5, 1⟩ && t.cu.quietTimer == .running 3000 && t.ie.reason == some .stationQuiet) := .of rfl (by decide +kernel)

/-- R184. -/
theorem test_quiet_end : After (.quietEndCommand 5 ⟨true, 0, 0⟩) (hearing (joined.setCu { CommandUnit.reset with quiet := some ⟨5, 9⟩, quietTimer := .running 1500 }))
    (fun t => t.cu.quiet == none && t.cu.quietTimer == .stopped) := .of rfl (by decide +kernel)

/-- R182: a REJOIN for another position is recorded and not applied. -/
theorem test_rejoin_other_position : After (.rejoinCommand 5 ⟨false, 4, 0⟩) (hearing joined)
    (fun t => t.jc.state == .run && t.cu.last == some ⟨.rejoin, 5, false, 4, false⟩) := .of rfl (by decide +kernel)

/-- R186, R116: relearn quiet of 2P. -/
theorem test_relearn : After (.relearnCommand 5 ⟨true, 0, 0⟩) (hearing (withPeers [aPeer none]))
    (fun t => t.pt.records == [] && t.ct.relearn == .running 2000) := .of rfl (by decide +kernel)

/-- R181. -/
theorem test_own_command : After .commandComplete ((withQueue [aCommand]).setCu { CommandUnit.reset with outstanding := some .quiet })
    (fun t => t.cu.outstanding == none && t.cu.quiet == some ⟨3, 60⟩) := .of rfl (by decide +kernel)

/-- R183: the last second ends it. -/
theorem test_quiet_second : After .quietSecondExpiry (joined.setCu { CommandUnit.reset with quiet := some ⟨5, 1⟩, quietTimer := .running 1500 })
    (fun t => t.cu.quiet == none && t.now == 1500) := .of rfl (by decide +kernel)

/-- R193. -/
theorem test_wait_key : After .wait joined
    (fun t => t.pi.waitMode && t.pi.answer == some ⟨.key 224, .valueSet⟩) := .of rfl (by decide +kernel)

/-- R194. -/
theorem test_cancel_key : After .cancel (asking.setCt { asking.ct with waitList := [⟨1, .main, 0, true⟩], panelMask := some 3 })
    (fun t => t.ct.waitList == [] && t.ct.panelMask == none && t.hu.ask == .none) := .of rfl (by decide +kernel)

/-- R188. -/
theorem test_standby_key : After .standby joined
    (fun t => t.cu.standby && t.ie.reason == some .standby) := .of rfl (by decide +kernel)

/-- R181: all, 60 s. -/
theorem test_quiet_key : After .quietKey joined
    (fun t => t.lc.queue == [waiting aCommand] && t.cu.outstanding == some .quiet) := .of rfl (by decide +kernel)

/-- R181. -/
theorem test_quiet_end_key_busy : After .quietEndKey (joined.setCu { CommandUnit.reset with outstanding := some .quiet })
    (fun t => t.pi.answer == some ⟨.key 230, .denied .busy⟩ && t.lc.queue == []) := .of rfl (by decide +kernel)

/-- R181. -/
theorem test_relearn_key : After .relearnKey joined
    (fun t => t.lc.queue == [waiting ⟨3, .command .relearn ⟨true, 0, 0⟩⟩]) := .of rfl (by decide +kernel)

/-- R181. -/
theorem test_rejoin_pos_key : After (.rejoinPos (some 9)) joined
    (fun t => t.lc.queue == [waiting ⟨3, .command .rejoin ⟨false, 9, 0⟩⟩]) := .of rfl (by decide +kernel)

/-- R197. -/
theorem test_clear_counters : After .clearCounters (joined.setLc { joined.lc with lineErrors := 9, overflows := 9, level := 2 })
    (fun t => t.lc.lineErrors == 0 && t.lc.overflows == 0 && t.lc.level == 2) := .of rfl (by decide +kernel)

/-- R191. -/
theorem test_unknown_key : After (.undefinedKeyCode 217 false) joined
    (fun t => t.pi.answer == some ⟨.nothing, .unknown⟩) := .of rfl (by decide +kernel)

/-- R196. -/
theorem test_key_in_load : After (.selectMain 1) State.reset
    (fun t => t.pi.answer == some ⟨.key 1, .wait⟩) := .of rfl (by decide +kernel)

/-- R199: the pending change starts the next record. -/
theorem test_record_sent : After .displayRecordSent (joined.setPi { PanelIf.reset with last := some State.reset.displayed, inFlight := true, pendingChange := true })
    (fun t => t.pi.inFlight && t.pi.last == some joined.displayed) := .of rfl (by decide +kernel)

/-- R200: the first record shows LOAD, whatever the first command. -/
theorem test_first_record : After (.planReadEnd []) State.reset
    (fun t => t.pi.inFlight && t.pi.last == some State.reset.displayed && t.pi.pendingChange) := .of rfl (by decide +kernel)

/-- R199: 1 s after the last. -/
theorem test_record_refresh : After .displayRefreshExpiry (joined.setPi { PanelIf.reset with last := some joined.displayed, refresh := .running 2500 })
    (fun t => t.pi.inFlight && t.pi.refresh == .running 4500) := .of rfl (by decide +kernel)

/-! ### The hypotheses of each statement are met, every clause of them -/

theorem witness_StepTakesFrontCommand :
    (joined.setPending [.wait]).pending = .wait :: [] ∧ joined.pending = [] := ⟨rfl, rfl⟩

/-- The part inside a sentence. -/
def decoding (d : Decoder) : State := joined.setFu { joined.fu with decoder := d }

theorem witness_SentenceDecoderMoves :
    joined.fu.decoder.state = .hunt ∧ charClass 13 false = .cr ∧ charClass 35 false = .hash ∧
    (atEnd 0).fu.decoder.state = .endMark ∧ (atEnd 0).fu.decoder.check = (atEnd 0).fu.decoder.sum % 256 ∧
    (decoding ⟨.digits, 6, 0, 0, 0, 0⟩).fu.decoder.state = .digits ∧
    (decoding ⟨.digits, 7, 0, 0, 0, 0⟩).fu.decoder.digits + 1 = 8 ∧ charClass 48 false = .digit 0 ∧
    charClass 57 false = .digit 9 ∧ (decoding ⟨.check, 8, 0, 0, 1, 0⟩).fu.decoder.state = .check ∧
    charClass 70 false = .hexLetter 15 ∧ charClass 71 false = .other ∧ charClass 13 true = .other ∧
    (decoding ⟨.endMark, 8, 0, 0, 2, 1⟩).fu.decoder.check ≠ 0 := by decide

theorem witness_AcceptedSentenceSetsFrequency :
    (atEnd 99999999).fu.decoder.state = .endMark ∧
    (atEnd 99999999).fu.decoder.check = (atEnd 99999999).fu.decoder.sum % 256 ∧
    (atEnd 99999999).fu.decoder.hz ≤ 99999999 ∧ (atEnd 99999999).fu.freq ≠ some 1000000 := by decide +kernel

theorem witness_BandLookupTakesFirstEntry :
    State.reset.ps.plan = none ∧ State.reset.lookup 18000 = 0 ∧ joined.lookup 18000 = 1 ∧
    joined.lookup 20000 = 1 ∧ joined.lookup 20001 = 0 ∧ joined.lookup 38000 = 2 := by decide +kernel

theorem witness_TwelveCharactersSetFrequency :
    let s := joined.setPending (sentence [0, 1, 8, 5, 0, 0, 5, 0]); s.fu.decoder.state = .hunt ∧
    s.pending = sentence [0, 1, 8, 5, 0, 0, 5, 0] ∧ digitsValue [0, 1, 8, 5, 0, 0, 5, 0] = 1850050 := by decide +kernel

theorem witness_FreshnessExpiryHoldsBand :
    joined.fu.freshness = .running 9000 ∧ joined.fu.freq ≠ none := by decide

theorem witness_PowerOnResetRestoresBlocks :
    (keyed .transmit).ks.ptt = true ∧ keyable.ks.ptt = false := by decide +kernel

/-- Bytes that stand for a plan with two enabled groups: ports 1 and 4, members 2, 3 and 5, 6. -/
def groupBytes : List Byte :=
  [(84, 96), (91, 128), (98, 128), (105, 96), (112, 128), (119, 128), (308, 1), (309, 2), (310, 3), (313, 4),
    (314, 5), (315, 6)].foldl (fun l x => l.set x.1 (BitVec.ofNat 8 x.2)) (List.replicate 519 0)

set_option maxRecDepth 20000 in
theorem witness_PlanReadEndTakesSections :
    State.reset.jc.state = .load ∧ (crcBytes ((List.replicate 519 (0 : Byte)).take 3) = 0 ∧
      crcBytes (((List.replicate 519 (0 : Byte)).drop 4).take 514) = 0) ∧
    ¬ 519 ≤ (List.replicate 518 (0 : Byte)).length := by decide +kernel

theorem witness_EnabledGroupsAreDisjoint :
    (readPlan groupBytes).groups.map (fun g => (g.enabled, g.port)) = [(true, 1), (true, 4), (false, 0), (false, 0)] ∧
    (readPlan groupBytes).groups.map (fun g => (g.m1, g.m2, g.m3, g.mask)) =
      [(2, 3, 0, 6), (5, 6, 0, 6), (0, 0, 0, 6), (0, 0, 0, 6)] := by
  decide +kernel

theorem witness_NumberChoiceTakesFirstFree :
    (listening none false [14, 15]).chooseFrom 14 = some 0 ∧
    (listening none false ((List.range 16).map (BitVec.ofNat 4))).chooseFrom 14 = none := by decide +kernel

theorem witness_ListenExpiryJoinsOrProbes :
    [listening (some 9) false [], listening none true [], listening none false [],
      listening none false ((List.range 16).map (BitVec.ofNat 4))].map
      (fun s => (s.jc.listenTimer, s.jc.number, s.ps.fixedNumber, s.chooseFrom s.ps.preferred)) =
    [(.running 1200, some 9, false, some 14), (.running 1200, none, true, some 14),
      (.running 1200, none, false, some 14), (.running 1200, none, false, none)] ∧
    (listening none false []).lc.queue.length < 8 ∧
    ¬ ((listening none false []).setLc (fullQueue aCommand)).lc.queue.length < 8 := by decide +kernel

theorem witness_ProbeOutThenNumberTaken :
    probing.flight isProbe = some ⟨14, .probe ⟨7, 0, true⟩⟩ ∧ probing.jc.state = .probe ∧
    probing.jc.tentative = some 14 ∧ probing.jc.probeWait = .running 1200 ∧ probing.lc.receiver = .frame := by
  decide +kernel

theorem witness_LeavingCompleteEmptiesPart :
    [leaving .rejoin, leaving .duplicate, (leaving .duplicate).setPs { joined.ps with fixedNumber := true }].all
      (fun s => s.jc.state == .leaving && s.rd.state == .steady && s.rd.lines.ant == 0 && s.lc.queue == []) = true := by decide +kernel

theorem witness_RejoinSelfStartsLeaving :
    [JoinState.run, .listen, .probe, .unnumbered, .duplicate, .leaving, .unplanned].map
      (fun x => (joined.setJc { joined.jc with state := x }).jc.state) =
    [.run, .listen, .probe, .unnumbered, .duplicate, .leaving, .unplanned] := by decide +kernel

theorem witness_ReceiverAndFlightMoves :
    State.reset.lc.receiver = .sync ∧ (joined.setLc { joined.lc with queue := [waiting aCommand] }).lc.receiver = .idle ∧
    (joined.setLc { joined.lc with queue := [waiting aCommand] }).lc.queue = waiting aCommand :: [] ∧
    flights [waiting aCommand] = [] ∧ flights (withQueue [aCommand, aStatus]).lc.queue = [aCommand] ∧
    comesIn (.frameFault .crcFault) = true ∧ comesIn (.statusReceived 5 plainStatus) = true ∧
    joined.lc.receiver ≠ .frame ∧ flying (withQueue [aStatus]).lc.queue = some ⟨aStatus, true, false⟩ ∧
    (withQueue [aStatus]).lc.heldStatus = none ∧ flying [⟨aClaim 1, true, true⟩] = some ⟨aClaim 1, true, true⟩ := by
  decide +kernel

theorem witness_LineFaultsAreCounted :
    flights (withQueue [aCommand]).lc.queue = [aCommand] ∧ joined.timing.atkImm = 4 ∧
    (hearing joined).lc.receiver = .frame ∧ flying (withQueue [aKey true false]).lc.queue = some ⟨aKey true false, true, false⟩ ∧
    (withQueue [aKey true false]).lc.heldKey = none ∧
    [2, 3].map (fun n => decide (joined.timing.atkImm ≤ (joined.setLc { joined.lc with errorCount := n }).lc.errorCount + 1)) =
      [false, true] := by decide +kernel

/-- The part with ATK_DLY 3 and some errors in its adaptation period. -/
def adapting (n : Nat) : State :=
  (joined.setPs { joined.ps with plan := some { testPlan with timing := { defaultTiming with atkDly := 3 } } }).setLc
    { joined.lc with errorCount := n }

theorem witness_AdaptationPeriodSetsLevel :
    (adapting 0).lc.adaptation = .running 4000 ∧ (adapting 0).timing.atkDly = 3 ∧
    [0, 2, 3].map (fun n => (adapting n).lc.errorCount) = [0, 2, 3] := by decide +kernel

/-- R100, R112: a candidate that the full queue refuses has left its slot, so a pass over the wait list follows,
which takes the entry of the absent antenna 32 out. -/
theorem test_refused_claim_serves_wait_list : After (.selectMain 1)
    ((joined.setLc (fullQueue aCommand)).setCt { joined.ct with waitList := [⟨32, .aux, 0, false⟩] })
    (fun t => (t.slot .main).cand == none && t.ct.waitList == [] && !t.ct.passDue) := .of rfl (by decide +kernel)

theorem witness_OffersCoalesceEnterOrAreRefused :
    isCommand aCommand = true ∧ LinkCtl.reset.queue.length < 8 ∧ 8 ≤ (fullQueue aStatus).queue.length ∧
    aCommand.body.classValue < 4 ∧ (unsent isStatus (fullQueue aStatus).queue).isSome = true ∧
    (unsent isStatus (fullQueue aCommand).queue).isSome = false ∧ isProbe ⟨14, .probe ⟨7, 0, true⟩⟩ = true ∧
    4 ≤ FrameBody.classValue (.probe ⟨7, 0, true⟩) ∧
    isStatus aStatus = true ∧ flyingIs isStatus (withQueue [aStatus]).lc.queue = true ∧
    isKey (aKey true false) = true ∧ flyingIs isKey (withQueue [aKey true false]).lc.queue = true ∧
    flyingIs isStatus (fullQueue aStatus).queue = false ∧
    (unsent (isClaimFor .main 1) (fullQueue (aClaim 1)).queue).isSome = true ∧
    flyingIs isKey (fullQueue (aKey true false)).queue = false ∧
    unsent isKey (fullQueue (aKey true false)).queue = some (aKey true false) ∧
    isPlainKeyOn (aKey true false) = true ∧ isPlainKeyOn (aKey true true) = false ∧
    (unsent (isClaimFor .main 1) LinkCtl.reset.queue).isSome = false := by decide +kernel

theorem witness_StatusReplacesPeerHead :
    (FrameBody.status plainStatus).fault = none ∧ (hearing joined).lc.receiver = .frame ∧ (hearing joined).jc.number ≠ some 5 ∧
    (hearing joined).pt.records.length < 15 ∧ ((withPeers [aPeer none]).pt.find 5).isSome = true ∧
    plainStatus.cadence = 0 ∧ statusSlots plainStatus = allSlots ∧
    (let f : StatusFrame := { plainStatus with cadence := 2, ident := none, entries := [⟨8, 0, 4⟩] };
      (FrameBody.status f).fault = none ∧ Slot.aux ∉ statusSlots f ∧ tokenDiffers f (aPeer none) = false ∧
      tokenDiffers plainStatus { aPeer none with token := some 8 } = true ∧ f.cadence ≠ 0) ∧
    (aPeer none).live = true ∧ ({ aPeer none with live := false } : PeerRecord).slotsReported.get .aux = false ∧
    (hearing joined).jc.state = .run := by decide +kernel

/-- R62, R75: a QUAD STATUS leaves a PARTIAL record PARTIAL and link lost set; a SINGLE one clears it. -/
theorem test_status_partial :
    After (.statusReceived 5 { plainStatus with cadence := 2, ident := none, entries := [⟨8, 0, 4⟩] })
      (hearing (joined.setPt ⟨[{ aPeer none with live := false }], true, true⟩))
      (fun t => (t.pt.find 5).map (fun r => (r.live, r.token)) == some (false, none) && t.pt.linkLost) ∧
    After (.statusReceived 5 plainStatus) (hearing (joined.setPt ⟨[{ aPeer none with live := false }], true, true⟩))
      (fun t => (t.pt.find 5).map (fun r => r.live) == some true && !t.pt.linkLost) :=
  ⟨.of rfl (by decide +kernel), .of rfl (by decide +kernel)⟩

/-- The part with a CLAIM for antenna 1 unsent in the queue, its candidate QUEUED, and position 5 holding it. -/
def outrun : State :=
  (claiming [aPeer (some ⟨1, 0, 9, 900⟩)]).setLc { joined.lc with queue := [waiting (aClaim 1)] }

/-- The part holding antenna 1 with tenure 4 on the link, position 5 claiming it with tenure 9. -/
def outranked : State := (with1 .main ⟨some (aHold 1 0), [], none⟩).setPt ⟨[aPeer (some ⟨1, 0, 9, 900⟩)], true, false⟩

/-- The part growing port 4 by member 7, in WINDOW, position 5 holding that member. -/
def growing : State :=
  (with1 .main ⟨some { aHold 4 6 with grow := some ⟨7, .window 1040, none⟩ }, [], none⟩).setPt
    ⟨[aPeer (some ⟨7, 0, 9, 900⟩)], true, false⟩

/-- Some antenna of a list is touched and not available. -/
def filledAt (s : State) (touched l : List Antenna) : Bool := l.any (fun a => touched.contains a && !s.available a)

theorem witness_ClaimSetsPeerEntry :
    (FrameBody.claim ⟨.main, 32, 0, false, 63, 0⟩).fault = none ∧ (FrameBody.claim ⟨.main, 0, 0, false, 0, 0⟩).fault = none ∧
    (hearing joined).jc.number ≠ some 5 ∧ (hearing joined).lc.receiver = .frame ∧ (hearing joined).jc.state = .run ∧
    ((withPeers [aPeer (some ⟨32, 0, 0, 900⟩)]).pt.find 5).isSome = true ∧
    (outrun.lc.queue.length < 6 ∧ (outrun.slot .main).cand = some (aCand .queued) ∧
      filledAt outrun [1] (outrun.uses 1 0) = true ∧ filledAt outrun [2] (outrun.uses 1 0) = false ∧
      (unsent (isPlainClaimFor .main 1) outrun.lc.queue).isSome = true ∧ outrun.pi.waitMode = false) ∧
    (unsent (isPlainClaimFor .main 1) (claiming [aPeer (some ⟨1, 0, 9, 900⟩)]).lc.queue = none) ∧
    (let s := outranked.setSlot .main ⟨none, [], some (aCand (.window 1040))⟩;
      filledAt s [1] (s.uses 1 0) = true ∧
      News.assertClaim.strong = true ∧ (News.plainClaim 0).strong = false ∧ s.mayAssert .main 1 none = true) ∧
    (News.assertClaim.ranks = true ∧ outranked.losesRank (aHold 1 0) 1 = true ∧ (outranked.uses 1 0).contains 1 = true ∧
      outranked.mayAssert .main 1 none = true ∧ (outranked.slot .main).cand = none) ∧
    filledAt growing [7] (growing.membersOf 4 (7 &&& ~~~6)) = true ∧
    filledAt growing [6] (growing.membersOf 4 (7 &&& ~~~6)) = false := by decide +kernel

/-- The part on the air on a single-signal band with a LIVE peer 5 on it. -/
def onAir : State := hearing ((keyed .ampOn).setPt ⟨[aPeer none], true, false⟩)

theorem witness_ReleaseAndKeySetPeerRecord :
    (FrameBody.release ⟨.main, 5, 1, true, 6⟩).fault = none ∧ (FrameBody.release ⟨.main, 4, 4, false, 0⟩).fault = none ∧
    (let s := hearing (withPeers [aPeer (some ⟨4, 4, 4, 900⟩)]);
      s.pt.find 5 = some (aPeer (some ⟨4, 4, 4, 900⟩)) ∧ s.jc.number ≠ some 5 ∧ s.lc.receiver = .frame ∧
        (4 : Mask) &&& s.placeIn 4 5 ≠ 0 ∧ (4 : Mask) &&& s.placeIn 4 6 = 0 ∧
        (4 : Mask) &&& ~~~s.placeIn 4 5 &&& s.placesOf 4 = 0 ∧ (6 : Mask) &&& ~~~s.placeIn 4 5 &&& s.placesOf 4 ≠ 0 ∧
        s.jc.state = .run ∧ s.jc.number ≠ some 6 ∧ s.jc.number = some 3 ∧ s.membersOf 4 6 = [5, 6]) ∧
    (let s := (withPeers [aPeer (some ⟨8, 0, 4, 900⟩)]).setCt { joined.ct with waitList := [⟨8, .nextA, 0, false⟩] };
      s.waitEntry 8 = some ⟨8, .nextA, 0, false⟩ ∧ (s.slot .nextA).cand = none ∧ s.pt.disagreement = false ∧
        (s.applyRelease 5 ⟨.main, 8, 1, true, 3⟩).localCheck .nextA 8 0 = none ∧ s.lc.queue.length < 7) ∧
    (onAir.pt.find 5 = some (aPeer none) ∧ onAir.ks.state = .ampOn ∧ (onAir.bandEntry 1).single = true ∧
      onAir.fu.band = 1 ∧ (aPeer none).live = true ∧ (aPeer none).standby = false ∧ onAir.lc.queue.length < 8) := by
  decide +kernel

theorem witness_OwnNumberShowsDuplicate :
    (hearing joined).jc.number = some 3 ∧ (hearing joined).jc.state = .run ∧ (hearing joined).lc.receiver = .frame ∧
    (FrameBody.status plainStatus).fault = none ∧ (FrameBody.claim ⟨.main, 32, 0, false, 63, 0⟩).fault = none ∧
    (FrameBody.release ⟨.main, 5, 1, true, 6⟩).fault = none := by decide +kernel

theorem witness_ProbeFailsAttemptOrIsAnswered :
    probing.jc.state = .probe ∧ probing.jc.tentative = some 14 ∧ probing.lc.receiver = .frame ∧
    (let s := hearing joined; s.jc.state = .run ∧ s.jc.number = some 3 ∧ s.lc.receiver = .frame ∧
      s.sg.running = true ∧ flyingIs isStatus s.lc.queue = false ∧ s.lc.queue.length < 8) ∧
    (dropUnsent isProbe probing.lc.queue).length < 8 ∧
    probing.chooseFrom 15 = some 15 ∧
    (let s := probing.setLc { probing.lc with queue := [waiting ⟨14, .probe ⟨7, 0, true⟩⟩] };
      s.lc.queue.any (fun e => !e.inFlight && isProbe e.frame) = true) := by decide +kernel

theorem witness_PeerAgesRunOut :
    (withPeers [aPeer (some ⟨3, 0, 4, 900⟩)]).pt.find 5 = some (aPeer (some ⟨3, 0, 4, 900⟩)) ∧
    (aPeer (some ⟨3, 0, 4, 900⟩)).entries.get .main = some ⟨3, 0, 4, 900⟩ ∧
    After (.peerEntryExpiry 5 .main) (withPeers [aPeer (some ⟨3, 0, 4, 899⟩)]) (fun t => t.pt.records == [aPeer none]) ∧
    After (.peerEntryExpiry 5 .main) (withPeers [aPeer (some ⟨3, 0, 4, 900⟩)]) (fun t => t.pt.records == []) ∧
    (withPeers [aPeer none]).pt.find 5 = some (aPeer none) ∧ ∀ i, (aPeer none).entries.get i = none :=
  ⟨by decide, rfl, .of rfl (by decide +kernel), .of rfl (by decide +kernel), by decide, fun i => by cases i <;> rfl⟩

theorem witness_StatusTimersRun :
    joined.sg.interval = .running 1500 ∧ (joined.setSg { joined.sg with recent := .running 1400 }).sg.recent = .running 1400 ∧
    joined.sg.running = true ∧ flyingIs isStatus (withQueue [aStatus]).lc.queue = true ∧
    flyingIs isStatus joined.lc.queue = false ∧ joined.lc.queue.length < 8 ∧ StatusGen.reset.running = false ∧
    (sliceSlots .single 0)[3]? = some .nextB ∧ (sliceSlots .quad 3)[0]? = some .nextB := by decide +kernel

theorem witness_StatusCompleteRenewsSlots :
    (withQueue [aStatus]).flight isStatus = some ⟨3, .status plainStatus⟩ ∧ joined.sg.running = true ∧
    plainStatus.slice.toNat + 1 = sliceCount (cadenceOfCode plainStatus.cadence) ∧
    ({ plainStatus with cadence := 1 } : StatusFrame).slice.toNat + 1 ≠ sliceCount (cadenceOfCode 1) ∧
    (let f := { plainStatus with entries := [⟨1, 0, 6⟩, ⟨0, 0, 0⟩, ⟨0, 0, 0⟩, ⟨0, 0, 0⟩] };
      (withQueue [⟨3, .status f⟩]).flight isStatus = some ⟨3, .status f⟩ ∧
        (.main, ⟨1, 0, 6⟩) ∈ statusEntries f ∧ (.aux, ⟨0, 0, 0⟩) ∈ statusEntries f) := by decide +kernel

theorem witness_SelfDropLimitFreesSlot :
    (with1 .main ⟨some (aHold 1 0), [], none⟩).slotLive .main = true ∧
    (with1 .main ⟨none, [], some (aCand (.window 1040))⟩).slotLive .main = true ∧ joined.sg.notified.get .main = false ∧
    ((with1 .main ⟨some (aHold 1 0), [], none⟩).slot .main).held = some (aHold 1 0) := by decide +kernel

/-- The part in wait for antenna 8 for NEXT-A. -/
def waitingEight : State := joined.setCt { joined.ct with waitList := [⟨8, .nextA, 0, true⟩] }

theorem witness_ReactionsKeepSlots :
    (let s := (with1 .main ⟨some (aHold 1 0), [], none⟩).setSlot .aux ⟨none, [], some (aCand .queued)⟩;
      (∀ i, s.slotLive i = false → s.slotLive i = false) ∧ (s.slot .main).held = some (aHold 1 0) ∧
        (aHold 1 0).shrink = none ∧ (aHold 1 0).give = none ∧ (s.slot .aux).held = none ∧
        (s.slot .aux).cand = some (aCand .queued)) ∧
    ((waitingEight.setCt { waitingEight.ct with relearn := .running 1800 }).ct.relearn.isRunning = true ∧
      waitingEight.jc.state = .run ∧ waitingEight.sg.obligation = false ∧ waitingEight.ct.relearn.isRunning = false ∧
      waitingEight.pt.linkLost = false ∧ waitingEight.lc.queue.length + waitingEight.ct.waitList.length ≤ 8) ∧
    ((waitingEight.slot .nextA).cand = none ∧ waitingEight.pt.disagreement = false ∧
      waitingEight.localCheck .nextA 8 0 = none ∧ waitingEight.localCheck .nextA 32 0 = some .noSuchAntenna ∧
      waitingEight.localCheck .aux 8 0 = some .wrongKind ∧
      (withPeers [aPeer (some ⟨8, 0, 4, 900⟩)]).localCheck .nextA 8 0 = some .busy) ∧
    (joined.fu.band ≠ 0 ∧ joined.nextCovering = none ∧
      joined.ownRow.map (fun r => r.defaults.getD (joined.fu.band - 1) 0) = some 1 ∧ joined.nextHolding 1 = none ∧
      (joined.slot .main).held = none ∧ joined.lc.queue.length < 7 ∧
      (joined.dropCandidate .main .voluntary).localCheck .main 1 (joined.claimMask .main 1) = none) ∧
    (with1 .nextA ⟨some (aHold 8 0), [], none⟩).nextCovering = some .nextA :=
  ⟨⟨fun _ h => h, rfl, rfl, rfl, rfl, rfl⟩, by decide +kernel, by decide +kernel, by decide +kernel, by decide +kernel⟩

/-- The part with antenna 8 held by a peer, in wait mode. -/
def busyEight : State :=
  (withPeers [aPeer (some ⟨8, 0, 4, 900⟩)]).setPi { joined.pi with waitMode := true }

theorem witness_SelectQueuesCandidateOrRefuses :
    joined.jc.state = .run ∧ joined.nextHolding 1 = none ∧ (joined.slot .main).held = none ∧
    (joined.slot .main).cand = none ∧ joined.localCheck .main 1 (joined.claimMask .main 1) = none ∧
    joined.localCheck .aux 3 (joined.claimMask .aux 3) = none ∧
    joined.localCheck joined.nextSlot 8 (joined.claimMask joined.nextSlot 8) = none ∧ joined.lc.queue.length < 7 ∧
    joined.localCheck .main 32 (joined.claimMask .main 32) = some .noSuchAntenna ∧ Denial.noSuchAntenna.waitable = false ∧
    busyEight.localCheck .main 8 (busyEight.claimMask .main 8) = some .busy ∧ Denial.busy.waitable = true ∧
    busyEight.pi.waitMode = true ∧ busyEight.waitEntry 8 = none ∧ busyEight.ct.waitList.length < 4 ∧
    (let s := joined.setLc (fullQueue aCommand);
      s.localCheck .main 1 (s.claimMask .main 1) = none ∧ 8 ≤ s.lc.queue.length ∧ unsent isStatus s.lc.queue = none) := by
  decide +kernel

theorem witness_SelectOfOwnAntennaPromotesOrRepeats :
    let s := (with1 .main ⟨some (aHold 1 0), [], none⟩).setSlot .nextB ⟨some (aHold 2 0), [], none⟩
    let t := s.setFu { s.fu with freq := some 36000, band := 2 }
    s.jc.state = .run ∧ s.nextHolding 2 = some .nextB ∧ (s.slot .nextB).held = some (aHold 2 0) ∧
      s.sg.obligation = false ∧ (s.antenna 2).covers s.fu.band = true ∧ t.fu.band ≠ 0 ∧
      (t.antenna 2).covers t.fu.band = false ∧ t.nextHolding 2 = some .nextB ∧
      (s.setSg { s.sg with obligation := true }).sg.obligation = true ∧ s.nextHolding 1 = none ∧
      (s.slot .main).held = some (aHold 1 0) ∧ s.groupOf 1 = none := by decide +kernel

theorem witness_ClaimCompleteJudgesView :
    (claiming []).flight isClaim = some ⟨3, .claim ⟨.main, 1, 0, false, 0, 2⟩⟩ ∧
    (claiming []).queuedCand .main 1 = some (aCand .queued) ∧
    unsent (isPlainClaimFor .main 1) (claiming []).lc.queue = none ∧
    ((claiming []).uses 1 0).all (fun a => (claiming []).available a) = true ∧
    (let s := claiming [aPeer (some ⟨1, 0, 4, 900⟩)]; (s.uses 1 0).all (fun a => s.available a) = false ∧
      s.lc.queue.length ≤ 8 ∧ s.leavingSilently = false) ∧
    [growClaiming [], growClaiming [aPeer (some ⟨7, 0, 4, 900⟩)]].all (fun s =>
      s.flight isClaim == some ⟨3, .claim ⟨.main, 4, 7, false, 0, 2⟩⟩ && s.queuedCand .main 4 == none &&
        (s.slot .main).held == some { aHold 4 6 with grow := some ⟨7, .queued, none⟩ } &&
        unsent (isPlainClaimFor .main 4) s.lc.queue == none && decide (s.lc.queue.length ≤ 8)) = true ∧
    [growClaiming [], growClaiming [aPeer (some ⟨7, 0, 4, 900⟩)]].map
      (fun s => (s.membersOf 4 ((7 : Mask) &&& ~~~6)).all (fun a => s.available a)) = [true, false] := by decide +kernel

theorem witness_WindowExpiryMakesHold :
    let s := with1 .main ⟨some (aHold 8 0), [], some (aCand (.window 1040))⟩;
    (s.slot .main).cand = some (aCand (.window 1040)) ∧ (s.slot .main).held = some (aHold 8 0) := by decide +kernel

theorem witness_ClaimTableTimersRun :
    ((with1 .main ⟨some (aHold 1 0), [], none⟩).slot .main).held = some (aHold 1 0) ∧ (aHold 1 0).period = .running 1500 ∧
    (let r : List Reservation := [⟨2, 5, 1080⟩, ⟨8, 5, 1090⟩];
      r.find? (fun x => x.antenna == 2) = some ⟨2, 5, 1080⟩) ∧
    (joined.setCt { joined.ct with relearn := .running 1800 }).ct.relearn = .running 1800 ∧
    ((with1 .main ⟨some { aHold 4 6 with grow := some ⟨7, .window 1040, some 3⟩ }, [], none⟩).slot .main).held.bind
      (fun h => h.grow) = some ⟨7, .window 1040, some 3⟩ ∧
    ((waitingEight.setCt { waitingEight.ct with relearn := .stopped }).localCheck .nextA 8 0 = none ∧
      (waitingEight.slot .nextA).held = none ∧ waitingEight.lc.queue.length < 7) := by decide +kernel

theorem witness_DropKeysFreeSlot :
    joined.jc.state = .run ∧ encodeKey .dropMain = some 234 ∧ encodeKey .dropAux = some 235 ∧ encodeKey .dropNext = some 236 ∧
    (let s := with1 .nextB ⟨some (aHold 8 0), [], some (aCand .queued)⟩;
      (s.slot .nextB).held.isSome = true ∧ (s.slot .nextB).cand = some (aCand .queued)) ∧ (joined.slot .nextB).held = none := by decide +kernel

theorem witness_ReleaseCompleteEndsFreeing :
    (withQueue [aRelease]).flight isRelease = some ⟨3, .release ⟨.main, 1, 0, false, 0⟩⟩ ∧
    (withQueue [⟨3, .release ⟨.nextA, 8, 1, true, 5⟩⟩]).flight isRelease = some ⟨3, .release ⟨.nextA, 8, 1, true, 5⟩⟩ ∧
    (let p : FreeingPart := ⟨1, 0, 0, 5, 4, .voluntary, none, false⟩;
      joined.freeingReady .main p = true ∧ keyable.freeingReady .main p = false ∧ joined.leavingSilently = false ∧
        joined.lc.queue.length < 8) ∧
    (let f : ReleaseFrame := ⟨.nextA, 8, 1, true, 5⟩; let x : FreeingPart := ⟨8, 0, 0, 5, 4, .yielded, some 5, true⟩;
      let s := ((withQueue [⟨3, .release f⟩]).setSlot .nextA ⟨none, [x], none⟩).setHu
        { HandOver.reset with answer := some ⟨5, 8, .giving⟩ };
      f.yieldValid = true ∧ (∀ e ∈ s.lc.queue, e.frame.body = .release f → e.inFlight = true) ∧
        (∀ i ∈ allSlots, (∀ x ∈ (s.slot i).freeing, x.yieldTo = some f.yieldTo → i = f.slot ∧ x.sentBy f = true) ∧
          (s.slot i).held = none) ∧
        (s.setLc { s.lc with queue := s.lc.queue ++ [waiting ⟨3, .release f⟩] }).lc.queue.any
          (fun e => !e.inFlight && e.frame.body == .release f) = true) := by decide +kernel

/-- The part holding port 4 in MAIN with some mask and members joined. -/
def holdingPort (m : Mask) : State := with1 .main ⟨some (aHold 4 m), [], none⟩

theorem witness_StackMaskSetsOrReshapes :
    joined.jc.state = .run ∧ (joined.slot .main).held = none ∧
    ((holdingPort 6).slot .main).held = some (aHold 4 6) ∧
    ((holdingPort 6).groupOf 4).map (fun x => (x.1, x.2.present)) = some (1, 7) ∧
    ((with1 .main ⟨some { aHold 4 6 with shrink := some ⟨4, none⟩ }, [], none⟩).slot .main).held.map
      (fun h => h.shrink.isSome) = some true ∧
    ((6 : Mask) &&& 7 = 6 ∧ (4 : Mask) &&& 7 &&& ~~~(6 : Mask) = 0 ∧ (1 : Mask) &&& 7 &&& ~~~(6 : Mask) ≠ 0) ∧
    (holdingPort 6).growCheck ((holdingPort 6).membersOf 4 ((6 ||| (1 : Mask) &&& 7) &&& ~~~(6 : Mask))) = none ∧
    ((holdingPort 6).setPt ⟨[aPeer (some ⟨7, 0, 4, 900⟩)], true, false⟩).growCheck [7] = some .busy ∧
    (holdingPort 6).lc.queue.length < 8 ∧
    (let h := { aHold 4 6 with drive := 4, shrink := some ⟨4, some 5⟩ }; let s := with1 .main ⟨some h, [], none⟩;
      s.ampKey = false ∧ s.rd.lines.member &&& s.portMemberBits 4 (6 &&& ~~~4) = 0 ∧ s.membersOf 4 (6 &&& ~~~4) = [6] ∧
        (s.setRd { s.rd with lines := ⟨0, 0, s.portMemberBits 4 6, 0⟩ }).rd.lines.member &&&
          s.portMemberBits 4 (6 &&& ~~~4) ≠ 0 ∧
        (s.setKs { s.ks with state := .transmit }).ampKey = true) := by decide +kernel

theorem witness_AskChoosesOrStands :
    joined.jc.state = .run ∧ joined.hu.ask = .none ∧ asking.hu.ask ≠ .none ∧ joined.askCheck 1 = some .notHeld ∧
    (withPeers [aPeer (some ⟨1, 0, 4, 900⟩)]).askCheck 1 = none ∧
    (withPeers [aPeer (some ⟨1, 0, 4, 900⟩)]).waitEntry 1 = none ∧
    (let s := (withPeers [aPeer (some ⟨3, 0, 4, 900⟩)]); let t := s.setCt { s.ct with waitList := [⟨3, .aux, 0, false⟩] };
      t.askCheck 3 = some .capacity ∧ (t.waitEntry 3).isSome = true) := by decide +kernel

/-- An ask that may stand: its target holds antenna 1, this part does not, and a wait entry for it stands. -/
def standing : State := asking.setCt { asking.ct with waitList := [⟨1, .main, 0, true⟩] }

theorem witness_AskChoosesOrStands_standing :
    After .wait standing (fun t => t.hu.ask == .standing 5 1 .main 500 1) ∧
    (∃ r, (commit .nothing standing standing).pt.find 5 = some r ∧
      (commit .nothing standing standing).peerHolds r 1 = true) ∧
    (∃ e ∈ (commit .nothing standing standing).ct.waitList, e.antenna = 1) ∧
    ∀ i h, ((commit .nothing standing standing).slot i).held = some h →
      1 ∉ (commit .nothing standing standing).uses h.antenna h.mask := by
  refine ⟨.of rfl (by decide +kernel), ?_⟩
  have key : ∀ a b, let t := reactWith a b .nothing standing standing
      t.pt.find 5 = some (aPeer (some ⟨1, 0, 4, 900⟩)) ∧ t.peerHolds (aPeer (some ⟨1, 0, 4, 900⟩)) 1 = true ∧
        t.ct.waitList = [⟨1, .main, 0, true⟩] ∧ allSlots.all (fun i => (t.slot i).held.isNone) = true := by decide +kernel
  obtain ⟨h1, h2, h3, h4⟩ := key (Config.ieFirst standing.choices) (Config.ieMiddle standing.choices)
  refine ⟨⟨_, h1, h2⟩, ⟨⟨1, .main, 0, true⟩, ?_, rfl⟩, ?_⟩
  · rw [commit, h3]; exact List.mem_singleton.mpr rfl
  · intro i h e
    have := List.all_eq_true.mp h4 i (by cases i <;> decide)
    rw [commit] at e
    simp [e] at this

/-- R136: the target holds the antenna no more, the claim behind the ask has gone, or this part holds it. -/
theorem test_ask_cleared :
    After .wait (standing.setPt ⟨[aPeer none], true, false⟩) (fun t => t.hu.ask == .none) ∧
    After .wait asking (fun t => t.hu.ask == .none) ∧
    After .wait (standing.setSlot .main ⟨some (aHold 1 0), [], none⟩) (fun t => t.hu.ask == .none) :=
  ⟨.of rfl (by decide +kernel), .of rfl (by decide +kernel), .of rfl (by decide +kernel)⟩

theorem witness_GiveAndKeepAnswerAsk :
    joined.jc.state = .run ∧ joined.hu.latch = none ∧ asked.hu.latch = some ⟨5, 8, none⟩ ∧
    asked.heldSlot (fun x => x.antenna == 8) = some .nextA ∧ (asked.slot .nextA).held = some (aHold 8 0) ∧
    (aHold 8 0).shrink = none ∧ (aHold 8 0).give = none ∧
    ([6, 2].map (fun m => let s := holdingPort m; let mine := fun x : HeldPart => (s.membersOf x.antenna x.mask).contains 6;
      (s.heldSlot (fun x => x.antenna == 6), s.heldSlot mine, m &&& s.placeIn 4 6, m &&& ~~~s.placeIn 4 6)) =
        [(none, some .main, 2, 4), (none, some .main, 2, 0)]) ∧
    asked.heldSlot (fun x => (asked.membersOf x.antenna x.mask).contains 6) = none := by decide +kernel

theorem witness_AskAndKeepAgesRun :
    asking.hu.ask.since = some 500 ∧ (joined.setHu { HandOver.reset with ask := .choosing 500 1 }).hu.ask.since = some 500 ∧
    asking.hu.keepTimer = .running 2000 ∧ (FrameBody.status plainStatus).fault = none ∧
    (hearing joined).lc.receiver = .frame ∧ (hearing joined).jc.number ≠ some 5 ∧
    asking.hu.ask = .standing 5 1 .main 500 1 ∧ asking.hu.answer = some ⟨6, 8, .keep⟩ ∧
    (let r := { aPeer none with ask := some (3, 8), answer := some (3, 1, .keep) };
      (asked.setPt ⟨[r], true, false⟩).pt.find 5 = some r ∧ asked.jc.number = some 3 ∧ asked.holds 8 = true ∧
        asked.holds 1 = false ∧ asked.hu.latch = some ⟨5, 8, none⟩) ∧
    (let s := asked.setCu { asked.cu with standby := true };
      s.cu.standby = true ∧ s.ownRow.map (fun r => r.autoGive) = some true ∧
        s.heldSlot (fun x => x.antenna == 8) = some .nextA) ∧
    (let s := (asking.setPt ⟨[{ aPeer none with ask := some (3, 2) }], true, false⟩).setHu
        { asking.hu with answer := some ⟨5, 1, .keep⟩ };
      s.hu.answer = some ⟨5, 1, .keep⟩ ∧ (s.pt.find 5).bind (fun r => r.ask) = some (3, 2) ∧ s.cu.standby = false ∧
        (s.headHeard 5).hu.answer = none) ∧
    (let s := (asking.setPt ⟨[{ aPeer none with ask := some (3, 1) }], true, false⟩).setHu
        { asking.hu with answer := some ⟨5, 1, .keep⟩ };
      (s.headHeard 5).hu.answer = some ⟨5, 1, .keep⟩ ∧ (s.headHeard 5).hu.keepTimer = .running 2000) := by decide +kernel

/-- R139: a latch stays while its antenna is held, and goes when the hold has gone. -/
theorem test_latch_follows_hold :
    After .wait asked (fun t => t.hu.latch == some ⟨5, 8, none⟩ && (t.slot .nextA).held.isSome) ∧
    After .wait (asked.setSlot .nextA .empty) (fun t => t.hu.latch == none) :=
  ⟨.of rfl (by decide +kernel), .of rfl (by decide +kernel)⟩

theorem witness_AskAndKeepAgesRun_latch :
    asked.hu.latch = some ⟨5, 8, none⟩ ∧ ∃ h, ((commit .nothing asked asked).slot .nextA).held = some h ∧
      8 ∈ (commit .nothing asked asked).uses h.antenna h.mask := by
  have key : ∀ a b, ((reactWith a b .nothing asked asked).slot .nextA).held = some (aHold 8 0) ∧
      8 ∈ (reactWith a b .nothing asked asked).uses 8 0 := by decide +kernel
  exact ⟨rfl, _, key _ _⟩

theorem witness_PressIsJudgedByPermit :
    [keyable, joined.evaluate, keyable.setSg { keyable.sg with obligation := true },
      (moving .breaking 0 1).evaluate].map
      (fun s => (s.ks.ptt, s.ks.state, s.ie.permit, s.sg.obligation, s.ie.reason)) =
    [(false, .receive, true, false, none), (false, .receive, false, false, some .noAntenna),
      (false, .receive, true, true, none), (false, .receive, false, false, some .switching)] ∧
    (keyable.setLc (fullQueue aCommand)).lc.queue.length = 8 ∧ unsent isStatus (fullQueue aCommand).queue = none ∧
    unsent isKey (fullQueue aCommand).queue = none ∧ keyable.lc.queue.length < 8 ∧
    (keyable.setLc (withQueue [aKey false false]).lc).ie.permit = true ∧
    flyingIs isKey (withQueue [aKey false false]).lc.queue = true ∧ flyingIs isKey keyable.lc.queue = false := by decide +kernel

theorem witness_ReleaseEndsTransmission_permit :
    After .wait (keyed .transmit) (fun t => t.ks.state == .transmit && t.ie.permit) := .of rfl (by decide +kernel)

theorem witness_ReleaseEndsTransmission :
    [SeqState.receive, .keyWait, .announce, .ampOn, .transmit, .tail, .lockout].all
      (fun x => (keyed x).ks.ptt && (keyed x).ks.state == x) = true ∧
    (keyed .transmit).ie.permit = true ∧ ((keyed .ampOn).setIe { keyable.ie with permit := false }).ie.permit = false ∧
    (let s := (keyed .transmit).setJc { joined.jc with state := .leaving, leaving := some .duplicate };
      s.jc.state = .leaving ∧ s.jc.leaving = some .duplicate ∧ s.ks.state = .transmit) ∧
    joined.jc.state ≠ .leaving ∧ flyingIs isKey announced.lc.queue = true ∧
    flyingIs isKey (keyed .transmit).lc.queue = false ∧ (keyed .transmit).lc.queue.length < 8 ∧
    [true, false].map (fun x => (unsent isKey [waiting (aKey x false)]).map isPlainKeyOn) = [some true, some false] ∧
    unsent isKey (keyed .transmit).lc.queue = none := by decide +kernel

theorem witness_KeyCompletionIsRead :
    announced.flight isKey = some ⟨3, .key ⟨true, false, 1, 18500, 9⟩⟩ ∧ announced.ks.state = .announce ∧
    announced.ie.permit = true ∧ announced.rd.state = .steady ∧
    (let s := announced.setIe { announced.ie with permit := false, reason := some .bandBusy };
      s.ie.permit = false ∧ s.ie.reason = some .bandBusy) ∧
    (announced.setRd { announced.rd with state := .making, movesMain := true }).rd.movesMain = true ∧
    announced.lc.heldKey = none ∧ announced.ks.keyOnOutstanding = true ∧ announced.lc.queue.length ≤ 8 ∧
    unsent isKey announced.lc.queue = none ∧ announced.jc.state = .run ∧
    [SeqState.receive, .keyWait, .lockout].all (fun x =>
      let s := announced.setKs { announced.ks with state := x };
      s.ks.state == x && s.ks.keyOnOutstanding && s.lc.heldKey.isNone &&
        !(s.setKs { s.ks with keyOnOutstanding := false }).ks.keyOnOutstanding) = true ∧
    (let s := announced.setJc { joined.jc with state := .leaving, leaving := some .duplicate };
      s.jc.state = .leaving ∧ s.jc.leaving = some .duplicate ∧ s.lc.heldKey = none) := by decide +kernel

theorem witness_SequencerTimersRun :
    (keyed .ampOn).ks.timer = .running 1030 ∧ (keyed .tail).ks.timer = .running 1030 ∧ (keyed .tail).ks.ptt = true ∧
    (keyed .tail).ks.tailCause = some .release ∧ (keyed .transmit).ks.tenurePeriod = .running 1100 ∧
    ((keyed .tail).setKs { (keyed .tail).ks with tailCause := some .drop, ptt := false }).ks.ptt = false ∧
    (let s := (keyed .tail).setKs { (keyed .tail).ks with tailCause := some .drop, lockout := some (.inhibit .bandBusy) };
      s.ks.state = .tail ∧ s.ks.timer = .running 1030 ∧ s.ks.tailCause = some .drop ∧ s.ks.ptt = true) := by decide +kernel

theorem witness_RelayTimersBreakAndMake :
    (let s := moving .breaking 2 1; s.rd.timer = .running 1020 ∧ s.rd.state = .breaking ∧
      (s.rd.lines.diff s.rd.target).and s.movable ≠ .none) ∧
    (let s := moving .breaking 0 1; (s.rd.lines.diff s.rd.target).and s.movable = .none) ∧
    (let s := moving .making 1 2; s.rd.state = .making ∧ s.moves s.rd.target ≠ .none) ∧
    (let s := moving .making 1 1; s.moves s.rd.target = .none) := by decide +kernel

/-- The plan with only positions 0 to 4 allowed to command. -/
def strictPlan : Plan :=
  { testPlan with
    rows := List.replicate 5 ⟨true, true, true, 2, []⟩ ++ List.replicate 11 ⟨false, true, true, 2, []⟩ }

theorem witness_StationCommandsApply :
    joined.jc.number = some 3 ∧ joined.ps.plan.isSome = true ∧ joined.acceptsCommands = true ∧ (5 : Position) ≠ 3 ∧
    (hearing joined).lc.receiver = .frame ∧
    joined.jc.state = .run ∧ joined.mayCommand 5 = true ∧
    (joined.setPs { joined.ps with plan := some strictPlan }).mayCommand 5 = false ∧
    (joined.setPs { joined.ps with plan := some strictPlan }).acceptsCommands = true ∧
    ¬ (joined.jc.state = .probe ∧ joined.jc.tentative = some 5) ∧ joined.jc.number ≠ some 5 ∧
    (joined.setJc { joined.jc with number := none }).jc.number = none ∧
    (let s := joined.setPs { joined.ps with plan := some { testPlan with rows := List.replicate 16 ⟨true, false, true, 2, []⟩ } };
      s.acceptsCommands = false ∧ s.mayCommand 5 = true) ∧
    joined.jc.number ≠ some 4 ∧ State.reset.jc.state = .load ∧ State.reset.jc.number ≠ some 5 := by decide +kernel

theorem witness_OwnCommandAndQuietSecond :
    (withQueue [aCommand]).flight isCommand = some ⟨3, .command .quiet ⟨true, 0, 60⟩⟩ ∧ joined.jc.number = some 3 ∧
    joined.acceptsCommands = true ∧ joined.mayCommand 3 = true ∧
    [1, 2].map (fun n => (joined.setCu { CommandUnit.reset with quiet := some ⟨5, n⟩, quietTimer := .running 1500 }).cu.quiet) =
      [some ⟨5, 1⟩, some ⟨5, 2⟩] := by decide +kernel

theorem witness_PanelKeysWaitOrAct :
    State.reset.jc.state = .load ∧ encodeKey (.selectMain 32) = some 32 ∧ joined.jc.state ≠ .load ∧
    (leaving .rejoin).jc.state ≠ .load ∧ (leaving .rejoin).jc.state ≠ .run ∧ (Instr.selectMain 32).wellFormed = true ∧
    (Instr.selectMain 33).wellFormed = false ∧ encodeKey (.selectMain 33) = some 33 ∧
    encodeKey (.undefinedKeyCode 217 false) = some 217 := by decide +kernel

theorem witness_StandbyKeyEntersDefersExits :
    joined.jc.state = .run ∧ joined.cu.standby = false ∧ joined.cu.deferred = false ∧
    (joined.setCu { CommandUnit.reset with standby := true }).cu.standby = true ∧
    (joined.setCu { CommandUnit.reset with deferred := true }).cu.deferred = true ∧ (keyed .tail).ks.state = .tail ∧
    (keyed .lockout).ks.state = .lockout ∧
    asked.hu.latch = some ⟨5, 8, none⟩ ∧ asked.cu.standby = false ∧ asked.cu.deferred = false ∧ asked.jc.state = .run ∧
    asked.ks.state = .receive ∧ asked.ownRow.map (fun x => x.autoGive) = some true ∧
    asked.heldSlot (fun x => x.antenna == 8) = some .nextA ∧ (asked.slot .nextA).held = some (aHold 8 0) ∧
    (let s := asked.setPs { asked.ps with plan := some { testPlan with rows := List.replicate 16 ⟨true, true, false, 2, []⟩ } };
      s.ownRow.map (fun x => x.autoGive) = some false) ∧
    [SeqState.announce, .keyWait, .lockout, .tail].all (fun x =>
      let s := (asked.setKs { (keyed x).ks with ptt := x != .tail }).setCu { asked.cu with deferred := true };
      s.hu.latch == some ⟨5, 8, none⟩ && s.cu.deferred && !s.cu.standby && s.ks.state == x &&
        (s.ks.ptt == (x != .tail)) && s.ks.timer.isRunning) = true := by decide +kernel

/-- R143: standby entered with an ask latched gives at once; a deferred entry does so at the report of RECEIVE. -/
theorem test_standby_gives :
    After .standby asked (fun t => t.hu.latch == none && t.hu.answer == some ⟨5, 8, .giving⟩ && t.cu.standby) ∧
    After .pttRelease ((asked.setKs (keyed .lockout).ks).setCu { asked.cu with deferred := true })
      (fun t => t.hu.latch == none && t.hu.answer == some ⟨5, 8, .giving⟩ && t.cu.standby) :=
  ⟨.of rfl (by decide +kernel), .of rfl (by decide +kernel)⟩

theorem witness_StationKeysOfferCommand :
    encodeKey .quietKey = some 229 ∧ encodeKey .quietEndKey = some 230 ∧ encodeKey .relearnKey = some 231 ∧
    encodeKey (.rejoinPos (some 15)) = some 215 ∧ encodeKey (.rejoinPos none) = some 216 ∧ joined.jc.state = .run ∧
    joined.ownRow.map (fun r => r.mayCommand) = some true ∧ joined.cu.outstanding = none ∧ joined.lc.queue.length < 8 ∧
    (joined.setCu { CommandUnit.reset with outstanding := some .quiet }).cu.outstanding.isSome = true ∧
    (joined.setPs { joined.ps with plan := none }).ownRow = none ∧ 8 ≤ (joined.setLc (fullQueue aCommand)).lc.queue.length ∧
    unsent isStatus (joined.setLc (fullQueue aCommand)).lc.queue = none := by decide +kernel

theorem witness_DisplayRecordsFollowContent :
    (let s := joined.setPi { PanelIf.reset with last := some State.reset.displayed, inFlight := true, pendingChange := true };
      s.pi.inFlight = true ∧ s.pi.pendingChange = true ∧ s.pi.last ≠ some s.displayed) ∧
    (joined.setPi { PanelIf.reset with refresh := .running 2500 }).pi.refresh = .running 2500 ∧
    State.reset.pi.last = none ∧ State.reset.pi.inFlight = false := by decide +kernel

/-- A panel with records behind it, one on its way or none. -/
def panel (inFlight wait : Bool) : PanelIf :=
  { PanelIf.reset with last := some State.reset.displayed, inFlight := inFlight, waitMode := wait }

theorem witness_DisplayRecordsFollowContent_change : ∀ f,
    (keyable.setPi (panel f false)).pi.last ≠ none ∧ (keyable.setPi (panel f false)).pi.inFlight = f ∧
    (commit .nothing keyable (keyable.setPi (panel f false))).displayed = keyable.displayed ∧
    (commit .nothing keyable (keyable.setPi (panel f true))).displayed ≠ keyable.displayed := by
  have key : ∀ f a b, let t := fun w => reactWith a b .nothing keyable (keyable.setPi (panel f w))
      (t false).displayed = keyable.displayed ∧ (t true).displayed ≠ keyable.displayed := by decide +kernel
  intro f
  obtain ⟨h1, h2⟩ := key f (Config.ieFirst keyable.choices) (Config.ieMiddle keyable.choices)
  exact ⟨by cases f <;> decide, by cases f <;> rfl, h1, h2⟩

/-- R199: a change with no record on its way starts one; with one on its way it is pending. -/
theorem test_change_sends :
    After .wait (keyable.setPi (panel false false)) (fun t => t.pi.last == some t.displayed && t.pi.inFlight &&
      t.pi.refresh == .running 3000) ∧
    After .wait (keyable.setPi (panel true false)) (fun t => t.pi.pendingChange && t.pi.last == some State.reset.displayed) :=
  ⟨.of rfl (by decide +kernel), .of rfl (by decide +kernel)⟩

/-- R178: a change of the target's combiner lines alone is a change of displayed content. -/
theorem test_combiner_target_displayed :
    let s := keyable.setRd { keyable.rd with target := ⟨1, 1, 3, 2⟩ }
    s.content = keyable.content ∧ s.displayed ≠ keyable.displayed := by decide +kernel

/-- A station with every lamp: port 4 with members 5 and 6 in MAIN, 3 in AUX, 8 in NEXT-A, 2 asked for, 1 waiting. -/
def lit : State :=
  ((((with1 .main ⟨some (aHold 4 6), [], none⟩).setSlot .aux ⟨none, [⟨3, 0, 0, 5, 4, .voluntary, none, true⟩], none⟩).setSlot
    .nextA ⟨none, [], some ⟨8, 0, .window 1040, false, none, false⟩⟩).setHu
      ⟨.standing 5 2 .aux 500 1, some ⟨6, 4, some ⟨1, 2, 3⟩⟩, some ⟨6, 8, .keep⟩, .running 2000⟩).setPt
    ⟨[{ aPeer (some ⟨2, 0, 4, 900⟩) with mismatch := true, linkLost := true, answer := some (3, 2, .giving) }], true, false⟩

/-- R198, 13.4: lamps of 1 to 10 and 32, by hand. -/
theorem test_lamps :
    (let s := lit.setCt { lit.ct with waitList := [⟨1, .main, 0, false⟩] };
      [1, 2, 3, 4, 5, 6, 7, 8, 9, 32].map s.lamp) = [6, 8, 3, 2, 2, 2, 1, 4, 0, 0] ∧
    (let s := lit.setHu HandOver.reset; let t := s.setCt { s.ct with reservations := [⟨1, 9, 2000⟩] };
      [s.lamp 1, s.lamp 2, t.lamp 1]) = [1, 5, 7] := by decide +kernel

/-- 13.4, by hand: RUN with number 3; band 1 and 18500; slots; latch 6 for 4, "ABC"; ask for 2 of 5, GIVING read; KEEP. -/
theorem test_record_fields :
    [18, 34, 35, 36, 37, 38, 39, 40, 41, 42, 43, 44, 45, 49, 50, 51, 52, 53, 54, 55, 56, 57, 58, 63, 64, 66].map
      (fun k => ((displayRecord lit.content).getD k 0).toNat) =
    [115, 16, 72, 68, 16, 139, 128, 13, 10, 0, 34, 0, 0, 134, 4, 1, 2, 3, 149, 130, 39, 22, 8, 0, 32, 32] := by
  decide +kernel

theorem witness_DisplayRecordsFollowContent_fields :
    lit.jc.attempts ≤ 255 ∧ lit.lc.level ≤ 15 ∧ lit.fu.band ≤ 10 ∧ lit.timing.askLife ≤ 255 ∧ keyable.ie.reason = none ∧
    [joined.evaluate.ie.reason, (keyable.setIe { keyable.ie with reason := some .harmonic }).ie.reason] =
      [some .noAntenna, some .harmonic] ∧
    [none, some .queue, some (.inhibit .harmonic)].map (fun x => ((keyed .lockout).setKs { joined.ks with lockout := x }).ks.lockout) =
      [none, some .queue, some (.inhibit .harmonic)] ∧
    (lit.setIe { lit.ie with warnings := [(.harmonic3, 15)] }).ie.warnings[0]? = some (.harmonic3, 15) ∧
    lit.ie.warnings[7]? = none ∧
    lit.hu.ask = .standing 5 2 .aux 500 1 ∧ asked.hu.ask = .none ∧
    (joined.setHu { HandOver.reset with ask := .choosing 500 1 }).hu.ask = .choosing 500 1 ∧
    (lit.pt.find 5).bind (fun r => r.answer) = some (3, 2, .giving) ∧ joined.hu.latch = none ∧ joined.hu.answer = none ∧
    (lit.slot .nextB) = .empty ∧ (lit.slot .aux).freeing.getLast? = some ⟨3, 0, 0, 5, 4, .voluntary, none, true⟩ ∧
    [(none : Option Quiet), some ⟨5, 255⟩].map (fun q => (joined.setCu { CommandUnit.reset with quiet := q }).cu.quiet) =
      [none, some ⟨5, 255⟩] ∧
    (joined.setCu { CommandUnit.reset with last := some ⟨.rejoin, 5, false, 15, false⟩ }).cu.last =
      some ⟨.rejoin, 5, false, 15, false⟩ ∧ joined.cu.last = none ∧
    [(none : Option PanelAnswer), some ⟨.key 236, .accepted⟩, some ⟨.block .pi, .denied .notPermitted⟩].map
      (fun x => (joined.setPi { PanelIf.reset with answer := x }).pi.answer) =
      [none, some ⟨.key 236, .accepted⟩, some ⟨.block .pi, .denied .notPermitted⟩] ∧
    keyable.rd.lines.filter = filterBit 1 ∧ keyable.rd.target.filter = filterBit 1 ∧
    keyable.rd.lines.ant &&& ~~~keyable.auxPathAnt = antBit 1 ∧ keyable.rd.lines.ant &&& keyable.auxPathAnt = antBit 0 ∧
    keyable.rd.target.ant &&& ~~~keyable.auxPathAnt = antBit 1 ∧ keyable.rd.target.ant &&& keyable.auxPathAnt = antBit 0 := by
  decide +kernel

theorem witness_DisplayRecordsFollowContent_counters : CountersOk joined := by
  refine ⟨by decide, by decide, by decide, by decide, by decide, by decide, by decide, ?_⟩
  intro i h e
  have none : (joined.slot i).held = none := by cases i <;> rfl
  simp [none] at e

theorem witness_StateChangesOnlyByItsCommands :
    (∃ t, exec .wait joined = .next t) ∧ touchesFreq .wait = false ∧ touchesPlan .wait = false ∧
    touchesPeers .wait = false ∧ touchesLineCounts .wait = false ∧ touchesQuiet .wait = false ∧
    touchesWaitMode .cancel = false :=
  ⟨⟨_, rfl⟩, rfl, rfl, rfl, rfl, rfl, rfl⟩

theorem witness_PermitAndTargetFollowInputs :
    (∃ t, exec .pttPress keyable = .next t) ∧
    (let s := with1 .main ⟨some (aHold 4 6), [], none⟩;
      (s.groupOf 4).map (fun x => x.1) = some 1 ∧ s.formTarget = ⟨8, 1, 3, 2⟩) ∧
    (let s := (keyed .ampOn).setPt ⟨[{ aPeer none with keyed := true }], true, false⟩;
      let r := { aPeer none with keyed := true };
      s.ampKey = true ∧ s.pt.find 5 = some r ∧ s.keyedOnBand r = true ∧ startsKeyed joined s r = true ∧
        startsKeyed s s r = false ∧ (s.setIe { s.ie with marks := [(5, .earlier)] }).markOf 5 = some .earlier) ∧
    joined.ampKey = false := ⟨⟨_, rfl⟩, by decide +kernel, by decide +kernel, by decide⟩

theorem witness_LinesMoveOnlyWhereAllowed :
    After .tSeqExpiry (keyed .ampOn) (fun t => t.ampKey) ∧ Instr.tSeqExpiry ≠ .breakExpiry :=
  ⟨.of rfl (by decide +kernel), by decide⟩

theorem witness_TransmitterKeysInOrder :
    After .tSeqExpiry (keyed .ampOn) (fun t => t.ks.state == .transmit) ∧ (keyed .ampOn).ks.state ≠ .transmit ∧
    After .keyComplete announced (fun t => t.ampKey) ∧ announced.ampKey = false ∧
    After .tailExpiry (keyed .tail) (fun t => !t.ampKey) ∧ (keyed .tail).ampKey = true :=
  ⟨.of rfl (by decide +kernel), by decide, .of rfl (by decide +kernel), by decide, .of rfl (by decide +kernel), by decide⟩

theorem witness_EveryStepKeepsQueue :
    QueueOk (fullQueue aStatus) ∧ ∃ t, step ((joined.setLc (fullQueue aStatus)).setPending [.quietKey]) = .next t :=
  ⟨by unfold QueueOk; decide +kernel, _, rfl⟩

theorem witness_EveryStepKeepsCountersAndFilter :
    CountersOk joined ∧ FilterOk joined ∧ AntennaLinesOk keyable ∧
      ∃ t, step ((hearing joined).setPending [.frameFault .crcFault]) = .next t := by
  refine ⟨⟨by decide, by decide, by decide, by decide, by decide, by decide, by decide, fun i h e => ?_⟩,
    ⟨⟨0, by decide⟩, ⟨0, by decide⟩⟩,
    ⟨⟨1, by decide +kernel⟩, ⟨0, by decide +kernel⟩, ⟨1, by decide +kernel⟩, ⟨0, by decide +kernel⟩, fun h => absurd h (by decide)⟩, _, rfl⟩
  cases i <;> cases e

theorem witness_KeyCodesDecodeToTheirKeys :
    (Instr.rejoinPos (some 15)).wellFormed = true ∧ encodeKey (.rejoinPos (some 15)) = some 215 ∧
    (Instr.undefinedKeyCode 0 false).wellFormed = true ∧ (Instr.undefinedKeyCode 1 true).wellFormed = true := by decide

theorem witness_ReceivedFrameIsTheSentFrame :
    aStatus.body.fault = none ∧ (aClaim 32).body.fault = none ∧ (aClaim 33).body.fault ≠ none ∧
    receiveBits ((aStatus.wireBits).drop 1) = .ok aStatus := by decide +kernel


end Sys2Proof.Tests
end

/-! SUPPORT. Frequency and band: the sentence decoder's move for each state and class of character (R3 to R8), the band lookup (R10), and the statements on them. -/

namespace Sys2Proof.Machine

/-! ### What a step's reactions leave of the Frequency Unit -/

@[simp] theorem recentReact_fu (before s : State) : (State.recentReact before s).fu = s.fu := by
  unfold State.recentReact
  split <;> rfl

/-- The blocks' reactions leave the Frequency Unit as the event's own effect left it. -/
@[simp] theorem commit_fu (heard : KeyHeard) (before s : State) : (commit heard before s).fu = s.fu :=
  (commit_kept heard before s).fu.trans (recentReact_fu before s)

theorem exec_radioCharacterArrival (c : Byte) (e : Bool) (s : State) :
    exec (.radioCharacterArrival c e) s = .next (commit .nothing s (s.radioChar (charClass c e))) := rfl

/-! ### The sentence decoder, one lemma per move (R3 to R6) -/

/-- The code of a digit character is 48 more than its value (R1). -/
theorem toNat_of_charClass_digit {c : Byte} {e : Bool} {v : Nat} (h : charClass c e = .digit v) :
    c.toNat = 48 + v := by
  unfold charClass at h
  dsimp only at h
  split_ifs at h with _ _ hdigit
  have : c.toNat - 48 = v := CharClass.digit.inj h
  omega

section
variable {s : State} {k : CharClass}

theorem radioChar_hunt_of_ne_hash (h : s.fu.decoder.state = .hunt) (hk : k ≠ .hash) : s.radioChar k = s := by
  cases k <;> simp_all [State.radioChar]

theorem radioChar_hunt_hash (h : s.fu.decoder.state = .hunt) :
    s.radioChar .hash = s.setFu { s.fu with decoder := .started } := by
  simp [State.radioChar, h]

theorem radioChar_open_hash (h : s.fu.decoder.state ≠ .hunt) :
    s.radioChar .hash = s.setFu (s.fu.abandon .started) := by
  cases hs : s.fu.decoder.state <;> simp_all [State.radioChar]

theorem radioChar_digits_digit (h : s.fu.decoder.state = .digits) (v : Nat) :
    s.radioChar (.digit v) = s.setFu { s.fu with decoder := s.fu.decoder.takeDigit v } := by
  simp [State.radioChar, h]

/-- A decimal digit and a hexadecimal letter are both check digits (R5). -/
theorem radioChar_check_hex {v : Nat} (h : s.fu.decoder.state = .check) (hk : k = .digit v ∨ k = .hexLetter v) :
    s.radioChar k = s.setFu { s.fu with decoder := s.fu.decoder.takeCheck v } := by
  rcases hk with rfl | rfl <;> simp [State.radioChar, h]

/-- The character has no place in the open sentence (the rows DIGITS, CHECK and END of 1.3's table). -/
def OutOfPlace (d : DecoderState) (k : CharClass) : Prop :=
  d = .digits ∧ (∀ v, k ≠ .digit v) ∨ d = .check ∧ (∀ v, k ≠ .digit v ∧ k ≠ .hexLetter v) ∨
    d = .endMark ∧ k ≠ .cr

theorem radioChar_outOfPlace (h : OutOfPlace s.fu.decoder.state k) (hk : k ≠ .hash) :
    s.radioChar k = s.setFu (s.fu.abandon .hunting) := by
  rcases h with ⟨hs, hplace⟩ | ⟨hs, hplace⟩ | ⟨hs, hplace⟩ <;> cases k <;> simp_all [State.radioChar]

theorem radioChar_end_mismatch (h : s.fu.decoder.state = .endMark)
    (hsum : s.fu.decoder.check ≠ s.fu.decoder.sum % 256) :
    s.radioChar .cr = s.setFu (s.fu.abandon .hunting) := by
  simp [State.radioChar, h, hsum]

end

/-! ### The next frequency digit, up to the eighth (R4) -/

section
variable (d : Decoder) (v : Nat)

theorem Decoder.takeDigit_gathers :
    (d.takeDigit v).hz = 10 * d.hz + v ∧ (d.takeDigit v).sum = d.sum + (48 + v) ∧
      (d.takeDigit v).digits = d.digits + 1 := by
  unfold Decoder.takeDigit
  dsimp only
  split <;> exact ⟨rfl, rfl, rfl⟩

theorem Decoder.takeDigit_eighth (h : d.digits + 1 = 8) :
    (d.takeDigit v).state = .check ∧ (d.takeDigit v).checkDigits = 0 := by
  simp [Decoder.takeDigit, h]

theorem Decoder.takeDigit_state_of_ne (h : d.digits + 1 ≠ 8) : (d.takeDigit v).state = d.state := by
  simp [Decoder.takeDigit, h]

end

/-! ### Band lookup (R10) -/

/-- The count lies within the band's entry, both edges included. -/
def State.InBand (s : State) (f : Nat) (i : Band) : Prop :=
  (s.bandEntry i).lower ≤ f ∧ f ≤ (s.bandEntry i).upper

/-- Either no entry contains the count and the lookup gives 0, or it gives the first that does. -/
theorem lookup_cases (s : State) (f : Nat) :
    (s.lookup f = 0 ∧ ∀ i < 10, ¬ s.InBand f (i + 1)) ∨
      ∃ i < 10, s.lookup f = i + 1 ∧ s.InBand f (i + 1) ∧ ∀ j < i, ¬ s.InBand f (j + 1) := by
  unfold State.lookup State.InBand
  split
  next i found =>
    obtain ⟨hin, hmem, hfirst⟩ := List.find?_range_eq_some.mp found
    exact .inr ⟨i, List.mem_range.mp hmem, rfl, of_decide_eq_true hin,
      fun j hj => by simpa only [Bool.not_eq_true', decide_eq_false_iff_not] using hfirst j hj⟩
  next missed =>
    have hall := List.find?_range_eq_none.mp missed
    exact .inl ⟨rfl, fun i hi => by simpa only [Bool.not_eq_true', decide_eq_false_iff_not] using hall i hi⟩

/-- With no plan in force every entry is dead. -/
theorem not_inBand_of_no_plan {s : State} (h : s.ps.plan = none) (f : Nat) (i : Band) : ¬ s.InBand f i := by
  simp only [State.InBand, State.bandEntry, h, deadBand]
  omega

end Sys2Proof.Machine

/-! ### The statements -/

namespace Sys2Proof.Proofs

open Sys2Proof.Machine

/-- Settles O3: the decoder's move at each state and class, and `commit_fu` for the rest of the step. -/
theorem sentenceDecoderMoves : Obligations.SentenceDecoderMoves := by
  intro c e s
  refine ⟨_, exec_radioCharacterArrival c e s, ?_⟩
  rw [commit_fu]
  generalize hk : charClass c e = k
  refine ⟨fun hs hk' => ?ignored, fun hs hk' => ?starts, fun hs hk' => ?restarts, fun v hs hk' => ?digit,
    fun v hs hk' => ?checkDigit, fun hplace hk' => ?outOfPlace, fun hs hk' hsum => ?mismatch⟩
  case ignored => rw [radioChar_hunt_of_ne_hash hs hk']
  case starts => rw [hk', radioChar_hunt_hash hs]; rfl
  case restarts => rw [hk', radioChar_open_hash hs]; rfl
  case digit =>
    subst hk'
    rw [radioChar_digits_digit hs, toNat_of_charClass_digit hk]
    obtain ⟨hhz, hsum, hdigits⟩ := s.fu.decoder.takeDigit_gathers v
    refine ⟨rfl, rfl, rfl, rfl, hhz, hsum, hdigits, ?_⟩
    split
    next eighth => exact Decoder.takeDigit_eighth _ v eighth
    next more => exact (Decoder.takeDigit_state_of_ne _ v more).trans hs
  case checkDigit => rw [radioChar_check_hex hs hk']; rfl
  case outOfPlace => rw [radioChar_outOfPlace hplace hk']; rfl
  case mismatch => rw [hk', radioChar_end_mismatch hs hsum]; rfl

/-- Settles O5: the case analysis of `lookup_cases`, its indices counted from 1. -/
theorem bandLookupTakesFirstEntry : Obligations.BandLookupTakesFirstEntry := by
  intro s f
  obtain ⟨hzero, hnone⟩ | ⟨k, hk, hlookup, hin, hfirst⟩ := lookup_cases s f
  · refine ⟨.inl ⟨hzero, fun i hlow hhigh => ?_⟩, fun _ => hzero⟩
    obtain ⟨j, rfl⟩ := Nat.exists_eq_add_of_le' hlow
    exact hnone j hhigh
  · rw [hlookup]
    obtain ⟨hlower, hupper⟩ := hin
    refine ⟨.inr ⟨Nat.succ_pos k, hk, hlower, hupper, fun i hlow hbelow => ?_⟩,
      fun hplan => absurd ⟨hlower, hupper⟩ (not_inBand_of_no_plan hplan f _)⟩
    obtain ⟨j, rfl⟩ := Nat.exists_eq_add_of_le' hlow
    exact hfirst j (Nat.lt_of_succ_lt_succ hbelow)

end Sys2Proof.Proofs

/-! SUPPORT. The transmit queue's limits and order (R47), kept by every operation on the queue. -/

namespace Sys2Proof.Machine

/-! ### The queue as a list: what keeps R47's limits -/

theorem enqueue_perm (e : QueueEntry) (q : List QueueEntry) : (enqueue e q).Perm (e :: q) := by
  induction q with
  | nil => exact .refl _
  | cons x xs ih =>
    unfold enqueue
    split
    · exact (ih.cons x).trans (.swap ..)
    · exact .refl _

theorem enqueue_pairwise (e : QueueEntry) {q : List QueueEntry} (h : q.Pairwise (fun x y => x.cls ≤ y.cls)) :
    (enqueue e q).Pairwise (fun x y => x.cls ≤ y.cls) := by
  induction q with
  | nil => exact List.pairwise_singleton ..
  | cons x xs ih =>
    obtain ⟨hx, hxs⟩ := List.pairwise_cons.1 h
    unfold enqueue
    split
    next before =>
      refine List.pairwise_cons.2 ⟨fun y hy => ?_, ih hxs⟩
      obtain rfl | hy := mem_enqueue.1 hy
      · exact before
      · exact hx y hy
    next after =>
      refine List.pairwise_cons.2 ⟨fun y hy => ?_, h⟩
      obtain rfl | hy := List.mem_cons.1 hy
      · omega
      · have := hx y hy
        omega

/-- A queue with frames taken out meets R47's limits where the whole one does. -/
theorem QueueOk.filter {lc lc' : LinkCtl} (h : QueueOk lc) (p : QueueEntry → Bool)
    (e : lc'.queue = lc.queue.filter p) : QueueOk lc' := by
  obtain ⟨hlen, hstatus, hkey, hfly, horder⟩ := h
  have fewer (q : QueueEntry → Bool) : ((lc.queue.filter p).filter q).length ≤ (lc.queue.filter q).length :=
    (List.filter_sublist.filter q).length_le
  unfold QueueOk
  rw [e]
  exact ⟨(List.length_filter_le ..).trans hlen, (fewer _).trans hstatus, (fewer _).trans hkey,
    (fewer _).trans hfly, horder.filter p⟩

theorem length_filter_map_le {α : Type} {g : α → α} {p : α → Bool} (h : ∀ x, p (g x) = true → p x = true)
    (l : List α) : ((l.map g).filter p).length ≤ (l.filter p).length := by
  induction l with
  | nil => exact Nat.le_refl _
  | cons x xs ih =>
    simp only [List.map_cons, List.filter_cons]
    cases hx : p (g x)
    · cases p x <;> simp <;> omega
    · simp [h x hx, ih]

/-- A change of each entry that keeps its class, its kind and no flight begun keeps R47's limits. -/
theorem QueueOk.map {lc lc' : LinkCtl} (h : QueueOk lc) (g : QueueEntry → QueueEntry)
    (hcls : ∀ e, (g e).cls = e.cls) (hstatus : ∀ e, isStatus (g e).frame = true → isStatus e.frame = true)
    (hkey : ∀ e, isKey (g e).frame = true → isKey e.frame = true)
    (hfly : ∀ e, (g e).inFlight = true → e.inFlight = true) (e : lc'.queue = lc.queue.map g) : QueueOk lc' := by
  obtain ⟨len, status, key, fly, order⟩ := h
  unfold QueueOk
  rw [e]
  refine ⟨by simpa using len, (length_filter_map_le hstatus _).trans status, (length_filter_map_le hkey _).trans key,
    (length_filter_map_le hfly _).trans fly, ?_⟩
  rw [List.pairwise_map]
  exact order.imp (fun {x y} le => by rw [hcls, hcls]; exact le)

theorem QueueOk.dropUnsent {lc : LinkCtl} (h : QueueOk lc) (p : LinkFrame → Bool) :
    QueueOk { lc with queue := dropUnsent p lc.queue } := h.filter _ rfl

theorem QueueOk.markFlying {lc : LinkCtl} (h : QueueOk lc) (p : LinkFrame → Bool) :
    QueueOk { lc with queue := markFlying p lc.queue } := by
  refine h.map (fun e => if e.inFlight && p e.frame then { e with withdraw := true } else e) ?_ ?_ ?_ ?_ rfl <;>
    (intro e; split <;> simp [QueueEntry.cls])

theorem QueueOk.withdraw {lc : LinkCtl} (h : QueueOk lc) (p : LinkFrame → Bool) : QueueOk (lc.withdraw p) :=
  (h.dropUnsent p).markFlying p

/-- Each frame is of one kind: STATUS is class 4, KEY class 1. -/
theorem isStatus_iff (f : LinkFrame) : isStatus f = true ↔ f.body.classValue = 4 := by
  cases h : f.body <;> simp [isStatus, h, FrameBody.classValue]

theorem isKey_iff (f : LinkFrame) : isKey f = true ↔ f.body.classValue = 1 := by
  cases h : f.body <;> simp [isKey, h, FrameBody.classValue]

/-- A frame in the place of frames of its class keeps R47's limits. -/
theorem QueueOk.replaceUnsent {lc : LinkCtl} (h : QueueOk lc) {p : LinkFrame → Bool} {f : LinkFrame}
    (same : ∀ g, p g = true → g.body.classValue = f.body.classValue) :
    QueueOk { lc with queue := replaceUnsent p f lc.queue } := by
  refine h.map (fun e => if !e.inFlight && p e.frame then { e with frame := f } else e) ?_ ?_ ?_ ?_ rfl
  all_goals
    intro e
    split
    next c =>
      have hc := same e.frame (by simp_all)
      simp_all [QueueEntry.cls, isStatus_iff, isKey_iff]
    next => simp

/-- With none of its kind in flight or unsent, a queue holds no frame of a kind. -/
theorem filter_eq_nil_of_absent {p : LinkFrame → Bool} {q : List QueueEntry} (hfly : flyingIs p q = false)
    (hun : (unsent p q).isSome = false) : q.filter (fun e => p e.frame) = [] := by
  rw [List.filter_eq_nil_iff]
  intro e he hp
  have notFlying : ¬ (e.inFlight = true) := fun hf => by
    simp only [flyingIs, List.any_eq_false] at hfly
    exact hfly e he (by simp [hf, hp])
  simp only [unsent, Option.isSome_map, Bool.eq_false_iff, ne_eq, List.find?_isSome] at hun
  exact hun ⟨e, he, by simp [notFlying, hp]⟩

/-- A frame entered among fewer than 8 keeps R47's limits where it is neither a second STATUS nor a second KEY. -/
theorem QueueOk.enqueue {lc lc' : LinkCtl} (h : QueueOk lc) {f : LinkFrame} (room : lc.queue.length < 8)
    (hs : isStatus f = true → lc.queue.filter (fun e => isStatus e.frame) = [])
    (hk : isKey f = true → lc.queue.filter (fun e => isKey e.frame) = [])
    (e : lc'.queue = enqueue ⟨f, false, false⟩ lc.queue) : QueueOk lc' := by
  obtain ⟨len, status, key, fly, order⟩ := h
  have count (p : QueueEntry → Bool) : ((Machine.enqueue ⟨f, false, false⟩ lc.queue).filter p).length =
      (if p ⟨f, false, false⟩ then 1 else 0) + (lc.queue.filter p).length := by
    rw [((enqueue_perm _ _).filter p).length_eq, List.filter_cons]
    split <;> simp [Nat.add_comm]
  unfold QueueOk
  rw [e]
  refine ⟨by simp; omega, ?_, ?_, ?_, enqueue_pairwise _ order⟩
  · rw [count]
    cases hf : isStatus f <;> simp_all
  · rw [count]
    cases hf : isKey f <;> simp_all
  · rw [count]
    simpa using fly

theorem QueueOk.enter {lc : LinkCtl} (h : QueueOk lc) {f : LinkFrame}
    (hs : isStatus f = true → lc.queue.filter (fun e => isStatus e.frame) = [])
    (hk : isKey f = true → lc.queue.filter (fun e => isKey e.frame) = []) : QueueOk (lc.enter f).1 := by
  unfold LinkCtl.enter
  split
  · exact h.enqueue (by assumption) hs hk rfl
  · split
    next c =>
      simp only [Bool.and_eq_true, decide_eq_true_eq] at c
      have room := dropUnsent_length_lt c.2
      have len := h.1
      refine (h.dropUnsent isStatus).enqueue (by simp only; omega) (fun e => ?_) (fun e => ?_) rfl
      · have := (isStatus_iff f).1 e
        omega
      · exact List.filter_eq_nil_iff.2 fun x hx =>
          List.filter_eq_nil_iff.1 (hk e) x (List.mem_of_mem_filter hx)
    next => exact h

/-- An offer keeps R47's limits (R48 to R50). -/
theorem QueueOk.offer {lc : LinkCtl} (h : QueueOk lc) (f : LinkFrame) : QueueOk (lc.offer f).1 := by
  unfold LinkCtl.offer
  split
  next b hb =>
    have hf : isStatus f = true := by simp [isStatus, hb]
    have hk : isKey f = false := by simp [isKey, hb]
    split
    · exact h
    next notFlying =>
      split
      · exact h.replaceUnsent fun g hg => ((isStatus_iff g).1 hg).trans ((isStatus_iff f).1 hf).symm
      next none =>
        exact h.enter (fun _ => filter_eq_nil_of_absent (by simpa using notFlying) (by simpa using none))
          (by simp [hk])
  next b hb =>
    have hf : isKey f = true := by simp [isKey, hb]
    have hs : isStatus f = false := by simp [isStatus, hb]
    split
    · exact h
    next notFlying =>
      split
      next old hold =>
        split
        · exact h.dropUnsent _
        · exact h.replaceUnsent fun g hg => ((isKey_iff g).1 hg).trans ((isKey_iff f).1 hf).symm
      next none =>
        exact h.enter (by simp [hs]) (fun _ => filter_eq_nil_of_absent (by simpa using notFlying) (by simp [none]))
  next b hb =>
    split
    · exact h.dropUnsent _
    · exact h.enter (by simp [isStatus, hb]) (by simp [isKey, hb])
  next notStatus notKey _ =>
    refine h.enter (fun e => ?_) (fun e => ?_)
    · cases hb : f.body <;> simp_all [isStatus]
    · cases hb : f.body <;> simp_all [isKey]

theorem QueueOk.launchHead {lc lc' : LinkCtl} (h : QueueOk lc) (idle : flying lc.queue = none)
    (e : lc'.queue = launchHead lc.queue) : QueueOk lc' := by
  obtain ⟨len, status, key, fly, order⟩ := h
  unfold QueueOk
  rw [e]
  cases hq : lc.queue with
  | nil => simp [Machine.launchHead]
  | cons x xs =>
    rw [hq] at len status key order
    have hx : x.inFlight = false := by simpa [flying, hq] using (List.find?_eq_none.1 idle) x (by simp [hq])
    have hxs : xs.filter (fun e => e.inFlight) = [] := List.filter_eq_nil_iff.2 fun y hy => by
      simpa using (List.find?_eq_none.1 idle) y (by simp [hq, hy])
    have hl : Machine.launchHead (x :: xs) = { x with inFlight := true } :: xs := by simp [Machine.launchHead, hx]
    rw [hl]
    have count (p : QueueEntry → Bool) (hp : p { x with inFlight := true } = p x) :
        (({ x with inFlight := true } :: xs).filter p).length = ((x :: xs).filter p).length := by
      simp only [List.filter_cons, hp]
      split <;> rfl
    refine ⟨by simpa using len, (count _ rfl).trans_le status, (count _ rfl).trans_le key, by simp [hxs], ?_⟩
    exact List.pairwise_cons.2 ⟨(List.pairwise_cons.1 order).1, (List.pairwise_cons.1 order).2⟩

end Sys2Proof.Machine

/-! SUPPORT. What each operation leaves as it was, aspect by aspect: one lemma per operation names the aspects it may
touch, and every statement about all commands reads its own aspect off them. -/

namespace Sys2Proof.Machine

/-- No slot holds or claims. -/
def NoClaims (s : State) : Prop := ∀ i, (s.slot i).held = none ∧ (s.slot i).cand = none

/-- Every hold's tenure is within its range (R106). -/
def TenuresOk (s : State) : Prop := ∀ i h, (s.slot i).held = some h → h.tenure ≤ 63

/-- No plain KEY on stands unsent in a queue. -/
def NoKeyOn (q : List QueueEntry) : Prop := ∀ e ∈ q, e.inFlight = false → isPlainKeyOn e.frame = false

/-- The aspects of the part that the statements about every command follow. -/
inductive Aspect
  | fu | ps | records | counts | quiet | waitMode | pending | rd | keys | queue | counters | idle
  | marks | ask | latch | panel | liveSeen | keyless
  deriving DecidableEq

/-- An aspect is kept between two states; each relation is reflexive and transitive. -/
def Aspect.Kept (a : Aspect) (s t : State) : Prop :=
  match a with
  | .fu => t.fu = s.fu
  | .ps => t.ps = s.ps
  | .records => t.pt.records = s.pt.records
  | .counts => t.lc.lineErrors = s.lc.lineErrors ∧ t.lc.level = s.lc.level ∧ t.lc.errorCount = s.lc.errorCount
  | .quiet => t.cu.quiet = s.cu.quiet ∧ t.cu.quietTimer = s.cu.quietTimer
  | .waitMode => t.pi.waitMode = s.pi.waitMode
  | .pending => t.pending = s.pending
  | .rd => t.rd = s.rd
  | .keys => t.ampKey = s.ampKey ∧ (t.ks.state = .transmit → s.ks.state = .transmit)
  | .queue => QueueOk s.lc → QueueOk t.lc
  | .counters => CountersOk s → CountersOk t
  | .idle => t.jc.state = .load → s.jc.state = .load ∧ (NoClaims s → NoClaims t)
  | .marks => t.ie.marks = s.ie.marks
  | .ask => t.hu.ask = s.hu.ask
  | .latch => t.hu.latch = s.hu.latch
  | .panel => t.pi = { s.pi with answer := t.pi.answer }
  | .liveSeen => t.pt.liveSeen = s.pt.liveSeen
  | .keyless => s.ks.state = .receive → t.ks.state = .receive ∧ (NoKeyOn s.lc.queue → NoKeyOn t.lc.queue)

theorem Aspect.Kept.refl (a : Aspect) (s : State) : a.Kept s s := by
  cases a
  case counts => exact ⟨rfl, rfl, rfl⟩
  case quiet => exact ⟨rfl, rfl⟩
  case keys => exact ⟨rfl, id⟩
  case idle => exact fun h => ⟨h, id⟩
  case keyless => exact fun h => ⟨h, id⟩
  case queue | counters => exact id
  all_goals exact rfl

theorem Aspect.Kept.trans {a : Aspect} {s t u : State} (h : a.Kept s t) (k : a.Kept t u) : a.Kept s u := by
  cases a
  case counts => exact ⟨k.1.trans h.1, k.2.1.trans h.2.1, k.2.2.trans h.2.2⟩
  case quiet => exact ⟨k.1.trans h.1, k.2.trans h.2⟩
  case keys => exact ⟨k.1.trans h.1, h.2 ∘ k.2⟩
  case idle => exact fun e => ⟨(h (k e).1).1, (k e).2 ∘ (h (k e).1).2⟩
  case keyless => exact fun e => ⟨(k (h e).1).1, (k (h e).1).2 ∘ (h e).2⟩
  case queue => exact fun q => k (h q)
  case counters => exact fun q => k (h q)
  case panel =>
    show u.pi = _
    rw [show u.pi = _ from k, show t.pi = _ from h]
  all_goals exact Eq.trans k h

/-- Every aspect outside a list is kept. -/
def Same (X : List Aspect) (s t : State) : Prop := ∀ a, a ∉ X → a.Kept s t

theorem Same.refl (X : List Aspect) (s : State) : Same X s s := fun a _ => .refl a s

theorem Same.trans {X : List Aspect} {s t u : State} (h : Same X s t) (k : Same X t u) : Same X s u :=
  fun a ha => (h a ha).trans (k a ha)

theorem Same.mono {X Y : List Aspect} {s t : State} (h : Same X s t) (sub : X ⊆ Y) : Same Y s t :=
  fun a ha => h a (fun hx => ha (sub hx))

/-- What touches nothing else touches nothing but what a list names. -/
theorem Same.any {X : List Aspect} {s t : State} (h : Same [] s t) : Same X s t := h.mono (List.nil_subset X)

theorem foldl_same {α : Type} {X : List Aspect} (f : State → α → State) (h : ∀ s x, Same X s (f s x)) (l : List α)
    (s : State) : Same X s (l.foldl f s) := by
  induction l generalizing s with
  | nil => exact .refl X s
  | cons x xs ih => exact (h s x).trans (ih _)

/-! ### The named updates -/

theorem setNow_same (s : State) (n : Nat) : Same [] s (s.setNow n) := fun a _ => by
  have unchanged := Aspect.Kept.refl a s
  cases a <;> exact unchanged

theorem setChoices_same (s : State) (n : Nat) : Same [] s (s.setChoices n) := fun a _ => by
  have unchanged := Aspect.Kept.refl a s
  cases a <;> exact unchanged

theorem setFu_same (s : State) {x : FreqUnit} (h : s.fu.sentenceErrors ≤ 255 → x.sentenceErrors ≤ 255) :
    Same [.fu] s (s.setFu x) := fun a ha => by
  have unchanged := Aspect.Kept.refl a s
  cases a
  case fu => simp at ha
  case counters => exact fun ⟨h1, h2⟩ => ⟨h h1, h2⟩
  all_goals exact unchanged

theorem setPs_same (s : State) (x : PlanStore) : Same [.ps] s (s.setPs x) := fun a ha => by
  have unchanged := Aspect.Kept.refl a s
  cases a
  case ps => simp at ha
  all_goals exact unchanged

theorem setJc_same (s : State) {x : JoinCtl} (hl : x.state = .load → s.jc.state = .load)
    (ha : s.jc.attempts ≤ 255 → x.attempts ≤ 255) : Same [] s (s.setJc x) := fun a _ => by
  have unchanged := Aspect.Kept.refl a s
  cases a
  case counters => exact fun ⟨h1, h2, h3⟩ => ⟨h1, ha h2, h3⟩
  case idle => exact fun h => ⟨hl h, id⟩
  all_goals exact unchanged

/-- A change of the queue, the held offers, the receiver or the overflow count. -/
theorem setLc_same (s : State) {x : LinkCtl} (hq : QueueOk s.lc → QueueOk x)
    (hk : NoKeyOn s.lc.queue → NoKeyOn x.queue)
    (hc : x.lineErrors = s.lc.lineErrors ∧ x.level = s.lc.level ∧ x.errorCount = s.lc.errorCount)
    (ho : s.lc.overflows ≤ 255 → x.overflows ≤ 255) : Same [] s (s.setLc x) := fun a _ => by
  have unchanged := Aspect.Kept.refl a s
  cases a
  case queue => exact hq
  case keyless => exact fun h => ⟨h, hk⟩
  case counts => exact hc
  case counters => exact fun ⟨h1, h2, h3, h4, h5, h6⟩ => ⟨h1, h2, hc.1.symm ▸ h3, ho h4, hc.2.1.symm ▸ h5, h6⟩
  all_goals exact unchanged

/-- A change of the line error count, the level or its error count. -/
theorem setLc_counts_same (s : State) {x : LinkCtl} (hq : x.queue = s.lc.queue)
    (hc : s.lc.lineErrors ≤ 255 → s.lc.overflows ≤ 255 → s.lc.level ≤ 15 →
      x.lineErrors ≤ 255 ∧ x.overflows ≤ 255 ∧ x.level ≤ 15) : Same [.counts] s (s.setLc x) := fun a ha => by
  have unchanged := Aspect.Kept.refl a s
  cases a
  case counts => simp at ha
  case queue => exact fun h => by unfold QueueOk at *; exact hq ▸ h
  case keyless => exact fun h => ⟨h, fun k => by show NoKeyOn x.queue; rw [hq]; exact k⟩
  case counters =>
    exact fun ⟨h1, h2, h3, h4, h5, h6⟩ =>
      ⟨h1, h2, (hc h3 h4 h5).1, (hc h3 h4 h5).2.1, (hc h3 h4 h5).2.2, h6⟩
  all_goals exact unchanged

theorem setPt_same (s : State) {x : PeerTable} (h : x.liveSeen = s.pt.liveSeen) :
    Same [.records] s (s.setPt x) := fun a ha => by
  have unchanged := Aspect.Kept.refl a s
  cases a
  case records => simp at ha
  case liveSeen => exact h
  all_goals exact unchanged

theorem setPt_marks_same (s : State) {x : PeerTable} (h : x.records = s.pt.records) :
    Same [.liveSeen] s (s.setPt x) := fun a ha => by
  have unchanged := Aspect.Kept.refl a s
  cases a
  case records => exact h
  case liveSeen => simp at ha
  all_goals exact unchanged

theorem setLinkLost_same (s : State) (b : Bool) : Same [] s (s.setPt { s.pt with linkLost := b }) := fun a _ => by
  have unchanged := Aspect.Kept.refl a s
  cases a <;> exact unchanged

theorem setSg_same (s : State) (x : StatusGen) : Same [] s (s.setSg x) := fun a _ => by
  have unchanged := Aspect.Kept.refl a s
  cases a <;> exact unchanged

/-- A change of the Claim Table outside its slots. -/
theorem setCt_same (s : State) {x : ClaimTable} (h : x.slots = s.ct.slots) : Same [] s (s.setCt x) := fun a _ => by
  have unchanged := Aspect.Kept.refl a s
  have slots (i : Slot) : (s.setCt x).slot i = s.slot i := slot_congr h i
  cases a
  case counters =>
    exact fun ⟨h1, h2, h3, h4, h5, h6, h7, h8⟩ => ⟨h1, h2, h3, h4, h5, h6, h7, fun i k e => h8 i k (slots i ▸ e)⟩
  case idle => exact fun e => ⟨e, fun n i => by rw [slots]; exact n i⟩
  all_goals exact unchanged

/-- The slots replaced by ones that hold nothing. -/
theorem setCt_empty_same (s : State) {x : ClaimTable} (h : x.slots = .all .empty) : Same [] s (s.setCt x) := fun a _ => by
  have unchanged := Aspect.Kept.refl a s
  have slots (i : Slot) : (s.setCt x).slot i = .empty := by
    show x.slots.get i = _
    rw [h, Slots.get_all]
  cases a
  case counters =>
    exact fun ⟨h1, h2, h3, h4, h5, h6, h7, _⟩ =>
      ⟨h1, h2, h3, h4, h5, h6, h7, fun i k e => by rw [slots] at e; cases e⟩
  case idle => exact fun e => ⟨e, fun _ i => by rw [slots]; exact ⟨rfl, rfl⟩⟩
  all_goals exact unchanged

/-- Two states that differ in the slots alone. -/
theorem setSlots_same (s : State) {x : Slots SlotRecord} (ht : TenuresOk s → ∀ i h, (x.get i).held = some h → h.tenure ≤ 63)
    (hn : s.jc.state = .load → NoClaims s → ∀ i, (x.get i).held = none ∧ (x.get i).cand = none) :
    Same [] s (s.setCt { s.ct with slots := x }) := fun a _ => by
  have unchanged := Aspect.Kept.refl a s
  cases a
  case counters =>
    exact fun ⟨h1, h2, h3, h4, h5, h6, h7, h8⟩ => ⟨h1, h2, h3, h4, h5, h6, h7, ht h8⟩
  case idle => exact fun e => ⟨e, hn e⟩
  all_goals exact unchanged

theorem setSlot_same (s : State) (i : Slot) {r : SlotRecord} (ht : TenuresOk s → ∀ h, r.held = some h → h.tenure ≤ 63)
    (hn : s.jc.state = .load → NoClaims s → r.held = none ∧ r.cand = none) : Same [] s (s.setSlot i r) := by
  refine setSlots_same s (fun ok j h e => ?_) (fun hl hc j => ?_)
  · by_cases hj : j = i
    · subst hj
      rw [Slots.get_set_self] at e
      exact ht ok h e
    · rw [Slots.get_set_ne _ _ hj] at e
      exact ok j h e
  · by_cases hj : j = i
    · subst hj
      rw [Slots.get_set_self]
      exact hn hl hc
    · rw [Slots.get_set_ne _ _ hj]
      exact hc j

/-- A slot with parts taken out, or its freeing parts changed. -/
theorem setSlot_fewer_same (s : State) (i : Slot) {r : SlotRecord} (hh : r.held = (s.slot i).held ∨ r.held = none)
    (hc : r.cand = (s.slot i).cand ∨ r.cand = none) : Same [] s (s.setSlot i r) := by
  refine setSlot_same s i (fun ok h e => ?_) (fun _ nc => ⟨?_, ?_⟩)
  · rcases hh with hh | hh
    · exact ok i h (hh ▸ e)
    · rw [hh] at e
      cases e
  · rcases hh with hh | hh
    · exact hh.trans (nc i).1
    · exact hh
  · rcases hc with hc | hc
    · exact hc.trans (nc i).2
    · exact hc

/-- A slot's hold replaced by one of a tenure in range. -/
theorem setHeld_same (s : State) (i : Slot) {r : SlotRecord} {h h' : HeldPart} (hs : (s.slot i).held = some h)
    (hr : r.held = some h') (ht : h.tenure ≤ 63 → h'.tenure ≤ 63) : Same [] s (s.setSlot i r) := by
  refine setSlot_same s i (fun ok k e => ?_) (fun _ nc => ?_)
  · rw [hr] at e
    cases e
    exact ht (ok i h hs)
  · rw [(nc i).1] at hs
    cases hs

/-- A slot's candidate set, its hold as it was. -/
theorem setCand_same (s : State) (i : Slot) {r : SlotRecord} (hl : s.jc.state = .load → NoClaims s → False)
    (hr : r.held = (s.slot i).held) : Same [] s (s.setSlot i r) :=
  setSlot_same s i (fun ok h e => ok i h (hr ▸ e)) (fun h nc => (hl h nc).elim)

theorem setHu_same (s : State) (x : HandOver) : Same [.ask, .latch] s (s.setHu x) := fun a ha => by
  have unchanged := Aspect.Kept.refl a s
  cases a
  case ask | latch => simp at ha
  all_goals exact unchanged

theorem setHu_answer_same (s : State) {x : HandOver} (hask : x.ask = s.hu.ask) (hlatch : x.latch = s.hu.latch) :
    Same [] s (s.setHu x) := fun a _ => by
  have unchanged := Aspect.Kept.refl a s
  cases a
  case ask => exact hask
  case latch => exact hlatch
  all_goals exact unchanged

theorem setHu_ask_same (s : State) {x : HandOver} (h : x.latch = s.hu.latch) : Same [.ask] s (s.setHu x) := fun a ha => by
  have unchanged := Aspect.Kept.refl a s
  cases a
  case ask => simp at ha
  case latch => exact h
  all_goals exact unchanged

theorem setHu_latch_same (s : State) {x : HandOver} (h : x.ask = s.hu.ask) : Same [.latch] s (s.setHu x) := fun a ha => by
  have unchanged := Aspect.Kept.refl a s
  cases a
  case latch => simp at ha
  case ask => exact h
  all_goals exact unchanged

theorem evaluate_same (s : State) : Same [] s s.evaluate := fun a _ => by
  have unchanged := Aspect.Kept.refl a s
  cases a <;> exact unchanged

/-- The sequencer's state moves within RECEIVE to LOCKOUT, AMP KEY as it was, its counters in range. -/
theorem setKs_same (s : State) {x : KeySeq} (hamp : (s.setKs x).ampKey = s.ampKey)
    (htx : x.state = .transmit → s.ks.state = .transmit) (hrx : s.ks.state = .receive → x.state = .receive)
    (hten : s.ks.keyTenure ≤ 63 → x.keyTenure ≤ 63) (href : s.ks.refusals ≤ 9999 → x.refusals ≤ 9999) :
    Same [] s (s.setKs x) := fun a _ => by
  have unchanged := Aspect.Kept.refl a s
  cases a
  case keys => exact ⟨hamp, htx⟩
  case keyless => exact fun h => ⟨hrx h, id⟩
  case counters => exact fun ⟨h1, h2, h3, h4, h5, h6, h7, h8⟩ => ⟨h1, h2, h3, h4, h5, hten h6, href h7, h8⟩
  all_goals exact unchanged

/-- The sequencer leaves RECEIVE or enters it. -/
theorem setKs_keyless_same (s : State) {x : KeySeq} (hamp : (s.setKs x).ampKey = s.ampKey)
    (htx : x.state = .transmit → s.ks.state = .transmit)
    (hten : s.ks.keyTenure ≤ 63 → x.keyTenure ≤ 63) (href : s.ks.refusals ≤ 9999 → x.refusals ≤ 9999) :
    Same [.keyless] s (s.setKs x) := fun a ha => by
  have unchanged := Aspect.Kept.refl a s
  cases a
  case keys => exact ⟨hamp, htx⟩
  case keyless => simp at ha
  case counters => exact fun ⟨h1, h2, h3, h4, h5, h6, h7, h8⟩ => ⟨h1, h2, h3, h4, h5, hten h6, href h7, h8⟩
  all_goals exact unchanged

/-- The sequencer moves anywhere, its counters in range. -/
theorem setKs_keys_same (s : State) {x : KeySeq}
    (hten : s.ks.keyTenure ≤ 63 → x.keyTenure ≤ 63) (href : s.ks.refusals ≤ 9999 → x.refusals ≤ 9999) :
    Same [.keys, .keyless] s (s.setKs x) := fun a ha => by
  have unchanged := Aspect.Kept.refl a s
  cases a
  case keys | keyless => simp at ha
  case counters => exact fun ⟨h1, h2, h3, h4, h5, h6, h7, h8⟩ => ⟨h1, h2, h3, h4, h5, hten h6, href h7, h8⟩
  all_goals exact unchanged

theorem setRd_same (s : State) (x : RelayDriver) : Same [.rd] s (s.setRd x) := fun a ha => by
  have unchanged := Aspect.Kept.refl a s
  cases a
  case rd => simp at ha
  all_goals exact unchanged

theorem setCu_same (s : State) {x : CommandUnit} (h : x.quiet = s.cu.quiet) (ht : x.quietTimer = s.cu.quietTimer) :
    Same [] s (s.setCu x) := fun a _ => by
  have unchanged := Aspect.Kept.refl a s
  cases a
  case quiet => exact ⟨h, ht⟩
  all_goals exact unchanged

theorem setCu_quiet_same (s : State) (x : CommandUnit) : Same [.quiet] s (s.setCu x) := fun a ha => by
  have unchanged := Aspect.Kept.refl a s
  cases a
  case quiet => simp at ha
  all_goals exact unchanged

theorem setPi_same (s : State) {x : PanelIf} (h : x.waitMode = s.pi.waitMode) : Same [.panel] s (s.setPi x) := fun a ha => by
  have unchanged := Aspect.Kept.refl a s
  cases a
  case panel => simp at ha
  case waitMode => exact h
  all_goals exact unchanged

theorem setAnswer_same (s : State) (x : Option PanelAnswer) : Same [] s (s.setPi { s.pi with answer := x }) :=
  fun a _ => by
  have unchanged := Aspect.Kept.refl a s
  cases a
  case panel => rfl
  all_goals exact unchanged

theorem report_same (s : State) (b : Block) (o : PanelOutcome) : Same [] s (s.report b o) := setAnswer_same s _

theorem answerKey_same (s : State) (c : Instr) (o : PanelOutcome) : Same [] s (s.answerKey c o) := setAnswer_same s _

theorem reach_same (s : State) (n : Nat) : Same [] s (s.reach n) := setNow_same s _

theorem onExpiry_same {X : List Aspect} (s : State) (t : Timer) {body : State → State} (h : ∀ s, Same X s (body s)) :
    Same X s (s.onExpiry t body) := by
  unfold State.onExpiry
  split
  · exact (reach_same s _).any.trans (h _)
  · exact .refl X s

/-! ### The transmit queue -/

theorem NoKeyOn.sub {q q' : List QueueEntry} (h : NoKeyOn q) (sub : ∀ e ∈ q', e ∈ q) : NoKeyOn q' :=
  fun e he => h e (sub e he)

theorem NoKeyOn.filter {q : List QueueEntry} (h : NoKeyOn q) (p : QueueEntry → Bool) : NoKeyOn (q.filter p) :=
  h.sub fun _ => List.mem_of_mem_filter

theorem NoKeyOn.markFlying {q : List QueueEntry} (h : NoKeyOn q) (p : LinkFrame → Bool) :
    NoKeyOn (markFlying p q) := by
  intro e he hf
  obtain ⟨x, hx, rfl⟩ := List.mem_map.1 he
  split at hf
  · simp_all
  next c => rw [if_neg c]; exact h x hx hf

theorem NoKeyOn.enqueue {q : List QueueEntry} (h : NoKeyOn q) {f : LinkFrame} (hf : isPlainKeyOn f = false) :
    NoKeyOn (enqueue ⟨f, false, false⟩ q) := by
  intro e he hfl
  obtain rfl | he := mem_enqueue.1 he
  · exact hf
  · exact h e he hfl

theorem NoKeyOn.replaceUnsent {q : List QueueEntry} (h : NoKeyOn q) (p : LinkFrame → Bool) {f : LinkFrame}
    (hf : isPlainKeyOn f = false) : NoKeyOn (replaceUnsent p f q) := by
  intro e he hfl
  obtain ⟨x, hx, rfl⟩ := List.mem_map.1 he
  split at hfl
  next c => rw [if_pos c]; exact hf
  next c => rw [if_neg c]; exact h x hx hfl

theorem NoKeyOn.enter {lc : LinkCtl} (h : NoKeyOn lc.queue) {f : LinkFrame} (hf : isPlainKeyOn f = false) :
    NoKeyOn (lc.enter f).1.queue := by
  unfold LinkCtl.enter
  split
  · exact h.enqueue hf
  · split
    · exact NoKeyOn.enqueue (h.filter _) hf
    · exact h

/-- An offer of another frame puts no plain KEY on into the queue. -/
theorem NoKeyOn.offer {lc : LinkCtl} (h : NoKeyOn lc.queue) {f : LinkFrame} (hf : isPlainKeyOn f = false) :
    NoKeyOn (lc.offer f).1.queue := by
  unfold LinkCtl.offer
  split
  · split
    · exact h
    · split
      · exact h.replaceUnsent _ hf
      · exact h.enter hf
  · split
    · exact h
    · split
      · split
        · exact h.filter _
        · exact h.replaceUnsent _ hf
      · exact h.enter hf
  · split
    · exact h.filter _
    · exact h.enter hf
  · exact h.enter hf

theorem satSucc_le (limit n : Nat) : satSucc limit n ≤ limit := Nat.min_le_left ..

theorem enter_overflows (lc : LinkCtl) (f : LinkFrame) (h : lc.overflows ≤ 255) : (lc.enter f).1.overflows ≤ 255 := by
  unfold LinkCtl.enter
  split
  · exact h
  · split
    · exact h
    · exact satSucc_le ..

theorem offer_overflows (lc : LinkCtl) (f : LinkFrame) (h : lc.overflows ≤ 255) : (lc.offer f).1.overflows ≤ 255 := by
  have enter := enter_overflows lc f h
  unfold LinkCtl.offer
  split <;> repeat' split
  all_goals first | exact h | exact enter

/-- An offer touches the queue within its limits and the overflow count within its range. -/
theorem offer_same_keyless (s : State) (f : LinkFrame) : Same [.keyless] s (s.offer f).1 := by
  have queued : Same [.keyless] s (s.setLc (s.lc.offer f).1) := fun a ha => by
    have unchanged := Aspect.Kept.refl a s
    have kept := LinkCtl.offer_kept s.lc f
    cases a
    case keyless => simp at ha
    case queue => exact fun h => h.offer f
    case counts => exact ⟨kept.lineErrors, kept.level, kept.errorCount⟩
    case counters =>
      exact fun ⟨h1, h2, h3, h4, h5, h6⟩ =>
        ⟨h1, h2, kept.lineErrors.symm ▸ h3, offer_overflows _ _ h4, kept.level.symm ▸ h5, h6⟩
    all_goals exact unchanged
  unfold State.offer
  dsimp only
  split
  · exact queued.trans (setSg_same _ _).any
  · exact queued

/-- An offer of a frame that is no plain KEY on leaves the queue without one. -/
theorem offer_same (s : State) {f : LinkFrame} (hf : isPlainKeyOn f = false) : Same [] s (s.offer f).1 := by
  have queued : Same [] s (s.setLc (s.lc.offer f).1) := by
    have kept := LinkCtl.offer_kept s.lc f
    exact setLc_same s (fun h => h.offer f) (fun h => h.offer hf) ⟨kept.lineErrors, kept.level, kept.errorCount⟩
      (offer_overflows _ _)
  unfold State.offer
  dsimp only
  split
  · exact queued.trans (setSg_same _ _)
  · exact queued

/-- The queue with frames taken out. -/
theorem filterQueue_same (s : State) {x : LinkCtl} (p : QueueEntry → Bool) (hq : x.queue = s.lc.queue.filter p)
    (hc : x.lineErrors = s.lc.lineErrors ∧ x.level = s.lc.level ∧ x.errorCount = s.lc.errorCount)
    (ho : x.overflows = s.lc.overflows) : Same [] s (s.setLc x) :=
  setLc_same s (fun h => h.filter p hq) (fun h => hq ▸ h.filter p) hc (fun h => ho ▸ h)

theorem withdraw_same (s : State) (p : LinkFrame → Bool) : Same [] s (s.withdraw p) :=
  setLc_same s (fun h => h.withdraw p) (fun h => (h.filter _).markFlying p) ⟨rfl, rfl, rfl⟩ id

theorem withdrawUnsent_same (s : State) (p : LinkFrame → Bool) : Same [] s (s.withdrawUnsent p) :=
  filterQueue_same s _ rfl ⟨rfl, rfl, rfl⟩ rfl

theorem landed_same (s : State) : Same [] s s.landed := filterQueue_same s _ rfl ⟨rfl, rfl, rfl⟩ rfl

/-- A change of the receiver or the held offers. -/
theorem setReceiver_same (s : State) {x : LinkCtl} (hq : x.queue = s.lc.queue)
    (hc : x.lineErrors = s.lc.lineErrors ∧ x.level = s.lc.level ∧ x.errorCount = s.lc.errorCount)
    (ho : x.overflows = s.lc.overflows) : Same [] s (s.setLc x) :=
  setLc_same s (fun h => by unfold QueueOk at *; rw [hq]; exact h) (fun h => hq ▸ h) hc (fun h => ho ▸ h)

theorem heardFrame_same (s : State) : Same [] s s.heardFrame := setReceiver_same s rfl ⟨rfl, rfl, rfl⟩ rfl

theorem lineError_same (s : State) : Same [.counts] s s.lineError := by
  unfold State.lineError
  dsimp only
  split
  · exact setLc_counts_same s rfl (fun _ ho _ => ⟨satSucc_le .., ho, satSucc_le ..⟩)
  · exact setLc_counts_same s rfl (fun _ ho hl => ⟨satSucc_le .., ho, hl⟩)

theorem lineFault_same (s : State) : Same [.counts] s s.lineFault :=
  (setReceiver_same s rfl ⟨rfl, rfl, rfl⟩ rfl).any.trans (lineError_same _)

end Sys2Proof.Machine

/-! SUPPORT. What each block's operation leaves as it was: the Status Generator, the Key Sequencer, the Claim Table, the
Relay Driver's waits and the reactions to an event's changes. -/

namespace Sys2Proof.Machine

/-! ### Status Generator and Key Sequencer -/

theorem offerStatus_same (s : State) : Same [] s s.offerStatus := by
  unfold State.offerStatus
  split
  · exact (offer_same s rfl).trans (setSg_same _ _)
  · exact .refl _ s

theorem stopStatus_same (s : State) : Same [] s s.stopStatus := setSg_same s _

theorem startStatus_same (s : State) : Same [] s s.startStatus := (setSg_same s _).trans (offerStatus_same _)

theorem syncKeyOn_same (s : State) : Same [] s s.syncKeyOn := setKs_same s rfl id id id id

theorem offerKey_same_keyless (s : State) (f : LinkFrame) : Same [.keyless] s (s.offerKey f).1 :=
  (offer_same_keyless s f).trans (syncKeyOn_same _).any

theorem offerKey_same (s : State) {f : LinkFrame} (hf : isPlainKeyOn f = false) : Same [] s (s.offerKey f).1 :=
  (offer_same s hf).trans (syncKeyOn_same _)

theorem offerKeyOff_same (s : State) : Same [] s s.offerKeyOff := by
  unfold State.offerKeyOff
  split
  · exact .refl _ s
  · exact offerKey_same s rfl

theorem offerKeyAssert_same (s : State) : Same [] s s.offerKeyAssert := by
  unfold State.offerKeyAssert
  split
  · exact .refl _ s
  · exact offerKey_same s rfl

theorem countRefusal_same (s : State) : Same [] s s.countRefusal := by
  unfold State.countRefusal
  split
  · exact setKs_same s rfl id id id (fun _ => Nat.zero_le _)
  · exact setKs_same s rfl id id id (fun _ => by simp only; omega)

/-- A state in which AMP KEY is off. -/
theorem ampKey_of_state {s : State} {x : SeqState} (h : s.ks.state = x)
    (hx : x = .receive ∨ x = .keyWait ∨ x = .announce ∨ x = .lockout) : s.ampKey = false := by
  unfold State.ampKey
  rcases hx with rfl | rfl | rfl | rfl <;> rw [h]

theorem lockOut_same (s : State) (r : Option LockReason) (h : s.ampKey = false) : Same [.keyless] s (s.lockOut r) :=
  (setKs_keyless_same s (x := { s.ks with state := .lockout, lockout := r }) h.symm (fun e => by cases e) id id).trans
    (countRefusal_same _).any

theorem offerKey_ampKey (s : State) (f : LinkFrame) : (s.offerKey f).1.ampKey = s.ampKey := by
  obtain ⟨-, -, -, -, -, -, -, -, -, -, -, -, -, ks⟩ := offerKey_fields s f
  have state : (s.offerKey f).1.ks.state = s.ks.state := by rw [ks]
  simp only [State.ampKey, state]

theorem announceKey_same (s : State) (h : s.ampKey = false) : Same [.keyless] s s.announceKey := by
  have enters : Same [.keyless] s (s.setKs { s.ks with state := .announce }) :=
    setKs_keyless_same s h.symm (fun e => by cases e) id id
  unfold State.announceKey
  dsimp only
  split
  · exact (enters.trans (offerKey_same_keyless _ _)).trans (lockOut_same _ _ (offerKey_ampKey _ _))
  · exact enters.trans (offerKey_same_keyless _ _)

theorem judgePress_same (s : State) (h : s.ampKey = false) : Same [.keyless] s s.judgePress := by
  have waits : Same [.keyless] s (s.setKs { s.ks with state := .keyWait }) :=
    setKs_keyless_same s h.symm (fun e => by cases e) id id
  unfold State.judgePress
  split
  · split
    · exact waits
    · exact announceKey_same s h
  · split
    · exact waits
    · exact lockOut_same s _ h
    · exact lockOut_same s _ h

theorem startTail_same (s : State) (c : TailCause) (l : Option LockReason)
    (h : s.ks.state = .ampOn ∨ s.ks.state = .transmit) : Same [] s (s.startTail c l) := by
  refine Same.trans ?_ (offerKeyOff_same _)
  refine setKs_same s ?_ (fun e => by cases e) (fun e => ?_) id id
  · rcases h with h | h <;> simp [State.ampKey, h]
  · simp [e] at h

theorem sequencerTold_same (s : State) : Same [] s s.sequencerTold := by
  unfold State.sequencerTold
  split
  next h =>
    intro a ha
    by_cases hk : a = .keyless
    · subst hk
      exact fun e => by rw [h] at e; cases e
    · exact judgePress_same s (ampKey_of_state h (by simp)) a (by simpa using hk)
  next h =>
    split
    · exact .refl _ s
    · exact startTail_same s _ _ (.inl h)
  next h =>
    split
    · exact .refl _ s
    · exact startTail_same s _ _ (.inr h)
  next => exact .refl _ s

theorem interlockTurn_same (s : State) : Same [] s s.interlockTurn := (evaluate_same s).trans (sequencerTold_same _)

theorem turnIf_same (s : State) (b : Bool) : Same [] s (s.turnIf b) := by
  unfold State.turnIf
  split
  · exact interlockTurn_same s
  · exact .refl _ s

theorem keyWithdrawn_same (s : State) (l : List LinkFrame) : Same [] s (s.keyWithdrawn l) := by
  unfold State.keyWithdrawn
  dsimp only
  split
  next h =>
    have announce : s.syncKeyOn.ks.state = .announce := by simp_all
    intro a ha
    by_cases hk : a = .keyless
    · subst hk
      exact fun e => by rw [show s.ks.state = _ from announce] at e; cases e
    · exact ((syncKeyOn_same s).any.trans (lockOut_same _ _ (ampKey_of_state announce (by simp)))) a (by simpa using hk)
  next => exact syncKeyOn_same s

theorem offerHeldKey_same (s : State) : Same [.keyless] s s.offerHeldKey := by
  unfold State.offerHeldKey
  split
  · exact .refl _ s
  next f _ =>
    have offered : Same [.keyless] s ((s.setLc { s.lc with heldKey := none }).offerKey f).1 :=
      (setReceiver_same s rfl ⟨rfl, rfl, rfl⟩ rfl).any.trans (offerKey_same_keyless _ f)
    dsimp only
    split
    next h => exact offered.trans (lockOut_same _ _ (ampKey_of_state h.2.2 (by simp)))
    next => exact offered

theorem raiseKeyTenure_same (s : State) : Same [] s s.raiseKeyTenure :=
  setKs_same s rfl id id (fun _ => satSucc_le ..) id

/-! ### Claim Table -/

theorem offerRelease_same (s : State) (i : Slot) (a : Antenna) (r : ReleaseReason) (y : Option Position) :
    Same [] s (s.offerRelease i a r y).1 := by
  unfold State.offerRelease
  split
  · exact .refl _ s
  · exact (withdrawUnsent_same s _).trans (offer_same _ rfl)

theorem offer_slot (s : State) (f : LinkFrame) (i : Slot) : (s.offer f).1.slot i = s.slot i :=
  slot_congr (congrArg ClaimTable.slots (offer_ct s f)) i

theorem paced_same (s : State) (i : Slot) (a : Antenna) (n : Nat) : Same [] s (s.setSlot i ((s.slot i).paced a n)) := by
  refine setSlot_same s i (fun ok h e => ?_) (fun _ nc => ?_)
  · cases hs : (s.slot i).held with
    | none => simp [SlotRecord.paced, hs] at e
    | some k =>
      have := ok i k hs
      simp only [SlotRecord.paced, hs, Option.map_some, Option.some.injEq] at e
      subst e
      split <;> exact this
  · simp [SlotRecord.paced, nc i]

theorem offerAssert_same (s : State) (i : Slot) (a : Antenna) (m : Mask) (t : Nat) :
    Same [] s (s.offerAssert i a m t) := by
  unfold State.offerAssert
  dsimp only
  split
  · exact offer_same s rfl
  · exact (offer_same s rfl).trans (paced_same _ _ _ _)

theorem givingDone_same (s : State) (p : Position) (l : List Antenna) : Same [] s (s.givingDone p l) := by
  unfold State.givingDone
  split
  · split
    · exact setHu_answer_same s rfl rfl
    · exact .refl _ s
  · exact .refl _ s

theorem givingPartDone_same (s : State) (p : FreeingPart) : Same [] s (s.givingPartDone p) := by
  unfold State.givingPartDone
  split
  · exact givingDone_same s _ _
  · exact .refl _ s

theorem handOversLapse_same (s : State) (h : HeldPart) : Same [] s (s.handOversLapse h) := by
  unfold State.handOversLapse
  dsimp only
  have first : Same [] s (match h.shrink with
      | some ⟨m, some y⟩ => s.givingDone y (s.membersOf h.antenna (h.mask &&& ~~~m))
      | _ => s) := by
    split
    · exact givingDone_same s _ _
    · exact .refl _ s
  split
  · exact Same.trans first (givingDone_same _ _ _)
  · exact first

theorem freeHold_same (s : State) (i : Slot) (r : ReleaseReason) (y : Option Position) :
    Same [] s (s.freeHold i r y) := by
  unfold State.freeHold
  split
  · exact .refl _ s
  · refine Same.trans ?_ (handOversLapse_same _ _)
    exact setSlot_fewer_same s i (.inr rfl) (.inl rfl)

theorem dropCandidate_same (s : State) (i : Slot) (r : ReleaseReason) : Same [] s (s.dropCandidate i r) := by
  unfold State.dropCandidate
  split
  · exact .refl _ s
  · have emptied : Same [] s (s.setSlot i { s.slot i with cand := none }) := setSlot_fewer_same s i (.inl rfl) (.inr rfl)
    dsimp only
    split
    · exact emptied.trans (withdraw_same _ _)
    · exact emptied.trans (offerRelease_same _ _ _ _ _)

theorem dropSlot_same (s : State) (i : Slot) : Same [] s (s.dropSlot i) :=
  (freeHold_same s _ _ _).trans (dropCandidate_same _ _ _)

theorem selfDrop_same (s : State) (i : Slot) : Same [] s (s.selfDrop i) := by
  unfold State.selfDrop
  dsimp only
  split
  · exact (freeHold_same s _ _ _).trans (dropCandidate_same _ _ _)
  · exact freeHold_same s _ _ _

theorem unwait_same (s : State) (a : Antenna) : Same [] s (s.unwait a) := setCt_same s rfl

theorem owePass_same (s : State) (b : Bool) : Same [] s (s.owePass b) := setCt_same s rfl

theorem consumeMask_same (s : State) (i : Slot) (a : Antenna) : Same [] s (s.consumeMask i a) := by
  unfold State.consumeMask
  split
  · exact setCt_same s rfl
  · exact .refl _ s

theorem consumeMask_slot (s : State) (i : Slot) (a : Antenna) (j : Slot) : (s.consumeMask i a).slot j = s.slot j := by
  unfold State.consumeMask
  split <;> rfl

/-- The join state is untouched by what leaves `jc` alone; a claim starts outside LOAD. -/
theorem startClaim_same (s : State) (i : Slot) (a : Antenna) (m : Mask) (w : Bool) (hl : s.jc.state ≠ .load) :
    Same [] s (s.startClaim i a m w).1 := by
  unfold State.startClaim
  dsimp only
  have cleared : Same [] s ((s.unwait a).dropCandidate i .voluntary) := (unwait_same s a).trans (dropCandidate_same _ _ _)
  have run : ((s.unwait a).dropCandidate i .voluntary).jc.state ≠ .load := fun e => hl ((cleared .idle (by simp)) e).1
  have claimed := cleared.trans (setCand_same _ i (r := { ((s.unwait a).dropCandidate i .voluntary).slot i with
    cand := some ⟨a, m, .queued, w, none, false⟩ }) (fun e => (run e).elim) rfl)
  split
  · refine Same.trans ?_ (owePass_same _ _)
    refine Same.trans ?_ (setSlot_fewer_same _ i (.inl rfl) (.inr rfl))
    exact claimed.trans (offer_same _ rfl)
  · exact claimed.trans (offer_same _ rfl)

theorem placeWait_same (s : State) (e : WaitEntry) : Same [] s (s.placeWait e).1 := by
  unfold State.placeWait
  split
  · exact setCt_same s rfl
  · exact .refl _ s

/-- The local checks pass in RUN alone (R99 check 1). -/
theorem run_of_claimsOpen {s : State} (h : s.claimsClosed = false) : s.jc.state = .run ∧ s.sg.obligation = false := by
  simpa [State.claimsClosed] using h

theorem claimsOpen_of_localCheck {s : State} {i : Slot} {a : Antenna} {m : Mask} (h : s.localCheck i a m = none) :
    s.claimsClosed = false := by
  unfold State.localCheck at h
  split at h
  · cases h
  next open_ => simpa using open_

theorem run_of_localCheck {s : State} {i : Slot} {a : Antenna} {m : Mask} (h : s.localCheck i a m = none) :
    s.jc.state ≠ .load := by
  rw [(run_of_claimsOpen (claimsOpen_of_localCheck h)).1]
  decide

theorem newClaim_same (s : State) (i : Slot) (a : Antenna) (m : Mask) (w al : Bool) :
    Same [] s (s.newClaim i a m w al).1 := by
  unfold State.newClaim
  split
  next h => exact startClaim_same s _ _ _ _ (run_of_localCheck h)
  next =>
    split
    · split
      · exact .refl _ s
      · exact placeWait_same s _
    · exact .refl _ s

theorem startGrow_same (s : State) (i : Slot) (h : HeldPart) (f : Mask) (x : Option Mask)
    (hs : (s.slot i).held = some h) : Same [] s (s.startGrow i h f x).1 := by
  unfold State.startGrow
  split
  · exact .refl _ s
  · dsimp only
    split
    · exact offer_same s rfl
    · exact (offer_same s rfl).trans (setHeld_same _ i ((congrArg SlotRecord.held (offer_slot s _ i)).trans hs) rfl id)

theorem reshape_same (s : State) (h : HeldPart) (p r : Mask) (hs : (s.slot .main).held = some h) :
    Same [] s (s.reshape h p r).1 := by
  unfold State.reshape
  dsimp only
  repeat' split
  all_goals try exact .refl _ s
  · exact setHeld_same s .main hs rfl id
  all_goals exact startGrow_same s .main h _ _ hs

/-- A hold moved from a slot into MAIN. -/
theorem moveHold_same (s : State) (n : Slot) {h h' : HeldPart} (hs : (s.slot n).held = some h)
    (ht : h'.tenure = h.tenure) : Same [] s ((s.setSlot n { s.slot n with held := none }).setSlot .main
      { (s.setSlot n { s.slot n with held := none }).slot .main with held := some h' }) := by
  have sets (r r' : SlotRecord) : (s.setSlot n r).setSlot .main r' =
      s.setCt { s.ct with slots := (s.ct.slots.set n r).set .main r' } := rfl
  rw [sets]
  refine setSlots_same s (fun ok j k e => ?_) (fun _ nc => ?_)
  · by_cases hj : j = .main
    · subst hj
      rw [Slots.get_set_self] at e
      cases e
      exact ht ▸ ok n h hs
    · rw [Slots.get_set_ne _ _ hj] at e
      by_cases hn : j = n
      · subst hn
        rw [Slots.get_set_self] at e
        cases e
      · rw [Slots.get_set_ne _ _ hn] at e
        exact ok j k e
  · rw [(nc n).1] at hs
    cases hs

/-- The same hold stands in a NEXT slot after MAIN has been emptied. -/
theorem promote_same (s : State) (n : Slot) (hn : n ≠ .main) : Same [] s (s.promote n) := by
  unfold State.promote
  split
  · exact .refl _ s
  next h hs =>
    have kept : ((s.dropCandidate .main .voluntary).freeHold .main .voluntary none).slot n = s.slot n := by
      rw [freeHold_slot_ne _ _ _ hn, dropCandidate_slot_ne _ _ hn]
    refine Same.trans ?_ (offerAssert_same _ _ _ _ _)
    refine Same.trans ?_ (moveHold_same _ n ((congrArg SlotRecord.held kept).trans hs) rfl)
    exact (dropCandidate_same s _ _).trans (freeHold_same _ _ _ _)

theorem nextHolding_ne_main {s : State} {a : Antenna} {n : Slot} (h : s.nextHolding a = some n) : n ≠ .main := by
  have := List.mem_of_find?_eq_some h
  rintro rfl
  simp at this

theorem nextCovering_ne_main {s : State} {n : Slot} (h : s.nextCovering = some n) : n ≠ .main := by
  have := List.mem_of_find?_eq_some h
  rintro rfl
  simp at this

theorem requestPromotion_same (s : State) (n : Slot) (a : Antenna) (hn : n ≠ .main) :
    Same [] s (s.requestPromotion n a).1 := by
  unfold State.requestPromotion
  repeat' split
  all_goals first | exact .refl _ s | exact promote_same s n hn

theorem request_same (s : State) (i : Slot) (a : Antenna) (w al : Bool) : Same [] s (s.request i a w al).1 := by
  have masked := consumeMask_same s i a
  unfold State.request
  dsimp only
  split
  next n h =>
    refine requestPromotion_same s n a (nextHolding_ne_main (a := a) (s := s) ?_)
    split at h
    · exact h
    · cases h
  next =>
    split
    · split
      next h _ _ _ _ hs _ =>
        split
        · exact masked
        · exact masked.trans (reshape_same _ h _ _ hs)
      next => exact masked
    · split
      · split
        · exact masked
        · exact masked.trans (newClaim_same _ _ _ _ _ _)
      · exact masked.trans (newClaim_same _ _ _ _ _ _)

theorem serveEntry_same (s : State) (e : WaitEntry) : Same [] s (s.serveEntry e).1 := by
  unfold State.serveEntry
  split
  · exact .refl _ s
  · split
    · exact .refl _ s
    · split
      next h =>
        have masked := consumeMask_same s e.slot e.antenna
        have claimed := masked.trans (startClaim_same _ e.slot e.antenna e.mask e.waits
          (fun k => run_of_localCheck h ((masked .idle (by simp)) k).1))
        dsimp only
        split
        · exact claimed
        · exact claimed.trans (report_same _ _ _)
      next =>
        split
        · exact .refl _ s
        · exact (unwait_same s _).trans (report_same _ _ _)

theorem serveEntries_same (l : List WaitEntry) (s : State) : Same [] s (s.serveEntries l).1 := by
  induction l generalizing s with
  | nil => exact .refl _ s
  | cons e es ih => exact (serveEntry_same s e).trans (ih _)

theorem servicePasses_same (n : Nat) (s : State) : Same [] s (servicePasses n s) := by
  induction n generalizing s with
  | zero => exact .refl _ s
  | succ n ih =>
    unfold servicePasses
    split
    · dsimp only
      split
      · exact (serveEntries_same _ s).trans (ih _)
      · exact serveEntries_same _ s
    · exact .refl _ s

theorem servicePass_same (s : State) : Same [] s s.servicePass := servicePasses_same _ s

theorem serveFirst_same (s : State) (a : Antenna) : Same [] s (s.serveFirst a) := by
  unfold State.serveFirst
  split
  · split
    · exact serveEntry_same s _
    · exact .refl _ s
  · exact .refl _ s

theorem showRefusal_same {X : List Aspect} (s : State) (r : State × PanelOutcome) (h : Same X s r.1) :
    Same X s (State.showRefusal r) := by
  unfold State.showRefusal
  split
  · exact h.trans (report_same _ _ _).any
  · exact h

theorem autoSelect_same (s : State) : Same [] s s.autoSelect := by
  unfold State.autoSelect
  dsimp only
  split
  · exact .refl _ s
  · have dropped := dropCandidate_same s .main .voluntary
    split
    next n h => exact dropped.trans (promote_same _ n (nextCovering_ne_main h))
    next =>
      split
      · exact dropped
      · exact dropped.trans (showRefusal_same _ _ (request_same _ _ _ _ _))

theorem candidateWithdrawn_same (s : State) (i : Slot) (c : Candidate) : Same [] s (s.candidateWithdrawn i c) := by
  have emptied : Same [] s (s.setSlot i { s.slot i with cand := none }) := setSlot_fewer_same s i (.inl rfl) (.inr rfl)
  unfold State.candidateWithdrawn
  dsimp only
  split
  · split
    · exact emptied.trans (placeWait_same _ _)
    · exact (emptied.trans (placeWait_same _ _)).trans (report_same _ _ _)
  · exact emptied.trans (report_same _ _ _)

theorem growWithdrawn_same (s : State) (i : Slot) (h : HeldPart) (g : Grow) (hs : (s.slot i).held = some h) :
    Same [] s (s.growWithdrawn i h g) := by
  refine Same.trans ?_ (report_same _ _ _)
  exact setHeld_same s i hs rfl id

theorem judgeQueued_same (s : State) (touched : List Antenna) (i : Slot) : Same [] s (s.judgeQueued touched i) := by
  unfold State.judgeQueued
  split
  next c hc =>
    dsimp only
    split
    · have read : Same [] s ((s.withdraw (isPlainClaimFor i c.antenna)).setSlot i
          { s.slot i with cand := some { c with readWait := s.pi.waitMode } }) :=
        (withdraw_same s _).trans (setCand_same _ i (fun _ nc => by
          have := (nc i).2
          rw [show (s.slot i).cand = none from this] at hc
          cases hc) rfl)
      split
      · exact read.trans (candidateWithdrawn_same _ _ _)
      · exact read
    · exact .refl _ s
  next => exact .refl _ s

theorem judgeQueuedGrow_same (s : State) (touched : List Antenna) (i : Slot) :
    Same [] s (s.judgeQueuedGrow touched i) := by
  unfold State.judgeQueuedGrow
  split
  next h hs =>
    split
    · dsimp only
      split
      · split
        · exact (withdraw_same s _).trans (growWithdrawn_same _ i h _ hs)
        · exact withdraw_same s _
      · exact .refl _ s
    · exact .refl _ s
  next => exact .refl _ s

theorem judgeWindow_same (s : State) (touched : List Antenna) (n : News) (i : Slot) :
    Same [] s (s.judgeWindow touched n i) := by
  unfold State.judgeWindow
  repeat' split
  all_goals first
    | exact .refl _ s
    | exact dropCandidate_same s _ _
    | exact offerAssert_same s _ _ _ _

theorem growLost_same (s : State) (i : Slot) (h : HeldPart) (hs : (s.slot i).held = some h) :
    Same [] s (s.growLost i h) := by
  refine Same.trans ?_ (offerAssert_same _ _ _ _ _)
  exact setHeld_same s i hs rfl id

theorem judgeGrow_same (s : State) (touched : List Antenna) (n : News) (i : Slot) :
    Same [] s (s.judgeGrow touched n i) := by
  unfold State.judgeGrow
  split
  next h hs =>
    split
    · split
      · split
        · exact growLost_same s i h hs
        · split
          · exact offerAssert_same s _ _ _ _
          · exact .refl _ s
      · exact .refl _ s
    · exact .refl _ s
  next => exact .refl _ s

theorem judgeHeld_same (s : State) (touched : List Antenna) (n : News) (i : Slot) :
    Same [] s (s.judgeHeld touched n i) := by
  unfold State.judgeHeld
  dsimp only
  repeat' split
  all_goals first
    | exact .refl _ s
    | exact freeHold_same s _ _ _
    | exact offerAssert_same s _ _ _ _

theorem judgeSlot_same (s : State) (touched : List Antenna) (n : News) (i : Slot) :
    Same [] s (s.judgeSlot touched n i) :=
  ((((judgeQueued_same s touched i).trans (judgeQueuedGrow_same _ touched i)).trans
    (judgeWindow_same _ touched n i)).trans (judgeGrow_same _ touched n i)).trans (judgeHeld_same _ touched n i)

theorem judgeEntry_same (s : State) (a : Antenna) (m : Mask) (n : News) : Same [] s (s.judgeEntry a m n) := by
  unfold State.judgeEntry
  split
  · exact .refl _ s
  · exact foldl_same _ (fun s i => judgeSlot_same s _ n i) _ s

theorem reserve_same (s : State) (a : Antenna) (p : Position) : Same [] s (s.reserve a p) := setCt_same s rfl

theorem unreserve_same (s : State) (a : Antenna) (p : Position) : Same [] s (s.unreserve a p) := setCt_same s rfl

theorem yieldGrace_same (s : State) (y : Position) (l : List Antenna) : Same [] s (s.yieldGrace y l) := by
  unfold State.yieldGrace
  split
  · exact foldl_same _ serveFirst_same _ s
  · exact foldl_same _ (fun s a => reserve_same s a y) _ s

/-! ### The Claim Table's waits for the lines -/

theorem giveMember_same (s : State) (i : Slot) (a : Antenna) (p : Position) : Same [] s (s.giveMember i a p) := by
  unfold State.giveMember
  split
  · exact .refl _ s
  next h hs =>
    dsimp only
    repeat' split
    · exact givingDone_same s _ _
    · exact freeHold_same s _ _ _
    · exact setHeld_same s i hs rfl id
    · exact setHeld_same s i hs rfl id

theorem driveStep_same (s : State) : Same [] s s.driveStep := by
  unfold State.driveStep
  split
  next h hs =>
    split
    · exact .refl _ s
    · exact setHeld_same s .main hs rfl id
  next => exact .refl _ s

theorem shrinkStep_same (s : State) (i : Slot) : Same [] s (s.shrinkStep i) := by
  unfold State.shrinkStep
  split
  next h hs =>
    split
    next x _ =>
      have reshaped : Same [] s (s.setSlot i { s.slot i with held := some { h with mask := x.mask, shrink := none } }) :=
        setHeld_same s i hs rfl id
      split
      · dsimp only
        split
        · exact reshaped.trans (offerAssert_same _ _ _ _ _)
        · refine reshaped.trans (foldl_same _ (fun s a => ?_) _ _)
          split
          · exact (offerRelease_same s _ _ _ _).trans (givingDone_same _ _ _)
          · exact offerRelease_same s _ _ _ _
      · exact .refl _ s
    next => exact .refl _ s
  next => exact .refl _ s

theorem giveStep_same (s : State) (i : Slot) : Same [] s (s.giveStep i) := by
  unfold State.giveStep
  split
  next h hs =>
    split
    · split
      · refine Same.trans ?_ (giveMember_same _ _ _ _)
        exact setHeld_same s i hs rfl id
      · exact .refl _ s
    · exact .refl _ s
  next => exact .refl _ s

theorem releaseParts_same (i : Slot) (l : List FreeingPart) (s : State) : Same [] s (s.releaseParts i l).1 := by
  induction l generalizing s with
  | nil => exact .refl _ s
  | cons p ps ih =>
    unfold State.releaseParts
    split
    · exact ih _
    · dsimp only
      split
      · exact ((offerRelease_same s _ _ _ _).trans (givingPartDone_same _ _)).trans (ih _)
      · exact (offerRelease_same s _ _ _ _).trans (ih _)

theorem freeingStep_same (s : State) (i : Slot) : Same [] s (s.freeingStep i) :=
  (releaseParts_same i _ s).trans (setSlot_fewer_same _ i (.inl rfl) (.inl rfl))

theorem slotProgress_same (s : State) (i : Slot) : Same [] s (s.slotProgress i) :=
  ((shrinkStep_same s i).trans (giveStep_same _ i)).trans (freeingStep_same _ i)

theorem ctProgress_same (s : State) : Same [] s s.ctProgress :=
  (driveStep_same s).trans (foldl_same _ slotProgress_same _ _)

theorem rdSync_same (s : State) : Same [.rd] s s.rdSync := by
  unfold State.rdSync State.settle
  split
  · exact (setRd_same s _).trans (setRd_same _ _)
  · exact setRd_same s _

theorem relayRound_same (s : State) : Same [.rd] s s.relayRound := (ctProgress_same s).any.trans (rdSync_same _)

theorem relayReact_same (s : State) : Same [.rd] s s.relayReact :=
  (((relayRound_same s).trans (relayRound_same _)).trans (relayRound_same _)).trans (relayRound_same _)

/-! ### The reactions to an event's changes -/

theorem huReact_same (s : State) : Same [.ask, .latch] s s.huReact := by
  unfold State.huReact
  dsimp only
  repeat' split
  all_goals first
    | exact .refl _ s
    | exact setHu_same s _

theorem ptReact_same (s : State) : Same [.liveSeen] s s.ptReact := by
  unfold State.ptReact
  split
  · exact setPt_marks_same s rfl
  · exact .refl _ s

theorem recentReact_same (before s : State) : Same [] s (State.recentReact before s) := by
  unfold State.recentReact
  split
  · exact .refl _ s
  · exact setSg_same s _

theorem remark_same (heard : KeyHeard) (before s : State) : Same [.marks] s (State.remark heard before s) := fun a ha => by
  have unchanged := Aspect.Kept.refl a s
  cases a
  case marks => simp at ha
  all_goals exact unchanged

theorem sgReact_same (before s : State) : Same [] s (State.sgReact before s) := by
  unfold State.sgReact
  split
  · exact .refl _ s
  · exact offerStatus_same s

theorem serviceReact_same (before s : State) : Same [] s (State.serviceReact before s) := by
  refine Same.trans ?_ (owePass_same _ false)
  split
  · exact servicePass_same s
  · exact .refl _ s

theorem serviceLeft_same (before s : State) : Same [] s (State.serviceLeft before s) := by
  refine Same.trans ?_ (owePass_same _ false)
  split
  · exact servicePass_same s
  · exact .refl _ s

theorem autoReact_same (before s : State) : Same [] s (State.autoReact before s) := by
  unfold State.autoReact
  split
  · exact (autoSelect_same s).trans (serviceLeft_same _ _)
  · exact .refl _ s

theorem selfDropNotice_same (s : State) (i : Slot) : Same [] s (s.selfDropNotice i) :=
  (setSg_same s _).trans (selfDrop_same _ i)

theorem gainedReact_same (before s : State) : Same [] s (State.gainedReact before s) :=
  foldl_same _ (fun s i => by
    split
    · exact selfDropNotice_same s i
    · exact .refl _ s) _ _

theorem ctReact_same (before s : State) : Same [] s (State.ctReact before s) :=
  (((serviceReact_same before s).trans (autoReact_same before _)).trans (gainedReact_same before _)).trans
    (serviceLeft_same _ _)

theorem offerProbe_same (s : State) (n : Position) : Same [] s (s.offerProbe n) :=
  (offer_same s rfl).trans (setJc_same _ id id)

theorem jcReact_same (s : State) : Same [] s s.jcReact := by
  unfold State.jcReact
  repeat' split
  all_goals first | exact .refl _ s | exact offerProbe_same s _

theorem startRecord_same (s : State) : Same [.panel] s s.startRecord := setPi_same s rfl

theorem piReact_same (before s : State) : Same [.panel] s (State.piReact before s) := by
  unfold State.piReact
  repeat' split
  all_goals first
    | exact .refl _ s
    | exact startRecord_same s
    | exact setPi_same s rfl

/-- The part when the Interlock Evaluator has its first turn: marks, recent change and live-seen brought up to date. -/
def reactStart (heard : KeyHeard) (before s : State) : State :=
  (State.recentReact before (State.remark heard before s)).ptReact

/-- The part once the Claim Table and the Relay Driver have settled with each other. -/
def reactSettled (heard : KeyHeard) (before s : State) : State :=
  ((State.ctReact before ((reactStart heard before s).turnIf (Config.ieFirst before.choices))).turnIf
    (Config.ieMiddle before.choices)).relayReact

/-- The part once the Interlock Evaluator and the Key Sequencer have had their last turn. -/
def reactJudged (heard : KeyHeard) (before s : State) : State :=
  (reactSettled heard before s).huReact.jcReact.interlockTurn

/-- The reactions to one event, stage by stage. -/
theorem commit_eq (heard : KeyHeard) (before s : State) :
    commit heard before s =
      (State.piReact before (State.sgReact before (reactJudged heard before s))).setChoices
        ((State.piReact before (State.sgReact before (reactJudged heard before s))).choices + 1) := rfl

theorem reactStart_same (heard : KeyHeard) (before s : State) :
    Same [.marks, .liveSeen] s (reactStart heard before s) :=
  (((remark_same heard before s).mono (by decide)).trans (recentReact_same before _).any).trans
    ((ptReact_same _).mono (by decide))

theorem reactSettled_same (heard : KeyHeard) (before s : State) :
    Same [.rd] (reactStart heard before s) (reactSettled heard before s) :=
  (((turnIf_same _ _).any.trans (ctReact_same before _).any).trans (turnIf_same _ _).any).trans (relayReact_same _)

theorem reactJudged_same (heard : KeyHeard) (before s : State) :
    Same [.ask, .latch] (reactSettled heard before s) (reactJudged heard before s) :=
  ((huReact_same _).trans (jcReact_same _).any).trans (interlockTurn_same _).any

theorem commit_same_judged (heard : KeyHeard) (before s : State) :
    Same [.panel] (reactJudged heard before s) (commit heard before s) := by
  rw [commit_eq]
  exact ((sgReact_same before _).any.trans (piReact_same before _)).trans (setChoices_same _ _).any

/-- What the reactions to one event leave as it was. -/
theorem commit_same (heard : KeyHeard) (before s : State) :
    Same [.rd, .marks, .ask, .latch, .panel, .liveSeen] s (commit heard before s) :=
  ((((reactStart_same heard before s).mono (by decide)).trans ((reactSettled_same heard before s).mono (by decide))).trans
    ((reactJudged_same heard before s).mono (by decide))).trans ((commit_same_judged heard before s).mono (by decide))

end Sys2Proof.Machine

/-! SUPPORT. What each command's own effect, before the other blocks take it up, leaves as it was. -/

namespace Sys2Proof.Machine

/-! ### Frequency, asks, status and claims -/

theorem radioChar_same (s : State) (k : CharClass) : Same [.fu] s (s.radioChar k) := by
  have abandoned (d : Decoder) : Same [.fu] s (s.setFu (s.fu.abandon d)) := setFu_same s fun _ => satSucc_le ..
  have moved (d : Decoder) : Same [.fu] s (s.setFu { s.fu with decoder := d }) := setFu_same s id
  unfold State.radioChar
  split
  · exact moved _
  · exact .refl _ s
  · exact moved _
  · exact moved _
  · exact moved _
  · split
    · exact setFu_same s id
    · exact abandoned _
  · exact abandoned _
  · exact abandoned _

theorem staleFreq_same (s : State) : Same [.fu] s s.staleFreq := setFu_same s id

theorem askEnds_same (s : State) : Same [.ask] s s.askEnds := by
  unfold State.askEnds
  split
  · exact (reach_same s _).any.trans (setHu_ask_same _ rfl)
  · exact .refl _ s

theorem askPeriod_same (s : State) : Same [.ask] s s.askPeriod := by
  unfold State.askPeriod
  split
  · exact (reach_same s _).any.trans (setHu_ask_same _ rfl)
  · exact .refl _ s

theorem intervalEnds_same (s : State) : Same [] s s.intervalEnds := (setSg_same s _).trans (offerStatus_same _)

theorem linked_same (s : State) (i : Slot) (t : Nat) : Same [] s (s.setSlot i ((s.slot i).linked t)) := by
  refine setSlot_same s i (fun ok h e => ?_) (fun _ nc => by simp [SlotRecord.linked, nc i])
  cases hs : (s.slot i).held with
  | none => simp [SlotRecord.linked, hs] at e
  | some k =>
    simp only [SlotRecord.linked, hs, Option.map_some, Option.some.injEq] at e
    exact e ▸ ok i k hs

theorem takeTenures_same (s : State) (l : List (Slot × EntryCode)) : Same [] s (s.takeTenures l) :=
  foldl_same _ (fun s e => by
    split
    · exact .refl _ s
    · exact linked_same s _ _) l s

theorem renewSlots_same (s : State) (l : List Slot) : Same [] s (s.renewSlots l) := setSg_same s _

/-- The part's own STATUS has left the queue; no STATUS is held, and its key tenure is on the link (R46, R49, R169). -/
def State.statusLanded (s : State) (f : StatusFrame) : State :=
  let s := s.landed
  let s := s.setLc { s.lc with heldStatus := none }
  s.setKs { s.ks with keyTenureLink := f.keyTenure.toNat }

/-- The slots that a STATUS gone out carried, renewed and with their tenures on the link (R87, R106). -/
def State.statusRenewed (s : State) (f : StatusFrame) : State :=
  ((s.statusLanded f).renewSlots (statusSlots f)).takeTenures (statusEntries f)

/-- A SINGLE STATUS gone out clears the obligation (R92). -/
def State.statusCleared (f : StatusFrame) (s : State) : State :=
  if f.cadence = 0 then s.setSg { s.sg with obligation := false } else s

/-- A STATUS gone out moves the round on (R87, R91). -/
def State.statusAdvanced (f : StatusFrame) (s : State) : State :=
  if s.sg.running then
    (if lastSlice f then s.roundEnd else s.setSg { s.sg with slice := s.sg.slice + 1 })
  else s

/-- What a STATUS gone out does, before the one postponed for it is built (R87). -/
def State.statusDone (s : State) (f : StatusFrame) : State :=
  let s := State.statusAdvanced f (State.statusCleared f (s.statusRenewed f))
  s.setSg { s.sg with outstanding := none }

/-- A STATUS gone out, stage by stage (R46, R49, R87). -/
theorem statusOut_eq (s : State) (f : StatusFrame) :
    s.statusOut f = if s.lc.heldStatus.isSome then (s.statusDone f).offerStatus else s.statusDone f := rfl

theorem statusLanded_same (s : State) (f : StatusFrame) : Same [] s (s.statusLanded f) := by
  refine Same.trans ?_ (setKs_same _ rfl id id id id)
  exact (landed_same s).trans (setReceiver_same _ rfl ⟨rfl, rfl, rfl⟩ rfl)

theorem statusRenewed_same (s : State) (f : StatusFrame) : Same [] s (s.statusRenewed f) :=
  ((statusLanded_same s f).trans (renewSlots_same _ _)).trans (takeTenures_same _ _)

theorem statusCleared_same (f : StatusFrame) (s : State) : Same [] s (State.statusCleared f s) := by
  unfold State.statusCleared
  split
  · exact setSg_same s _
  · exact .refl _ s

theorem statusAdvanced_same (f : StatusFrame) (s : State) : Same [] s (State.statusAdvanced f s) := by
  unfold State.statusAdvanced
  split
  · split <;> exact setSg_same s _
  · exact .refl _ s

theorem statusDone_same (s : State) (f : StatusFrame) : Same [] s (s.statusDone f) :=
  (((statusRenewed_same s f).trans (statusCleared_same f _)).trans (statusAdvanced_same f _)).trans (setSg_same _ _)

theorem statusOut_same (s : State) (f : StatusFrame) : Same [] s (s.statusOut f) := by
  rw [statusOut_eq]
  split
  · exact (statusDone_same s f).trans (offerStatus_same _)
  · exact statusDone_same s f

theorem renewalLimit_same (s : State) (i : Slot) : Same [] s (s.renewalLimit i) := by
  unfold State.renewalLimit
  split
  · exact (reach_same s _).trans (selfDropNotice_same _ i)
  · exact .refl _ s

theorem candidateOut_same (s : State) (i : Slot) (c : Candidate) (hc : (s.slot i).cand = some c) :
    Same [] s (s.candidateOut i c) := by
  unfold State.candidateOut
  split
  · refine Same.trans ?_ (offerRelease_same _ _ _ _ _)
    exact setSlot_fewer_same s i (.inl rfl) (.inr rfl)
  · exact setCand_same s i (fun _ nc => by rw [(nc i).2] at hc; cases hc) rfl

theorem growOut_same (s : State) (i : Slot) (h : HeldPart) (g : Grow) (hs : (s.slot i).held = some h) :
    Same [] s (s.growOut i h g) := by
  unfold State.growOut
  split
  · exact growLost_same s i h hs
  · exact setHeld_same s i hs rfl id

/-- A slot's queued candidate is its candidate. -/
theorem cand_of_queuedCand {s : State} {i : Slot} {a : Antenna} {c : Candidate} (h : s.queuedCand i a = some c) :
    (s.slot i).cand = some c ∧ c.antenna = a ∧ c.phase = .queued := by
  simpa [State.queuedCand, Option.filter_eq_some_iff, and_assoc] using h

/-- A slot's queued grow is that of its hold. -/
theorem held_of_queuedGrow {s : State} {i : Slot} {a : Antenna} {h : HeldPart} {g : Grow}
    (e : s.queuedGrow i a = some (h, g)) :
    (s.slot i).held = some h ∧ h.grow = some g ∧ h.antenna = a ∧ g.phase = .queued := by
  unfold State.queuedGrow at e
  split at e
  next k hk =>
    split at e
    next x hx =>
      split at e
      next c =>
        cases e
        exact ⟨hk, hx, c⟩
      next => cases e
    next => cases e
  next => cases e

theorem plainClaimOut_same (s : State) (i : Slot) (a : Antenna) : Same [] s (s.plainClaimOut i a) := by
  unfold State.plainClaimOut
  split
  · exact .refl _ s
  · split
    next h => exact candidateOut_same s i _ (cand_of_queuedCand h).1
    next h => exact growOut_same s i _ _ (held_of_queuedGrow h).1
    next => exact .refl _ s

theorem claimOut_same (s : State) (f : ClaimFrame) : Same [] s (s.claimOut f) := by
  have taken := ((landed_same s).trans (renewSlots_same _ [f.slot])).trans (linked_same _ f.slot f.tenure.toNat)
  unfold State.claimOut
  dsimp only
  split
  · exact taken
  · exact taken.trans (plainClaimOut_same _ _ _)

theorem windowEnds_same (s : State) (i : Slot) (c : Candidate) (hc : (s.slot i).cand = some c) :
    Same [] s (s.windowEnds i c) := by
  have freed := freeHold_same s i .voluntary none
  refine fun a ha => (freed a ha).trans (setSlot_same _ i (fun _ h e => ?_) (fun _ nc => ?_) a ha)
  · cases e
    exact Nat.zero_le _
  · have gone := (nc i).2
    rw [freeHold_slot_self, hc] at gone
    cases gone

theorem slotWindowEnds_same (s : State) (i : Slot) : Same [] s (s.slotWindowEnds i) := by
  unfold State.slotWindowEnds
  split
  next c hc =>
    split
    · exact (reach_same s _).trans (windowEnds_same _ i c hc)
    · exact .refl _ s
  next => exact .refl _ s

theorem tenurePeriodEnds_same (s : State) (i : Slot) : Same [] s (s.tenurePeriodEnds i) := by
  unfold State.tenurePeriodEnds
  split
  next h hs =>
    unfold State.onExpiry
    split
    next due _ =>
      refine Same.trans (reach_same s due) ?_
      exact setHeld_same _ i hs rfl (fun _ => satSucc_le ..)
    next => exact .refl _ s
  next => exact .refl _ s

theorem releaseOut_same (s : State) (f : ReleaseFrame) : Same [] s (s.releaseOut f) := by
  have landed := landed_same s
  unfold State.releaseOut
  dsimp only
  split
  · exact landed
  · have freed : Same [] s (((s.landed.slot f.slot).freeing.filter (fun p => p.sentBy f)).foldl
        (fun s p => s.givingPartDone p) (s.landed.setSlot f.slot { s.landed.slot f.slot with
          freeing := (s.landed.slot f.slot).freeing.filter (fun p => !p.sentBy f) })) := by
      refine Same.trans ?_ (foldl_same _ givingPartDone_same _ _)
      exact landed.trans (setSlot_fewer_same _ _ (.inl rfl) (.inl rfl))
    split
    · exact freed.trans (givingDone_same _ _ _)
    · exact freed

theorem reservationEnds_same (s : State) (a : Antenna) : Same [] s (s.reservationEnds a) := by
  unfold State.reservationEnds
  split
  · exact (reach_same s _).trans (setCt_same _ rfl)
  · exact .refl _ s

theorem growWindowEnds_same (s : State) : Same [] s s.growWindowEnds := by
  unfold State.growWindowEnds
  split
  next h hs =>
    split
    · split
      next due _ =>
        refine Same.trans (reach_same s due) ?_
        exact setHeld_same _ .main hs rfl id
      next => exact .refl _ s
    · exact .refl _ s
  next => exact .refl _ s

/-! ### The line -/

/-- A RELEASE for a slot and an antenna stands among some frames. -/
def releasedIn (frames : List LinkFrame) (i : Slot) (a : Antenna) : Bool :=
  frames.any (fun f =>
    match f.body with
    | .release r => r.slot == i && r.antenna.toNat == a
    | _ => false)

/-- The freeing parts of a slot whose RELEASE has been withdrawn count as gone (R51, R110). -/
def State.forgetReleased (frames : List LinkFrame) (s : State) (i : Slot) : State :=
  s.setSlot i { s.slot i with
    freeing := (s.slot i).freeing.filter (fun p => !(p.released && releasedIn frames i p.antenna)) }

/-- A withdrawn COMMAND is shown as not sent (R51, R181). -/
def State.forgetCommand (s : State) (frames : List LinkFrame) : State :=
  if frames.any isCommand then (s.setCu { s.cu with outstanding := none }).report .cu .notSent else s

/-- The notices of withdrawn frames, block by block (R51). -/
theorem withdrawnNotices_eq (s : State) (frames : List LinkFrame) :
    s.withdrawnNotices frames =
      (allSlots.foldl (State.forgetReleased frames) (s.forgetCommand frames)).keyWithdrawn frames := rfl

theorem forgetReleased_same (frames : List LinkFrame) (s : State) (i : Slot) :
    Same [] s (State.forgetReleased frames s i) := setSlot_fewer_same s i (.inl rfl) (.inl rfl)

theorem forgetCommand_same (s : State) (frames : List LinkFrame) : Same [] s (s.forgetCommand frames) := by
  unfold State.forgetCommand
  split
  · exact (setCu_same s rfl rfl).trans (report_same _ _ _)
  · exact .refl _ s

theorem withdrawnNotices_same (s : State) (l : List LinkFrame) : Same [] s (s.withdrawnNotices l) := by
  rw [withdrawnNotices_eq]
  exact ((forgetCommand_same s l).trans (foldl_same _ (forgetReleased_same l) _ _)).trans (keyWithdrawn_same _ l)

theorem withdrawAll_same (s : State) : Same [] s s.withdrawAll :=
  (withdraw_same s anyFrame).trans (withdrawnNotices_same _ _)

theorem fallSilent_same (s : State) : Same [] s s.fallSilent := (withdrawAll_same s).trans (stopStatus_same _)

theorem claimWithdrawn_same (s : State) (f : LinkFrame) : Same [] s (s.claimWithdrawn f) := by
  unfold State.claimWithdrawn
  split
  · dsimp only
    split
    · exact .refl _ s
    · split
      next => exact candidateWithdrawn_same s _ _
      next h => exact growWithdrawn_same s _ _ _ (held_of_queuedGrow h).1
      next => exact .refl _ s
  · exact .refl _ s

theorem offerHeldStatus_same (s : State) : Same [.keyless] s s.offerHeldStatus := by
  unfold State.offerHeldStatus
  split
  · exact .refl _ s
  next f _ =>
    have offered : Same [.keyless] s ((s.setLc { s.lc with heldStatus := none }).offer f).1 :=
      (setReceiver_same s rfl ⟨rfl, rfl, rfl⟩ rfl).any.trans (offer_same_keyless _ f)
    dsimp only
    split
    · exact offered.trans (setSg_same _ _).any
    · exact offered

/-- The queue as a lost flight leaves it (R41, R42, R51). -/
def QueueEntry.landing (e : QueueEntry) (q : List QueueEntry) : List QueueEntry :=
  if e.withdraw then q.filter (fun x => !x.inFlight) else q.map (fun x => { x with inFlight := false })

/-- The frame in flight is out of flight: unsent in its place, or gone where it is marked (R41, R42, R51). -/
def State.flightLanded (s : State) (e : QueueEntry) : State := s.setLc { s.lc with queue := e.landing s.lc.queue }

/-- The held offer of the class of a frame that lost its flight, offered (R49). -/
def State.offerHeld (s : State) (e : QueueEntry) : State :=
  if isStatus e.frame then
    (if e.withdraw then s.setSg { s.sg with outstanding := none } else s).offerHeldStatus
  else if isKey e.frame then s.offerHeldKey
  else s

/-- A lost flight, stage by stage (R41, R42, R49, R51). -/
theorem flightLost_eq (s : State) {e : QueueEntry} (h : flying s.lc.queue = some e) :
    s.flightLost = if e.withdraw then
      (((s.flightLanded e).offerHeld e).withdrawnNotices [e.frame]).claimWithdrawn e.frame
      else (s.flightLanded e).offerHeld e := by
  unfold State.flightLost
  rw [h]
  rfl

theorem QueueOk.landing {lc lc' : LinkCtl} (h : QueueOk lc) (e : QueueEntry) (hq : lc'.queue = e.landing lc.queue) :
    QueueOk lc' := by
  unfold QueueEntry.landing at hq
  split at hq
  · exact h.filter _ hq
  · exact h.map (fun x => { x with inFlight := false }) (fun _ => rfl) (fun _ => id) (fun _ => id)
      (fun _ k => by cases k) hq

theorem flightLanded_same (s : State) (e : QueueEntry) : Same [.keyless] s (s.flightLanded e) := fun a ha => by
  have unchanged := Aspect.Kept.refl a s
  cases a
  case keyless => simp at ha
  case queue => exact fun h => h.landing e rfl
  all_goals exact unchanged

theorem offerHeld_same (s : State) (e : QueueEntry) : Same [.keyless] s (s.offerHeld e) := by
  unfold State.offerHeld
  split
  · split
    · exact (setSg_same s _).any.trans (offerHeldStatus_same _)
    · exact offerHeldStatus_same s
  · split
    · exact offerHeldKey_same s
    · exact .refl _ s

theorem flightLost_same (s : State) : Same [.keyless] s s.flightLost := by
  cases h : flying s.lc.queue with
  | none =>
    unfold State.flightLost
    rw [h]
    exact .refl _ s
  | some e =>
    have lost := (flightLanded_same s e).trans (offerHeld_same _ e)
    rw [flightLost_eq s h]
    split
    · exact (lost.trans (withdrawnNotices_same _ _).any).trans (claimWithdrawn_same _ _).any
    · exact lost

theorem frameStart_same (s : State) : Same [] s
    (if s.mayStart then s.setLc { s.lc with queue := launchHead s.lc.queue, receiver := .frame } else s) := by
  split
  next h =>
    have idle : flying s.lc.queue = none := by
      simp only [State.mayStart, Bool.and_eq_true] at h
      simpa using h.1.2
    refine setLc_same s (fun ok => ok.launchHead idle rfl) (fun none e he hf => ?_) ⟨rfl, rfl, rfl⟩ id
    have sub : ∀ q : List QueueEntry, ∀ x ∈ launchHead q, x.inFlight = false → x ∈ q := by
      intro q
      induction q with
      | nil => simp [launchHead]
      | cons y ys ih =>
        intro x hx hfl
        unfold launchHead at hx
        split at hx
        · exact (List.mem_cons.1 hx).elim (fun k => k ▸ List.mem_cons_self) (fun k => List.mem_cons_of_mem _ (ih x k hfl))
        · rcases List.mem_cons.1 hx with rfl | k
          · cases hfl
          · exact List.mem_cons_of_mem _ k
    exact none e (sub _ e he hf) hf
  next => exact .refl _ s

theorem adaptationEnds_same (s : State) : Same [.counts] s s.adaptationEnds := by
  refine setLc_counts_same s rfl (fun hl ho hv => ⟨hl, ho, ?_⟩)
  show levelAtPeriodEnd _ _ _ ≤ 15
  unfold levelAtPeriodEnd
  split
  · exact satSucc_le ..
  · split <;> omega

end Sys2Proof.Machine

/-! SUPPORT. What each command's own effect leaves as it was, continued: peers, joining, commands, keying and keys. -/

namespace Sys2Proof.Machine

/-! ### Peer Table -/

theorem peerGone_same (s : State) (p : Position) : Same [.latch] s (s.peerGone p) := by
  unfold State.peerGone
  refine Same.trans ?_ (setCt_same _ rfl).any
  refine setHu_latch_same s ?_
  repeat' split
  all_goals rfl

theorem setRecords_same (s : State) (l : List PeerRecord) : Same [.records] s (s.setPt { s.pt with records := l }) :=
  setPt_same s rfl

theorem removePeer_same (s : State) (p : Position) : Same [.records, .latch] s (s.removePeer p) := by
  unfold State.removePeer
  split
  · exact ((setRecords_same s _).mono (by decide)).trans ((peerGone_same _ p).mono (by decide))
  · exact .refl _ s

theorem putPeer_same (s : State) (r : PeerRecord) : Same [.records] s (s.putPeer r) := setRecords_same s _

theorem expirePeer_same (s : State) (p : Position) : Same [.records, .latch] s (s.expirePeer p) :=
  (removePeer_same s p).trans (setLinkLost_same _ _).any

theorem emptyPeers_same (s : State) : Same [.records, .latch, .liveSeen] s s.emptyPeers := by
  unfold State.emptyPeers
  refine Same.trans (X := [.records, .latch, .liveSeen]) ?_ (Same.mono (setPt_marks_same _ rfl) (by decide))
  exact foldl_same _ (fun s (r : PeerRecord) => Same.mono (X := [.records, .latch]) (removePeer_same s r.pos) (by decide)) _ s

/-- The view before a STATUS is applied: a record of another unit has gone (R63). -/
def State.viewFor (s : State) (p : Position) (f : StatusFrame) (r : PeerRecord) : State :=
  if tokenDiffers f r then s.removePeer p else s

/-- The record a STATUS is applied to: a fresh one where another unit sends with the number (R63). -/
def State.recordBefore (s : State) (p : Position) (f : StatusFrame) (r : PeerRecord) : PeerRecord :=
  if tokenDiffers f r then PeerRecord.fresh p s.now else r

/-- The record after a STATUS, with the entries that a new period code puts at their limit gone (R65, R69). -/
def State.recordAfter (s : State) (f : StatusFrame) (r : PeerRecord) : PeerRecord :=
  if s.peerPeriod r = s.peerPeriod (s.statusRecord f r) then s.statusRecord f r
  else { s.statusRecord f r with
    entries := expireEntries s.now (s.peerLimit (s.statusRecord f r)) (s.statusRecord f r).entries }

/-- A record put into the view; one gone LIVE clears link lost (R75). -/
def State.putStatus (s : State) (r0 r : PeerRecord) : State :=
  if r.live && !r0.live then (s.putPeer r).setPt { (s.putPeer r).pt with linkLost := false } else s.putPeer r

/-- A STATUS applied to the record of its sender, stage by stage (R61 to R65, R69, R75). -/
theorem applyStatus_eq {s : State} {p : Position} {r : PeerRecord} (f : StatusFrame) (h : s.recordFor p = some r) :
    s.applyStatus p f = (s.viewFor p f r).putStatus ((s.viewFor p f r).recordBefore p f r)
      ((s.viewFor p f r).recordAfter f ((s.viewFor p f r).recordBefore p f r)) := by
  unfold State.applyStatus
  rw [h]
  rfl

theorem viewFor_same (s : State) (p : Position) (f : StatusFrame) (r : PeerRecord) :
    Same [.records, .latch] s (s.viewFor p f r) := by
  unfold State.viewFor
  split
  · exact removePeer_same s p
  · exact .refl _ s

theorem putStatus_same (s : State) (r0 r : PeerRecord) : Same [.records] s (s.putStatus r0 r) := by
  unfold State.putStatus
  split
  · exact (putPeer_same s r).trans (setLinkLost_same _ _).any
  · exact putPeer_same s r

theorem applyStatus_same (s : State) (p : Position) (f : StatusFrame) :
    Same [.records, .latch] s (s.applyStatus p f) := by
  cases h : s.recordFor p with
  | none =>
    unfold State.applyStatus
    rw [h]
    exact .refl _ s
  | some r =>
    rw [applyStatus_eq f h]
    exact (viewFor_same s p f r).trans ((putStatus_same _ _ _).mono (by decide))

theorem applyClaim_same (s : State) (p : Position) (f : ClaimFrame) : Same [.records] s (s.applyClaim p f) := by
  unfold State.applyClaim
  split
  · exact .refl _ s
  · exact putPeer_same s _

theorem applyRelease_same (s : State) (p : Position) (f : ReleaseFrame) : Same [.records] s (s.applyRelease p f) := by
  unfold State.applyRelease
  split
  · exact .refl _ s
  · exact putPeer_same s _

theorem applyKey_same (s : State) (p : Position) (f : KeyFrame) : Same [.records] s (s.applyKey p f) := by
  unfold State.applyKey
  split
  · exact .refl _ s
  · exact putPeer_same s _

/-! ### Joining -/

theorem attemptFrom_same (s : State) (n : Position) : Same [] s (s.attemptFrom n) := by
  unfold State.attemptFrom
  split
  · exact (setJc_same s (fun h => by cases h) (fun _ => satSucc_le ..)).trans (offerProbe_same _ _)
  · exact setJc_same s (fun h => by cases h) id

theorem attemptFailed_same (s : State) (t : Position) : Same [] s (s.attemptFailed t) := by
  refine Same.trans ?_ (attemptFrom_same _ _)
  exact (withdraw_same s isProbe).trans (setJc_same _ id id)

theorem numberFreed_same (s : State) (p : Position) : Same [] s (s.numberFreed p) := by
  unfold State.numberFreed
  split
  · refine Same.trans ?_ (attemptFrom_same _ _)
    exact setJc_same s id id
  · exact .refl _ s

theorem recordExpires_same (s : State) (p : Position) : Same [.records, .latch] s (s.recordExpires p) :=
  (expirePeer_same s p).trans (numberFreed_same _ p).any

theorem entryExpires_same (s : State) (r : PeerRecord) (i : Slot) :
    Same [.records, .latch] s (s.entryExpires r i) := by
  unfold State.entryExpires
  dsimp only
  split
  · exact ((putPeer_same s _).mono (by decide)).trans (recordExpires_same _ _)
  · exact (putPeer_same s _).mono (by decide)

theorem sweepUnknown_same (s : State) : Same [.records, .latch] s s.sweepUnknown :=
  foldl_same _ (fun s r => by
    dsimp only
    split
    · exact .refl _ s
    · split
      · exact ((putPeer_same s _).mono (by decide)).trans (recordExpires_same _ _)
      · exact (putPeer_same s _).mono (by decide)) _ s

theorem enterListen_same (s : State) : Same [] s s.enterListen :=
  setJc_same s (fun h => by cases h) (fun _ => Nat.zero_le _)

theorem enterRun_same (s : State) (n : Position) : Same [.records, .latch] s (s.enterRun n) := by
  refine Same.trans ?_ (startStatus_same _).any
  refine Same.trans ?_ (removePeer_same _ n)
  refine Same.any ?_
  exact setJc_same s (fun h => by cases h) id

theorem withdrawGrow_same (s : State) (i : Slot) : Same [] s (s.withdrawGrow i) := by
  unfold State.withdrawGrow
  split
  · split
    · exact withdraw_same s _
    · exact .refl _ s
  · exact .refl _ s

theorem leaveSlot_same (s : State) (i : Slot) : Same [] s (s.leaveSlot i) :=
  ((withdrawGrow_same s i).trans (dropCandidate_same _ _ _)).trans (freeHold_same _ _ _ _)

/-- The part in LEAVING with a case, its asks and answers gone (R34, R132). -/
def State.leavingBegun (s : State) (c : LeavingCase) : State :=
  (s.setJc { s.jc with
    state := .leaving, leaving := some c, listenTimer := .stopped, probeWait := .stopped, tentative := none,
    probeOwed := false }).setHu .reset

/-- The wait list, reservations and panel mask emptied and standby cleared (R118, R131, R187). -/
def State.claimsEmptied (s : State) : State :=
  let s := s.setCt { s.ct with waitList := [], reservations := [], panelMask := none }
  s.setCu { s.cu with standby := false, deferred := false }

/-- The part leaves, stage by stage (R34). -/
theorem enterLeaving_eq (s : State) (c : LeavingCase) :
    s.enterLeaving c = if c = .duplicate then
      (allSlots.foldl State.leaveSlot (s.leavingBegun c)).claimsEmptied.fallSilent
      else (allSlots.foldl State.leaveSlot (s.leavingBegun c)).claimsEmptied := rfl

theorem leavingBegun_same (s : State) (c : LeavingCase) : Same [.ask, .latch] s (s.leavingBegun c) := by
  refine Same.trans ?_ (setHu_same _ _)
  refine Same.any ?_
  exact setJc_same s (fun h => by cases h) id

theorem claimsEmptied_same (s : State) : Same [] s s.claimsEmptied := by
  refine Same.trans ?_ (setCu_same _ rfl rfl)
  exact setCt_same s rfl

theorem enterLeaving_same (s : State) (c : LeavingCase) : Same [.ask, .latch] s (s.enterLeaving c) := by
  have left := ((leavingBegun_same s c).trans (foldl_same _ leaveSlot_same allSlots _).any).trans (claimsEmptied_same _).any
  rw [enterLeaving_eq]
  split
  · exact left.trans (fallSilent_same _).any
  · exact left

theorem rejoinRequest_same (s : State) : Same [.ask, .latch] s s.rejoinRequest := by
  unfold State.rejoinRequest
  split
  · exact enterLeaving_same s _
  · exact enterLeaving_same s _
  · exact enterLeaving_same s _
  · exact enterLeaving_same s _
  · exact (withdraw_same s _).any.trans (enterLeaving_same _ _)
  · exact .refl _ s

theorem duplicateFound_same (s : State) : Same [.ask, .latch] s s.duplicateFound := by
  unfold State.duplicateFound
  split
  · exact enterLeaving_same s _
  · refine Same.any ?_
    refine Same.trans ?_ (fallSilent_same _)
    exact setJc_same s id id
  · exact .refl _ s

/-- The view and the slots emptied as LEAVING ends (R35, R118, R131). -/
def State.leftEmpty (s : State) : State :=
  let s := s.fallSilent.emptyPeers
  s.setCt { s.ct with slots := .all .empty, waitList := [], reservations := [] }

/-- LEAVING ends, stage by stage (R35). -/
theorem finishLeaving_eq (s : State) :
    s.finishLeaving = if s.jc.leaving == some .duplicate && s.leftEmpty.ps.fixedNumber then
      s.leftEmpty.setJc { s.leftEmpty.jc with state := .duplicate, failed := [], leaving := none }
      else if s.jc.leaving == some .duplicate then
        (s.leftEmpty.setJc { s.leftEmpty.jc with number := none }).enterListen
      else s.leftEmpty.enterListen := rfl

theorem leftEmpty_same (s : State) : Same [.records, .latch, .liveSeen] s s.leftEmpty := by
  refine Same.trans ?_ (setCt_empty_same _ rfl).any
  exact (fallSilent_same s).any.trans (emptyPeers_same _)

theorem finishLeaving_same (s : State) : Same [.records, .latch, .liveSeen] s s.finishLeaving := by
  rw [finishLeaving_eq]
  split
  · refine (leftEmpty_same s).trans ?_
    refine Same.any ?_
    exact setJc_same _ (fun h => by cases h) id
  · split
    · refine (leftEmpty_same s).trans ?_
      refine Same.trans ?_ (enterListen_same _).any
      refine Same.any ?_
      exact setJc_same _ id id
    · exact (leftEmpty_same s).trans (enterListen_same _).any

theorem senderHeard_same (s : State) (p : Position) (probe : Bool) :
    Same [.ask, .latch] s (s.senderHeard p probe) := by
  unfold State.senderHeard
  split
  · exact (attemptFailed_same s p).any
  · split
    · exact duplicateFound_same s
    · exact .refl _ s

theorem listenEnds_same (s : State) : Same [.records, .latch] s s.listenEnds := by
  have stopped : Same [.records, .latch] s (s.setJc { s.jc with listenTimer := .stopped }) := (setJc_same s id id).any
  unfold State.listenEnds
  dsimp only
  split
  · exact stopped.trans (enterRun_same _ _)
  · split
    · exact stopped.trans (enterRun_same _ _)
    · exact stopped.trans (attemptFrom_same _ _).any

theorem probeOut_same (s : State) (f : LinkFrame) : Same [] s (s.probeOut f) := by
  unfold State.probeOut
  dsimp only
  split
  · exact (landed_same s).trans (setJc_same _ id id)
  · exact landed_same s

theorem probeWaitEnds_same (s : State) : Same [.records, .latch] s s.probeWaitEnds := by
  unfold State.probeWaitEnds
  split
  · exact enterRun_same s _
  · exact (setJc_same s id id).any

/-! ### Hand-over and keying -/

theorem giveAntenna_same (s : State) (a : Antenna) (p : Position) : Same [] s (s.giveAntenna a p) := by
  unfold State.giveAntenna
  split
  · exact freeHold_same s _ _ _
  · split
    · exact giveMember_same s _ _ _
    · exact givingDone_same s _ _

theorem give_same (s : State) (l : Latch) : Same [.latch] s (s.give l) := by
  refine Same.trans ?_ (giveAntenna_same _ _ _).any
  exact setHu_latch_same s rfl

theorem autoGive_same (s : State) : Same [.latch] s s.autoGive := by
  unfold State.autoGive
  split
  · split
    · exact give_same s _
    · exact .refl _ s
  · exact .refl _ s

theorem enterStandby_same (s : State) : Same [.latch] s s.enterStandby := by
  refine Same.trans ?_ (autoGive_same _)
  exact (setCu_same s rfl rfl).any

theorem enterReceive_same (s : State) (h : s.ampKey = false) : Same [.latch] s s.enterReceive := by
  have entered : Same [.latch] s (s.setKs { s.ks with state := .receive, lockout := none }) := by
    refine Same.any ?_
    exact setKs_same s h.symm (fun e => by cases e) (fun _ => rfl) id id
  unfold State.enterReceive
  dsimp only
  split
  · exact entered.trans (enterStandby_same _)
  · exact entered

theorem readAnswer_same (s : State) (r : PeerRecord) : Same [.ask] s (s.readAnswer r) := by
  unfold State.readAnswer
  split
  · split
    · refine Same.trans ?_ (report_same _ _ _).any
      split
      · split
        · exact setHu_ask_same s rfl
        · exact .refl _ s
      · exact .refl _ s
    · exact .refl _ s
  · exact .refl _ s

/-- The latch emptied where its asker's head no longer names this part and antenna (R139). -/
def State.dropLatched (s : State) (r : PeerRecord) : State :=
  match s.hu.latch with
  | some l => if l.asker = r.pos ∧ s.asksFor r l.antenna = false then s.setHu { s.hu with latch := none } else s
  | none => s

/-- A KEEP emptied where its asker's head no longer names this part and antenna (R142). -/
def State.dropKept (s : State) (r : PeerRecord) : State :=
  match s.hu.answer with
  | some ⟨p, a, .keep⟩ =>
    if p = r.pos ∧ s.asksFor r a = false then s.setHu { s.hu with answer := none, keepTimer := .stopped } else s
  | _ => s

/-- The latch first, then the KEEP (R139, R142). -/
theorem dropAnswered_eq (s : State) (r : PeerRecord) : s.dropAnswered r = (s.dropLatched r).dropKept r := rfl

theorem dropAnswered_same (s : State) (r : PeerRecord) : Same [.latch] s (s.dropAnswered r) := by
  have latch : Same [.latch] s (s.dropLatched r) := by
    unfold State.dropLatched
    split
    · split
      · exact setHu_latch_same s rfl
      · exact .refl _ s
    · exact .refl _ s
  rw [dropAnswered_eq]
  refine latch.trans ?_
  unfold State.dropKept
  split
  · split
    · exact Same.any (setHu_answer_same _ rfl rfl)
    · exact .refl _ _
  · exact .refl _ _

theorem latchAsk_same (s : State) (r : PeerRecord) : Same [.latch] s (s.latchAsk r) := by
  unfold State.latchAsk
  split
  · split
    · refine Same.trans ?_ (autoGive_same _)
      exact setHu_latch_same s rfl
    · exact .refl _ s
  · exact .refl _ s

theorem headHeard_same (s : State) (p : Position) : Same [.ask, .latch] s (s.headHeard p) := by
  unfold State.headHeard
  split
  · exact .refl _ s
  · split
    · exact (((readAnswer_same s _).mono (by decide)).trans ((dropAnswered_same _ _).mono (by decide))).trans
        ((latchAsk_same _ _).mono (by decide))
    · exact .refl _ s

theorem press_same (s : State) : Same [.keyless] s s.press := by
  unfold State.press
  split
  · exact .refl _ s
  · have pressed : Same [.keyless] s (s.setKs { s.ks with ptt := true }) := (setKs_same s rfl id id id id).any
    dsimp only
    split
    next h => exact pressed.trans (judgePress_same _ (ampKey_of_state h (by simp)))
    next => exact pressed

theorem release_same (s : State) : Same [.latch] s s.release := by
  unfold State.release
  split
  · have released : Same [] s (s.setKs { s.ks with ptt := false }) := setKs_same s rfl id id id id
    dsimp only
    split
    next h => exact released.any.trans (enterReceive_same _ (ampKey_of_state h (by simp)))
    next h => exact released.any.trans (enterReceive_same _ (ampKey_of_state h (by simp)))
    next h =>
      exact ((released.any.trans (enterReceive_same _ (ampKey_of_state h (by simp)))).trans (withdraw_same _ _).any).trans
        (syncKeyOn_same _).any
    next h => exact (released.trans (startTail_same _ _ _ (.inl h))).any
    next h => exact (released.trans (startTail_same _ _ _ (.inr h))).any
    next => exact released.any
    next => exact released.any
  · exact .refl _ s

theorem offerKeyOff_ampKey (s : State) : s.offerKeyOff.ampKey = s.ampKey := by
  unfold State.offerKeyOff
  split
  · rfl
  · exact offerKey_ampKey s _

theorem announceRead_same (s : State) (h : s.ks.state = .announce) : Same [.keys, .keyless] s s.announceRead := by
  unfold State.announceRead
  split
  · exact setKs_keys_same s (fun _ => Nat.zero_le _) id
  · refine (offerKeyOff_same s).any.trans ((lockOut_same _ _ ?_).mono (by decide))
    rw [offerKeyOff_ampKey]
    exact ampKey_of_state h (by simp)

theorem keyOnOut_same (s : State) (b : Bool) : Same [.keys, .keyless] s (s.keyOnOut b) := by
  have answered : Same [.keys, .keyless] s (if b then s.offerKeyOff else s) := by
    split
    · exact (offerKeyOff_same s).any
    · exact .refl _ s
  unfold State.keyOnOut
  split
  next h => exact announceRead_same s h
  all_goals first | exact answered | exact .refl _ s

/-- The part's KEY has left the queue, its key tenure on the link (R46, R169). -/
def State.keyLanded (s : State) (f : KeyFrame) : State :=
  let s := s.landed
  s.setKs { s.ks with keyTenureLink := f.tenure.toNat }

/-- The part's KEY gone out, stage by stage (R46, R49, R165, R166). -/
theorem keyOut_eq (s : State) (f : KeyFrame) :
    s.keyOut f = (if f.on && !f.isAssert then (s.keyLanded f).keyOnOut s.ks.keyOnOutstanding
      else s.keyLanded f).offerHeldKey.syncKeyOn := rfl

theorem keyLanded_same (s : State) (f : KeyFrame) : Same [] s (s.keyLanded f) :=
  (landed_same s).trans (setKs_same _ rfl id id id id)

theorem keyOut_same (s : State) (f : KeyFrame) : Same [.keys, .keyless] s (s.keyOut f) := by
  rw [keyOut_eq]
  refine Same.trans (Same.trans ?_ ((offerHeldKey_same _).mono (by decide))) (syncKeyOn_same _).any
  split
  · exact (keyLanded_same s f).any.trans (keyOnOut_same _ _)
  · exact (keyLanded_same s f).any

theorem seqEnds_same (s : State) : Same [.keys, .keyless] s s.seqEnds := setKs_keys_same s id id

theorem ampOff_same (s : State) : Same [.keys, .keyless] s s.ampOff := setKs_keys_same s (fun _ => Nat.zero_le _) id

/-- The sequencer once the tail is over, a dropped transmission counted (R168, R171). -/
def State.tailOver (s : State) : State :=
  if s.ks.tailCause == some .drop then s.ampOff.countRefusal else s.ampOff

/-- The tail runs out, stage by stage (R168). -/
theorem tailEnds_eq (s : State) :
    s.tailEnds = if s.ks.tailCause == some .drop && s.ks.ptt then
      s.tailOver.setKs { s.tailOver.ks with state := .lockout }
      else if s.ks.ptt then s.tailOver.enterReceive.relayReact.evaluate.judgePress
      else s.tailOver.enterReceive := rfl

theorem tailOver_same (s : State) : Same [.keys, .keyless] s s.tailOver := by
  unfold State.tailOver
  split
  · exact (ampOff_same s).trans (countRefusal_same _).any
  · exact ampOff_same s

theorem enterReceive_same_tail (s : State) : Same [.keys, .keyless, .latch] s s.enterReceive := by
  have entered : Same [.keys, .keyless, .latch] s (s.setKs { s.ks with state := .receive, lockout := none }) :=
    Same.mono (X := [.keys, .keyless]) (setKs_keys_same s id id) (by decide)
  unfold State.enterReceive
  dsimp only
  split
  · exact entered.trans ((enterStandby_same _).mono (by decide))
  · exact entered

/-- In RECEIVE AMP KEY is off. -/
theorem enterReceive_ampKey (s : State) : s.enterReceive.ampKey = false := by
  unfold State.enterReceive
  dsimp only
  split
  · exact (enterStandby_same _ .keys (by decide)).1
  · rfl

theorem tailEnds_same (s : State) : Same [.keys, .keyless, .latch, .rd] s s.tailEnds := by
  have ended : Same [.keys, .keyless, .latch, .rd] s s.tailOver := (tailOver_same s).mono (by decide)
  have received : Same [.keys, .keyless, .latch, .rd] s s.tailOver.enterReceive :=
    ended.trans ((enterReceive_same_tail _).mono (by decide))
  rw [tailEnds_eq]
  split
  · exact ended.trans (Same.mono (X := [.keys, .keyless]) (setKs_keys_same _ id id) (by decide))
  · split
    · have off : s.tailOver.enterReceive.relayReact.evaluate.ampKey = false :=
        (((relayReact_same _).trans (evaluate_same _).any) .keys (by decide)).1.trans (enterReceive_ampKey _)
      exact ((received.trans ((relayReact_same _).mono (by decide))).trans (evaluate_same _).any).trans
        ((judgePress_same _ off).mono (by decide))
    · exact received

/-! ### Station commands and keys -/

theorem startQuiet_same (s : State) (p : Position) (n : Nat) : Same [.quiet] s (s.startQuiet p n) :=
  setCu_quiet_same s _

theorem endQuiet_same (s : State) : Same [.quiet] s s.endQuiet := setCu_quiet_same s _

theorem relearn_same (s : State) : Same [.records, .latch, .liveSeen] s s.relearn := by
  unfold State.relearn
  split
  · refine Same.trans (X := [.records, .latch, .liveSeen]) (emptyPeers_same s) (Same.any (setCt_same _ rfl))
  · exact .refl _ s

/-- What applying a command may touch. -/
def commandTouches : CommandName → List Aspect
  | .quiet | .quietEnd => [.quiet]
  | .rejoin => [.ask, .latch]
  | .relearn => [.records, .latch, .liveSeen]

theorem applyCommand_same (s : State) (name : CommandName) (p : Position) (f : CommandFields) :
    Same (commandTouches name) s (s.applyCommand name p f) := by
  cases name with
  | quiet => exact startQuiet_same s _ _
  | quietEnd => exact endQuiet_same s
  | rejoin => exact rejoinRequest_same s
  | relearn => exact relearn_same s

theorem takeCommand_same (s : State) (name : CommandName) (p : Position) (f : CommandFields) (own : Bool) :
    Same (commandTouches name) s (s.takeCommand name p f own) := by
  have recorded (x : Option LastCommand) : Same (commandTouches name) s (s.setCu { s.cu with last := x }) :=
    (setCu_same s rfl rfl).any
  unfold State.takeCommand
  dsimp only
  split
  · exact .refl _ s
  · split
    · exact (recorded _).trans (applyCommand_same _ name p f)
    · exact recorded _

theorem takeGood_same {X : List Aspect} (s : State) (b : FrameBody) {body : State → State}
    (h : ∀ s, Same X s (body s)) : Same (.counts :: X) s (s.takeGood b body) := by
  unfold State.takeGood
  split
  · split
    · exact (lineFault_same s).mono (by simp)
    · exact (heardFrame_same s).any.trans ((h _).mono (by simp))
  · exact .refl _ s

/-- A frame whose fields can show no fault counts none. -/
theorem takeGood_same_good {X : List Aspect} (s : State) {b : FrameBody} {body : State → State} (good : b.fault = none)
    (h : ∀ s, Same X s (body s)) : Same X s (s.takeGood b body) := by
  unfold State.takeGood
  rw [good]
  split
  · exact (heardFrame_same s).any.trans (h _)
  · exact .refl _ s

theorem commandHeard_same (name : CommandName) (p : Position) (f : CommandFields) (s : State) :
    Same (.ask :: .latch :: (commandTouches name)) s (s.commandHeard name p f) :=
  takeGood_same_good s rfl fun s => ((senderHeard_same s p false).mono (by simp)).trans
    ((takeCommand_same _ name p f false).mono (by simp))

theorem commandOut_same (s : State) (f : LinkFrame) :
    Same [.quiet, .ask, .latch, .records, .liveSeen] s (s.commandOut f) := by
  have landed : Same [.quiet, .ask, .latch, .records, .liveSeen] s
      (s.landed.setCu { s.landed.cu with outstanding := none }) :=
    ((landed_same s).trans (setCu_same _ rfl rfl)).any
  unfold State.commandOut
  dsimp only
  split
  next name c _ => exact landed.trans ((takeCommand_same _ name _ c true).mono (by cases name <;> decide))
  next => exact landed

theorem quietSecond_same (s : State) : Same [.quiet] s s.quietSecond := by
  unfold State.quietSecond
  split
  · split
    · exact endQuiet_same s
    · exact startQuiet_same s _ _
  · exact endQuiet_same s

theorem fromPeer_same {X : List Aspect} (s : State) (p : Position) {body : State → State} (h : ∀ s, Same X s (body s)) :
    Same X s (s.fromPeer p body) := by
  unfold State.fromPeer
  split
  · exact .refl X s
  · exact h s

theorem judgeStatus_same (s : State) (f : StatusFrame) : Same [] s (s.judgeStatus f) :=
  foldl_same _ (fun s _ => judgeEntry_same s _ _ _) _ s

theorem statusHeard_same (p : Position) (f : StatusFrame) (s : State) :
    Same [.records, .ask, .latch] s (State.statusHeard p f s) :=
  ((((applyStatus_same s p f).mono (by decide)).trans ((senderHeard_same _ p false).mono (by decide))).trans
    (fromPeer_same _ p fun s => (judgeStatus_same s f).any)).trans ((headHeard_same _ p).mono (by decide))

theorem claimHeard_same (p : Position) (f : ClaimFrame) (s : State) :
    Same [.records, .ask, .latch] s (State.claimHeard p f s) :=
  (((applyClaim_same s p f).mono (by decide)).trans ((senderHeard_same _ p false).mono (by decide))).trans
    (fromPeer_same _ p fun s => ((unreserve_same s _ p).trans (judgeEntry_same _ _ _ _)).any)

theorem releaseHeard_same (p : Position) (f : ReleaseFrame) (s : State) :
    Same [.records, .ask, .latch] s (State.releaseHeard p f s) :=
  (((applyRelease_same s p f).mono (by decide)).trans ((senderHeard_same _ p false).mono (by decide))).trans
    (fromPeer_same _ p fun t => by
      split
      · exact (yieldGrace_same t _ _).any
      · exact .refl _ t)

theorem answerPeerKey_same (s : State) (p : Position) (f : KeyFrame) : Same [] s (s.answerPeerKey p f) := by
  unfold State.answerPeerKey
  split
  · split
    · exact offerKeyAssert_same s
    · exact .refl _ s
  · split
    · exact offerKeyAssert_same s
    · exact .refl _ s
  · exact .refl _ s

theorem keyHeard_same (p : Position) (f : KeyFrame) (s : State) :
    Same [.records, .ask, .latch] s (State.keyHeard p f s) :=
  (((applyKey_same s p f).mono (by decide)).trans ((senderHeard_same _ p false).mono (by decide))).trans
    (fromPeer_same _ p fun s => (answerPeerKey_same s p f).any)

theorem probeHeard_same (p : Position) (s : State) : Same [.ask, .latch] s (State.probeHeard p s) := by
  unfold State.probeHeard
  dsimp only
  split
  · exact (senderHeard_same s p true).trans (offerStatus_same _).any
  · exact senderHeard_same s p true

theorem peerEntryLimit_same (s : State) (p : Position) (i : Slot) :
    Same [.records, .latch] s (s.peerEntryLimit p i) := by
  unfold State.peerEntryLimit
  split
  · split
    · exact (reach_same s _).any.trans (entryExpires_same _ _ _)
    · exact .refl _ s
  · exact .refl _ s

theorem peerRecordLimit_same (s : State) (p : Position) : Same [.records, .latch] s (s.peerRecordLimit p) := by
  unfold State.peerRecordLimit
  split
  · split
    · exact (reach_same s _).any.trans (recordExpires_same _ _)
    · exact .refl _ s
  · exact .refl _ s

theorem breakEnds_same (s : State) : Same [.rd] s s.breakEnds := by
  unfold State.breakEnds
  dsimp only
  split
  · exact setRd_same s _
  · exact setRd_same s _

theorem makeEnds_same (s : State) : Same [.rd] s s.makeEnds := by
  unfold State.makeEnds
  split
  · exact setRd_same s _
  · exact setRd_same s _

theorem loadEnds_same (s : State) (bytes : List Byte) : Same [.fu, .ps, .records, .latch] s (s.loadEnds bytes) := by
  have stored : Same [.fu, .ps, .records, .latch] s (s.setPs (storeAfterRead bytes)) :=
    (setPs_same s _).mono (by decide)
  have looked (s : State) : Same [.fu, .ps, .records, .latch] s s.lookupAgain := by
    unfold State.lookupAgain
    split
    · exact Same.mono (setFu_same s id) (by decide)
    · exact .refl _ s
  have recomputed (s : State) : Same [.fu, .ps, .records, .latch] s s.recomputeMismatch :=
    (setRecords_same s _).mono (by decide)
  unfold State.loadEnds
  dsimp only
  split
  · exact (((stored.trans (looked _)).trans (enterListen_same _).any).trans (recomputed _)).trans
      ((sweepUnknown_same _).mono (by decide))
  · exact stored.trans (Same.any (setJc_same _ (fun h => by cases h) id))

/-! ### Keys -/

theorem answerRequest_same (s : State) (c : Instr) (o : PanelOutcome) : Same [] s (s.answerRequest c o) := by
  unfold State.answerRequest
  split
  · exact report_same s _ _
  · exact answerKey_same s _ _

theorem panelKey_same {X : List Aspect} (s : State) (c : Instr) (b : Bool) {body : State → State × PanelOutcome}
    (h : s.jc.state ≠ .load → Same X s (body s).1) : Same X s (s.panelKey c b body) := by
  unfold State.panelKey
  split
  · exact (answerKey_same s _ _).any
  next run =>
    split
    · exact (h run).trans (answerRequest_same _ _ _).any
    · exact (setAnswer_same s _).any

theorem inRun_same {X : List Aspect} (s : State) {body : State → State × PanelOutcome} (h : Same X s (body s).1) :
    Same X s (State.inRun body s).1 := by
  unfold State.inRun
  split
  · exact h
  · exact .refl _ s

theorem cancelKey_same (s : State) : Same [.ask] s s.cancelKey.1 := by
  refine Same.trans ?_ (setHu_ask_same _ rfl)
  exact (setCt_same s rfl).any

theorem standAsk_same (s : State) (n : Antenna) (k : AskKind) : Same [.ask] s (s.standAsk n k) := by
  unfold State.standAsk
  split
  · exact setHu_ask_same s rfl
  · exact .refl _ s

theorem askPasses_same (s : State) (n : Antenna) : Same [.ask] s (s.askPasses n) := by
  unfold State.askPasses
  split
  · exact standAsk_same s _ _
  · exact ((consumeMask_same s _ _).trans (placeWait_same _ _)).any.trans (standAsk_same _ _ _)

theorem askKey_same (n : Nat) (s : State) : Same [.ask] s (s.askKey n).1 := by
  unfold State.askKey
  split
  · dsimp only
    split
    · exact setHu_ask_same s rfl
    · exact .refl _ s
  · split
    · unfold State.askRefused
      dsimp only
      split
      · exact setHu_ask_same s rfl
      · exact .refl _ s
    · exact askPasses_same s n

theorem giveKey_same (s : State) : Same [.latch] s s.giveKey.1 := by
  unfold State.giveKey
  split
  · exact give_same s _
  · exact .refl _ s

theorem keepKey_same (s : State) : Same [.latch] s s.keepKey.1 := by
  unfold State.keepKey
  split
  · exact setHu_latch_same s rfl
  · exact .refl _ s

theorem maskKey_same (m : Mask) (s : State) : Same [] s (s.maskKey m).1 := by
  unfold State.maskKey
  split
  next h hs =>
    split
    · exact reshape_same s h _ _ hs
    · exact setCt_same s rfl
  next => exact setCt_same s rfl

theorem standbyKey_same (s : State) : Same [.latch] s s.standbyKey.1 := by
  unfold State.standbyKey
  split
  · refine Same.trans ?_ (setSg_same _ _).any
    exact (setCu_same s rfl rfl).any
  · split
    · exact (setCu_same s rfl rfl).any
    · split
      all_goals first | exact enterStandby_same s | exact (setCu_same s rfl rfl).any

theorem issue_same (name : CommandName) (f : CommandFields) (s : State) : Same [] s (s.issue name f).1 := by
  unfold State.issue
  dsimp only
  repeat' split
  all_goals first
    | exact .refl _ s
    | exact offer_same s rfl

theorem rejoinKey_same (s : State) : Same [.ask, .latch] s s.rejoinKey.1 := by
  unfold State.rejoinKey
  split
  · exact rejoinRequest_same s
  · exact .refl _ s

theorem clearKey_same (s : State) : Same [.fu, .counts] s s.clearKey.1 := by
  unfold State.clearKey
  dsimp only
  refine Same.trans ?_ (Same.any (setKs_same _ rfl id id id (fun _ => Nat.zero_le _)))
  refine Same.trans ?_ (Same.mono (X := [.fu]) (setFu_same _ (fun _ => Nat.zero_le _)) (by decide))
  refine Same.mono (X := [.counts]) ?_ (by decide)
  exact setLc_counts_same s rfl (fun _ _ h => ⟨Nat.zero_le _, Nat.zero_le _, h⟩)

theorem recordSent_same (s : State) : Same [.panel] s s.openFirst.recordSent := by
  have opened : Same [.panel] s s.openFirst := by
    unfold State.openFirst
    split
    · exact startRecord_same s
    · exact .refl _ s
  refine opened.trans ?_
  unfold State.recordSent
  split
  · dsimp only
    split
    · exact Same.trans (setPi_same _ rfl) (startRecord_same _)
    · exact setPi_same _ rfl
  · exact .refl _ _

theorem refreshDue_same (s : State) : Same [.panel] s s.refreshDue := by
  unfold State.refreshDue
  split
  · exact setPi_same s rfl
  · exact startRecord_same s

end Sys2Proof.Machine

/-! SUPPORT. Every command's own effect touches the aspects listed for it alone; with the reactions' frame this is what
every command leaves as it was. -/

namespace Sys2Proof.Machine

/-- The aspects a command's own effect may touch, the other blocks' reactions apart; power-on reset may touch all. -/
def touches : Instr → List Aspect
  | .radioCharacterArrival _ _ | .freshnessTimerExpiry => [.fu]
  | .planReadEnd _ => [.fu, .ps, .records, .latch]
  | .listenTimerExpiry | .probeWaitExpiry | .peerEntryExpiry _ _ | .peerRecordExpiry _ => [.records, .latch]
  | .leavingComplete => [.records, .latch, .liveSeen]
  | .contentionLost | .pttPress => [.keyless]
  | .senderLineFault => [.counts, .keyless]
  | .frameFault _ | .adaptationPeriodEnd => [.counts]
  | .statusReceived _ _ | .claimReceived _ _ | .releaseReceived _ _ => [.counts, .records, .ask, .latch]
  | .keyReceived _ _ => [.records, .ask, .latch]
  | .probeReceived _ _ | .rejoinSelf => [.ask, .latch]
  | .askLifeExpiry | .askAgeWholePeriod | .cancel | .ask _ => [.ask]
  | .pttRelease | .give | .keep | .standby => [.latch]
  | .keyComplete | .tSeqExpiry => [.keys, .keyless]
  | .tailExpiry => [.keys, .keyless, .latch, .rd]
  | .breakExpiry | .makeExpiry => [.rd]
  | .quietCommand _ _ | .quietEndCommand _ _ => [.ask, .latch, .quiet]
  | .rejoinCommand _ _ => [.ask, .latch]
  | .relearnCommand _ _ => [.ask, .latch, .records, .liveSeen]
  | .commandComplete => [.quiet, .ask, .latch, .records, .liveSeen]
  | .quietSecondExpiry => [.quiet]
  | .wait => [.panel, .waitMode]
  | .clearCounters => [.fu, .counts]
  | .displayRecordSent | .displayRefreshExpiry => [.panel]
  | .powerOnReset => [.fu, .ps, .records, .counts, .quiet, .waitMode, .rd, .keys, .queue, .counters, .idle, .marks, .ask,
      .latch, .panel, .liveSeen, .keyless]
  | _ => []

/-- A frame's completion, as its block takes it: nothing where no frame of the kind is in flight. -/
def State.completed {α : Type} (s : State) (f : Option α) (out : α → State) : State :=
  match f with
  | some x => out x
  | none => s

theorem completed_same {α : Type} {X : List Aspect} (s : State) (f : Option α) {out : α → State}
    (h : ∀ x, Same X s (out x)) : Same X s (s.completed f out) := by
  unfold State.completed
  split
  · exact h _
  · exact .refl X s

/-! A completion is about the frame in flight, where it is of the kind (R46). -/

theorem exec_probeComplete (s : State) :
    exec .probeComplete s = .next (commit .nothing s (s.completed (s.flight isProbe) s.probeOut)) := by
  show execProbeComplete s = _
  unfold execProbeComplete
  cases s.flight isProbe <;> rfl

theorem exec_statusComplete (s : State) :
    exec .statusComplete s = .next (commit .nothing s (s.completed ((s.flight isStatus).bind statusOf) s.statusOut)) := by
  show execStatusComplete s = _
  unfold execStatusComplete
  cases (s.flight isStatus).bind statusOf <;> rfl

theorem exec_claimComplete (s : State) :
    exec .claimComplete s = .next (commit .nothing s (s.completed ((s.flight isClaim).bind claimOf) s.claimOut)) := by
  show execClaimComplete s = _
  unfold execClaimComplete
  cases (s.flight isClaim).bind claimOf <;> rfl

theorem exec_releaseComplete (s : State) :
    exec .releaseComplete s = .next (commit .nothing s (s.completed ((s.flight isRelease).bind releaseOf) s.releaseOut)) := by
  show execReleaseComplete s = _
  unfold execReleaseComplete
  cases (s.flight isRelease).bind releaseOf <;> rfl

theorem exec_keyComplete (s : State) :
    exec .keyComplete s = .next (commit .nothing s (s.completed ((s.flight isKey).bind keyOf) s.keyOut)) := by
  show execKeyComplete s = _
  unfold execKeyComplete
  cases (s.flight isKey).bind keyOf <;> rfl

theorem exec_commandComplete (s : State) :
    exec .commandComplete s = .next (commit .nothing s (s.completed (s.flight isCommand) s.commandOut)) := by
  show execCommandComplete s = _
  unfold execCommandComplete
  cases s.flight isCommand <;> rfl

theorem ite_same {X : List Aspect} (s : State) (c : Prop) [Decidable c] {t : State} (h : Same X s t) :
    Same X s (if c then t else s) := by
  split
  · exact h
  · exact .refl X s

/-- A command's own effect, the state `u` that `commit` starts from: what it touches. -/
def Effect (c : Instr) (s u : State) : Prop := (∃ heard, exec c s = .next (commit heard s u)) ∧ Same (touches c) s u

theorem Effect.intro {c : Instr} {s u : State} {heard : KeyHeard} (e : exec c s = .next (commit heard s u))
    (h : Same (touches c) s u) : Effect c s u := ⟨⟨heard, e⟩, h⟩

/-- Every command but power-on reset is its own effect, taken up by the other blocks. -/
theorem exec_effect (c : Instr) (s : State) (h : c ≠ .powerOnReset) : ∃ u, Effect c s u := by
  cases c with
  | powerOnReset => exact absurd rfl h
  | planReadEnd bytes => exact ⟨_, .intro rfl (ite_same s _ (loadEnds_same s bytes))⟩
  | radioCharacterArrival c e => exact ⟨_, .intro rfl (radioChar_same s _)⟩
  | freshnessTimerExpiry => exact ⟨_, .intro rfl (onExpiry_same s _ staleFreq_same)⟩
  | listenTimerExpiry => exact ⟨_, .intro rfl (onExpiry_same s _ listenEnds_same)⟩
  | probeComplete => exact ⟨_, .intro (exec_probeComplete s) (completed_same s _ (probeOut_same s))⟩
  | probeWaitExpiry => exact ⟨_, .intro rfl (onExpiry_same s _ probeWaitEnds_same)⟩
  | leavingComplete => exact ⟨_, .intro rfl (ite_same s _ (finishLeaving_same s))⟩
  | receiverSynced => 
    refine ⟨_, .intro rfl (ite_same s _ ?_)⟩
    exact setReceiver_same s rfl ⟨rfl, rfl, rfl⟩ rfl
  | frameStart => exact ⟨_, .intro rfl (frameStart_same s)⟩
  | contentionLost => exact ⟨_, .intro rfl (flightLost_same s)⟩
  | senderLineFault =>
    exact ⟨_, .intro rfl (ite_same s _ (((flightLost_same s).mono (by decide)).trans ((lineFault_same _).mono (by decide))))⟩
  | frameFault kind => exact ⟨_, .intro rfl (ite_same s _ (lineFault_same s))⟩
  | adaptationPeriodEnd => exact ⟨_, .intro rfl (onExpiry_same s _ adaptationEnds_same)⟩
  | statusReceived p f => exact ⟨_, .intro rfl (takeGood_same s _ (statusHeard_same p f))⟩
  | claimReceived p f => exact ⟨_, .intro rfl (takeGood_same s _ (claimHeard_same p f))⟩
  | releaseReceived p f => exact ⟨_, .intro rfl (takeGood_same s _ (releaseHeard_same p f))⟩
  | keyReceived p f => exact ⟨_, .intro rfl (takeGood_same_good s rfl (keyHeard_same p f))⟩
  | probeReceived p f => exact ⟨_, .intro rfl (takeGood_same_good s rfl (probeHeard_same p))⟩
  | peerEntryExpiry p i => exact ⟨_, .intro rfl (peerEntryLimit_same s p i)⟩
  | peerRecordExpiry p => exact ⟨_, .intro rfl (peerRecordLimit_same s p)⟩
  | statusIntervalExpiry => exact ⟨_, .intro rfl (onExpiry_same s _ intervalEnds_same)⟩
  | statusComplete => exact ⟨_, .intro (exec_statusComplete s) (completed_same s _ (statusOut_same s))⟩
  | recentChangeExpiry => exact ⟨_, .intro rfl (onExpiry_same s _ fun s => setSg_same s _)⟩
  | selfDropLimit i => exact ⟨_, .intro rfl (renewalLimit_same s i)⟩
  | claimComplete => exact ⟨_, .intro (exec_claimComplete s) (completed_same s _ (claimOut_same s))⟩
  | claimWindowExpiry i => exact ⟨_, .intro rfl (slotWindowEnds_same s i)⟩
  | tenurePeriodExpiry i => exact ⟨_, .intro rfl (tenurePeriodEnds_same s i)⟩
  | releaseComplete => exact ⟨_, .intro (exec_releaseComplete s) (completed_same s _ (releaseOut_same s))⟩
  | reservationExpiry a => exact ⟨_, .intro rfl (reservationEnds_same s a)⟩
  | relearnQuietExpiry => exact ⟨_, .intro rfl (onExpiry_same s _ fun s => setCt_same s rfl)⟩
  | growWindowExpiry => exact ⟨_, .intro rfl (growWindowEnds_same s)⟩
  | askLifeExpiry => exact ⟨_, .intro rfl (askEnds_same s)⟩
  | keepLifeExpiry => exact ⟨_, .intro rfl (onExpiry_same s _ fun s => setHu_answer_same s rfl rfl)⟩
  | pttPress => exact ⟨_, .intro rfl (press_same s)⟩
  | pttRelease => exact ⟨_, .intro rfl (release_same s)⟩
  | keyComplete => exact ⟨_, .intro (exec_keyComplete s) (completed_same s _ (keyOut_same s))⟩
  | tSeqExpiry => exact ⟨_, .intro rfl (ite_same s _ (onExpiry_same s _ seqEnds_same))⟩
  | tailExpiry => exact ⟨_, .intro rfl (ite_same s _ (onExpiry_same s _ tailEnds_same))⟩
  | keyTenurePeriodExpiry => exact ⟨_, .intro rfl (onExpiry_same s _ raiseKeyTenure_same)⟩
  | breakExpiry => exact ⟨_, .intro rfl (ite_same s _ (onExpiry_same s _ breakEnds_same))⟩
  | makeExpiry => exact ⟨_, .intro rfl (ite_same s _ (onExpiry_same s _ makeEnds_same))⟩
  | quietCommand p f => exact ⟨_, .intro rfl (commandHeard_same .quiet p f s)⟩
  | quietEndCommand p f => exact ⟨_, .intro rfl (commandHeard_same .quietEnd p f s)⟩
  | rejoinCommand p f => exact ⟨_, .intro rfl ((commandHeard_same .rejoin p f s).mono (by simp [touches, commandTouches]))⟩
  | relearnCommand p f => exact ⟨_, .intro rfl ((commandHeard_same .relearn p f s).mono (by simp [touches, commandTouches]))⟩
  | commandComplete => exact ⟨_, .intro (exec_commandComplete s) (completed_same s _ (commandOut_same s))⟩
  | quietSecondExpiry => exact ⟨_, .intro rfl (onExpiry_same s _ quietSecond_same)⟩
  | selectMain n =>
    exact ⟨_, .intro rfl (panelKey_same s _ _ fun _ => inRun_same s (request_same s _ _ _ _))⟩
  | selectAux n =>
    exact ⟨_, .intro rfl (panelKey_same s _ _ fun _ => inRun_same s (request_same s _ _ _ _))⟩
  | selectNext n =>
    exact ⟨_, .intro rfl (panelKey_same s _ _ fun _ => inRun_same s (request_same s _ _ _ _))⟩
  | dropMain => exact ⟨_, .intro rfl (panelKey_same s _ _ fun _ => inRun_same s (dropSlot_same s _))⟩
  | dropAux => exact ⟨_, .intro rfl (panelKey_same s _ _ fun _ => inRun_same s (dropSlot_same s _))⟩
  | dropNext => exact ⟨_, .intro rfl (panelKey_same s _ _ fun _ => inRun_same s (dropSlot_same s _))⟩
  | wait =>
    refine ⟨_, .intro rfl (panelKey_same s _ _ fun _ a ha => ?_)⟩
    have unchanged := Aspect.Kept.refl a s
    cases a
    case panel | waitMode => simp [touches] at ha
    all_goals exact unchanged
  | cancel => exact ⟨_, .intro rfl (panelKey_same s _ _ fun _ => cancelKey_same s)⟩
  | ask n => exact ⟨_, .intro rfl (panelKey_same s _ _ fun _ => inRun_same s (askKey_same n s))⟩
  | give => exact ⟨_, .intro rfl (panelKey_same s _ _ fun _ => inRun_same s (giveKey_same s))⟩
  | keep => exact ⟨_, .intro rfl (panelKey_same s _ _ fun _ => inRun_same s (keepKey_same s))⟩
  | stackMask m => exact ⟨_, .intro rfl (panelKey_same s _ _ fun _ => inRun_same s (maskKey_same m s))⟩
  | standby => exact ⟨_, .intro rfl (panelKey_same s _ _ fun _ => inRun_same s (standbyKey_same s))⟩
  | quietKey => exact ⟨_, .intro rfl (panelKey_same s _ _ fun _ => issue_same _ _ s)⟩
  | quietEndKey => exact ⟨_, .intro rfl (panelKey_same s _ _ fun _ => issue_same _ _ s)⟩
  | relearnKey => exact ⟨_, .intro rfl (panelKey_same s _ _ fun _ => issue_same _ _ s)⟩
  | rejoinPos p => exact ⟨_, .intro rfl (panelKey_same s _ _ fun _ => issue_same _ _ s)⟩
  | rejoinSelf => exact ⟨_, .intro rfl (panelKey_same s _ _ fun _ => rejoinKey_same s)⟩
  | clearCounters => exact ⟨_, .intro rfl (panelKey_same s _ _ fun _ => clearKey_same s)⟩
  | undefinedKeyCode code e => exact ⟨_, .intro rfl (panelKey_same s _ _ fun _ => .refl _ s)⟩
  | displayRecordSent => exact ⟨_, .intro rfl (recordSent_same s)⟩
  | displayRefreshExpiry => exact ⟨_, .intro rfl (onExpiry_same s _ refreshDue_same)⟩
  | startMarkReceived => 
    refine ⟨_, .intro rfl (ite_same s _ ?_)⟩
    exact setReceiver_same s rfl ⟨rfl, rfl, rfl⟩ rfl
  | askAgeWholePeriod => exact ⟨_, .intro rfl (askPeriod_same s)⟩

end Sys2Proof.Machine

/-! SUPPORT. What holds of every command (R47, 9.2, 10.1, 10.2): the statements about the whole part. -/

namespace Sys2Proof.Machine

/-- The aspects that the reactions to an event may touch (log 4). -/
def reactions : List Aspect := [.rd, .marks, .ask, .latch, .panel, .liveSeen]

theorem next_inj {s t : State} (h : (.next s : Host.Outcome State Fault Refusal) = .next t) : s = t :=
  Host.Outcome.next.inj h

/-- What a command other than power-on reset does: its own effect and what the blocks make of it. -/
theorem exec_cases {c : Instr} {s t : State} (h : exec c s = .next t) (hc : c ≠ .powerOnReset) :
    ∃ heard u, t = commit heard s u ∧ Same (touches c) s u := by
  obtain ⟨u, ⟨heard, e⟩, same⟩ := exec_effect c s hc
  exact ⟨heard, u, next_inj (h.symm.trans e), same⟩

/-- An aspect that neither a command nor the reactions touch is kept by it. -/
theorem exec_kept {c : Instr} {s t : State} (h : exec c s = .next t) (hc : c ≠ .powerOnReset) {a : Aspect}
    (own : a ∉ touches c) (others : a ∉ reactions) : a.Kept s t := by
  obtain ⟨heard, u, rfl, same⟩ := exec_cases h hc
  exact (same a own).trans (commit_same heard s u a others)

/-! The commands that may change a group of state are those whose own effect touches its aspect. -/

theorem touchesFreq_spec {c : Instr} (h : touchesFreq c = false) : .fu ∉ touches c := by
  cases c <;> simp_all [touches, touchesFreq]

theorem touchesPlan_spec {c : Instr} (h : touchesPlan c = false) : .ps ∉ touches c := by
  cases c <;> simp_all [touches, touchesPlan]

theorem touchesPeers_spec {c : Instr} (h : touchesPeers c = false) : .records ∉ touches c := by
  cases c <;> simp_all [touches, touchesPeers]

theorem touchesLineCounts_spec {c : Instr} (h : touchesLineCounts c = false) : .counts ∉ touches c := by
  cases c <;> simp_all [touches, touchesLineCounts]

theorem touchesQuiet_spec {c : Instr} (h : touchesQuiet c = false) : .quiet ∉ touches c := by
  cases c <;> simp_all [touches, touchesQuiet]

theorem touchesWaitMode_spec {c : Instr} (h : touchesWaitMode c = false) : .waitMode ∉ touches c := by
  cases c <;> simp_all [touches, touchesWaitMode]

/-- Power-on reset apart, no command's own effect touches what waits, the queue's limits, the counters' ranges, or a part
in LOAD. -/
theorem untouched {c : Instr} (h : c ≠ .powerOnReset) :
    .pending ∉ touches c ∧ .queue ∉ touches c ∧ .counters ∉ touches c ∧ .idle ∉ touches c := by
  cases c <;> simp_all [touches]

/-! ### Power-on reset -/

/-- The Key Sequencer once a footswitch held at power-on has been judged, the permit withheld (R23, R162). -/
def pressedAtLoad (s : State) : KeySeq :=
  if s.ks.ptt then
    { KeySeq.reset with ptt := true, state := .lockout, lockout := some (.inhibit .notJoined), refusals := 1 }
  else KeySeq.reset

/-- After power-on every block has its power-on values, and a footswitch held has been judged (R23, R162). -/
theorem powered_pressAtLoad (s : State) : s.powered.pressAtLoad = s.powered.setKs (pressedAtLoad s) := by
  cases hp : s.ks.ptt with
  | false =>
    unfold State.pressAtLoad pressedAtLoad
    rw [if_neg (by simp [State.powered, hp]), hp]
    simp [State.powered, State.setKs, KeySeq.reset, hp]
  | true =>
    unfold State.pressAtLoad pressedAtLoad
    rw [if_pos (by simp [State.powered, hp]), hp]
    simp [State.judgePress, State.powered, State.reset, Interlock.reset, State.lockOut, State.countRefusal, State.setKs,
      KeySeq.reset, hp]

theorem exec_powerOnReset (s : State) :
    exec .powerOnReset s = .next (commit .nothing s.powered (s.powered.setKs (pressedAtLoad s))) :=
  congrArg (fun u => Host.Outcome.next (commit .nothing s.powered u)) (powered_pressAtLoad s)

theorem pressedAtLoad_state (s : State) : (pressedAtLoad s).state = .receive ∨ (pressedAtLoad s).state = .lockout := by
  unfold pressedAtLoad
  split
  · exact .inr rfl
  · exact .inl rfl

theorem powered_ampKey (s : State) : (s.powered.setKs (pressedAtLoad s)).ampKey = false :=
  ampKey_of_state (s := s.powered.setKs (pressedAtLoad s)) rfl
    ((pressedAtLoad_state s).elim .inl fun h => .inr (.inr (.inr h)))

theorem queueOk_reset : QueueOk State.reset.lc := ⟨Nat.zero_le _, Nat.zero_le _, Nat.zero_le _, Nat.zero_le _, .nil⟩

theorem countersOk_powered (s : State) : CountersOk (s.powered.setKs (pressedAtLoad s)) := by
  have refusals : (pressedAtLoad s).refusals ≤ 9999 := by
    unfold pressedAtLoad
    split <;> decide
  have tenure : (pressedAtLoad s).keyTenure ≤ 63 := by
    unfold pressedAtLoad
    split <;> decide
  refine ⟨Nat.zero_le _, Nat.zero_le _, Nat.zero_le _, Nat.zero_le _, Nat.zero_le _, tenure, refusals, fun i h e => ?_⟩
  have none : ((s.powered.setKs (pressedAtLoad s)).slot i).held = none := by cases i <;> rfl
  rw [none] at e
  cases e

/-! ### One step -/

/-- A step is a tick of the clock, or a command taken from the queue. -/
theorem step_cases {s t : State} (h : step s = .next t) :
    t = s.setNow (s.now + 1) ∨ ∃ c rest, s.pending = c :: rest ∧ exec c (s.setPending rest) = .next t := by
  unfold step at h
  split at h
  · cases h
    exact .inl rfl
  next c rest hp => exact .inr ⟨c, rest, hp, h⟩

/-! ### The sequencer over one command -/

/-- The refusal count raised by one, wrapping after 9999 with the overflow mark (R171). -/
theorem countRefusal_eq (s : State) :
    s.countRefusal = s.setKs { s.ks with
      refusals := if 9999 ≤ s.ks.refusals then 0 else s.ks.refusals + 1,
      overflowMark := s.ks.overflowMark || decide (9999 ≤ s.ks.refusals) } := by
  unfold State.countRefusal
  split
  next h => simp [h]
  next h => simp [h]

/-- LOCKOUT with its reason, one refusal counted (R163, R171). -/
theorem lockOut_eq (s : State) (r : Option LockReason) :
    s.lockOut r = s.setKs { s.ks with
      state := .lockout, lockout := r,
      refusals := if 9999 ≤ s.ks.refusals then 0 else s.ks.refusals + 1,
      overflowMark := s.ks.overflowMark || decide (9999 ≤ s.ks.refusals) } := by
  unfold State.lockOut
  rw [countRefusal_eq]
  rfl

/-- A completed KEY moves AMP KEY only from ANNOUNCE, and never into TRANSMIT (R165). -/
theorem keyOut_ampKey (s : State) (f : KeyFrame) :
    ((s.keyOut f).ampKey = s.ampKey ∨ s.ks.state = .announce) ∧
      ((s.keyOut f).ks.state = .transmit → s.ks.state = .transmit) := by
  have tail (t : State) : Aspect.keys.Kept t t.offerHeldKey.syncKeyOn :=
    (offerHeldKey_same t .keys (by decide)).trans (syncKeyOn_same _ .keys (by decide))
  have landed : Aspect.keys.Kept s (s.keyLanded f) := keyLanded_same s f .keys (by decide)
  have same (b : Bool) (t : State) : Aspect.keys.Kept t (if b then t.offerKeyOff else t) := by
    split
    · exact offerKeyOff_same t .keys (by decide)
    · exact .refl _ t
  rw [keyOut_eq]
  split
  · by_cases ha : s.ks.state = .announce
    · refine ⟨.inr ha, fun e => ?_⟩
      have announced : (s.keyLanded f).ks.state = .announce := ha
      have read := (tail _).2 e
      unfold State.keyOnOut at read
      rw [announced] at read
      unfold State.announceRead at read
      dsimp only at read
      split at read
      · cases read
      · rw [lockOut_eq] at read
        cases read
    · have quiet : Aspect.keys.Kept (s.keyLanded f) ((s.keyLanded f).keyOnOut s.ks.keyOnOutstanding) := by
        have state : (s.keyLanded f).ks.state = s.ks.state := rfl
        unfold State.keyOnOut
        split
        next h => exact absurd (state.symm.trans h) ha
        all_goals first | exact same _ _ | exact .refl _ _
      have whole := landed.trans (quiet.trans (tail _))
      exact ⟨.inl whole.1, whole.2⟩
  · have whole := landed.trans (tail _)
    exact ⟨.inl whole.1, whole.2⟩

/-- A completion leaves what its kind of frame and the frame in flight leave. -/
theorem completed_cases {α : Type} (s : State) (f : Option α) (out : α → State) :
    s.completed f out = s ∨ ∃ x, f = some x ∧ s.completed f out = out x := by
  cases f with
  | none => exact .inl rfl
  | some x => exact .inr ⟨x, rfl, rfl⟩

/-- An expiry leaves a timer that is not running alone. -/
theorem onExpiry_cases (s : State) (t : Timer) (body : State → State) :
    s.onExpiry t body = s ∨ ∃ due, t = .running due ∧ s.onExpiry t body = body (s.reach due) := by
  cases t with
  | running due => exact .inr ⟨due, rfl, rfl⟩
  | _ => exact .inl rfl

theorem exec_tSeqExpiry (s : State) :
    exec .tSeqExpiry s =
      .next (commit .nothing s (if s.ks.state = .ampOn then s.onExpiry s.ks.timer State.seqEnds else s)) := rfl

theorem exec_tailExpiry (s : State) :
    exec .tailExpiry s =
      .next (commit .nothing s (if s.ks.state = .tail then s.onExpiry s.ks.timer State.tailEnds else s)) := rfl

/-- No KEY goes out and no sequencer timer ends: AMP KEY stays, and TRANSMIT is not entered (R162). -/
theorem keys_of_exec {c : Instr} {s t : State} (h : exec c s = .next t)
    (hc : c ≠ .powerOnReset ∧ c ≠ .keyComplete ∧ c ≠ .tSeqExpiry ∧ c ≠ .tailExpiry) : Aspect.keys.Kept s t := by
  obtain ⟨hp, hk, hs, ht⟩ := hc
  exact exec_kept h hp (by cases c <;> simp_all [touches]) (by decide)

/-- Over the reactions alone AMP KEY and TRANSMIT stay. -/
theorem commit_keys (heard : KeyHeard) (before s : State) : Aspect.keys.Kept s (commit heard before s) :=
  commit_same heard before s .keys (by decide)

/-- The tail over, the sequencer is in none of the states with AMP KEY on (R168). -/
theorem tailEnds_state (s : State) : s.tailEnds.ampKey = false := by
  rw [tailEnds_eq]
  split
  · rfl
  · split
    · have off : s.tailOver.enterReceive.relayReact.evaluate.ampKey = false :=
        (((relayReact_same _).trans (evaluate_same _).any) .keys (by decide)).1.trans (enterReceive_ampKey _)
      exact (judgePress_same _ off .keys (by decide)).1.trans off
    · exact enterReceive_ampKey _

/-- Where AMP KEY stays and TRANSMIT is not entered, nothing is to be said of the command. -/
theorem inOrder_of_kept {s t : State} (kept : Aspect.keys.Kept s t) {P Q R : Prop} :
    (t.ks.state = .transmit → s.ks.state ≠ .transmit → P) ∧ (t.ampKey = true → s.ampKey = false → Q) ∧
      (s.ampKey = true → t.ampKey = false → R) := by
  obtain ⟨amp, tx⟩ := kept
  refine ⟨fun i n => absurd (tx i) n, fun i n => ?_, fun i n => ?_⟩
  · rw [← amp, i] at n
    cases n
  · rw [amp, i] at n
    cases n

theorem ampKey_of_transmit {s : State} (h : s.ks.state = .transmit) : s.ampKey = true := by
  simp [State.ampKey, h]

end Sys2Proof.Machine

namespace Sys2Proof.Proofs

open Sys2Proof.Machine

/-- Settles O1. -/
theorem stepTakesFrontCommand : Obligations.StepTakesFrontCommand := by
  intro s
  refine ⟨fun c rest hp => ?_, fun hp => ⟨s.setNow (s.now + 1), ?_, rfl, rfl⟩⟩
  · simp only [step, hp]
  · simp only [step, hp]

/-- Settles O53: an aspect that a command's own effect does not touch is kept by it and by the reactions. -/
theorem stateChangesOnlyByItsCommands : Obligations.StateChangesOnlyByItsCommands := by
  intro c s t h
  by_cases hc : c = .powerOnReset
  · subst hc
    obtain rfl := next_inj ((exec_powerOnReset s).symm.trans h)
    refine ⟨commit_same .nothing s.powered _ .pending (by decide), ?_⟩
    exact ⟨nofun, nofun, nofun, nofun, nofun, nofun⟩
  · have kept {a : Aspect} (own : a ∉ touches c) (others : a ∉ reactions) : a.Kept s t := exec_kept h hc own others
    exact ⟨kept (a := .pending) (untouched hc).1 (by decide), fun n => kept (a := .fu) (touchesFreq_spec n) (by decide),
      fun n => kept (a := .ps) (touchesPlan_spec n) (by decide),
      fun n => kept (a := .records) (touchesPeers_spec n) (by decide),
      fun n => kept (a := .counts) (touchesLineCounts_spec n) (by decide),
      fun n => kept (a := .quiet) (touchesQuiet_spec n) (by decide),
      fun n => kept (a := .waitMode) (touchesWaitMode_spec n) (by decide)⟩

/-- Settles O57: no command's effect and no reaction touches the queue's limits. -/
theorem everyStepKeepsQueue : Obligations.EveryStepKeepsQueue := by
  intro s t ok h
  obtain rfl | ⟨c, rest, -, h⟩ := step_cases h
  · exact ok
  · by_cases hc : c = .powerOnReset
    · subst hc
      obtain rfl := next_inj ((exec_powerOnReset _).symm.trans h)
      exact commit_same .nothing _ _ .queue (by decide) queueOk_reset
    · exact exec_kept (a := .queue) h hc (untouched hc).2.1 (by decide) ok

/-- Settles O56: KEY_COMPLETE, T_SEQ_EXPIRY, TAIL_EXPIRY and power-on reset apart, no command moves AMP KEY or enters
TRANSMIT. -/
theorem transmitterKeysInOrder : Obligations.TransmitterKeysInOrder := by
  intro c s t h
  by_cases hp : c = .powerOnReset
  · subst hp
    obtain rfl := next_inj ((exec_powerOnReset s).symm.trans h)
    have off := (commit_keys .nothing s.powered (s.powered.setKs (pressedAtLoad s))).1.trans (powered_ampKey s)
    refine ⟨fun e _ => ?_, fun e _ => ?_, fun _ _ => .inl rfl⟩
    · exact absurd ((ampKey_of_transmit e).symm.trans off) (by decide)
    · exact absurd (e.symm.trans off) (by decide)
  by_cases hk : c = .keyComplete
  · subst hk
    obtain rfl := next_inj ((exec_keyComplete s).symm.trans h)
    have react := commit_keys .nothing s (s.completed ((s.flight isKey).bind keyOf) s.keyOut)
    obtain e | ⟨f, -, e⟩ := completed_cases s ((s.flight isKey).bind keyOf) s.keyOut
    · rw [e] at react ⊢
      exact inOrder_of_kept react
    · rw [e] at react ⊢
      obtain ⟨same | announce, tx⟩ := keyOut_ampKey s f
      · exact inOrder_of_kept (Aspect.Kept.trans (a := .keys) ⟨same, tx⟩ react)
      · have off := ampKey_of_state announce (by simp)
        exact ⟨fun i n => absurd (tx (react.2 i)) n, fun _ _ => ⟨rfl, announce⟩, fun i _ => absurd (i.symm.trans off) (by decide)⟩
  by_cases hs : c = .tSeqExpiry
  · subst hs
    obtain rfl := next_inj ((exec_tSeqExpiry s).symm.trans h)
    have react := commit_keys .nothing s (if s.ks.state = .ampOn then s.onExpiry s.ks.timer State.seqEnds else s)
    by_cases on : s.ks.state = .ampOn
    · have amp : s.ampKey = true := by simp [State.ampKey, on]
      have still : (s.onExpiry s.ks.timer State.seqEnds).ampKey = true := by
        obtain e | ⟨due, -, e⟩ := onExpiry_cases s s.ks.timer State.seqEnds
        · rw [e]; exact amp
        · rw [e]; rfl
      rw [if_pos on] at react ⊢
      exact ⟨fun _ _ => ⟨rfl, on⟩, fun _ n => absurd (amp.symm.trans n) (by decide),
        fun _ n => absurd ((react.1.trans still).symm.trans n) (by decide)⟩
    · rw [if_neg on] at react ⊢
      exact inOrder_of_kept react
  by_cases ht : c = .tailExpiry
  · subst ht
    obtain rfl := next_inj ((exec_tailExpiry s).symm.trans h)
    have react := commit_keys .nothing s (if s.ks.state = .tail then s.onExpiry s.ks.timer State.tailEnds else s)
    by_cases on : s.ks.state = .tail
    · have amp : s.ampKey = true := by simp [State.ampKey, on]
      rw [if_pos on] at react ⊢
      obtain e | ⟨due, -, e⟩ := onExpiry_cases s s.ks.timer State.tailEnds
      · rw [e] at react ⊢
        exact inOrder_of_kept react
      · rw [e] at react ⊢
        have off := react.1.trans (tailEnds_state (s.reach due))
        exact ⟨fun i _ => absurd ((ampKey_of_transmit i).symm.trans off) (by decide),
          fun _ n => absurd (amp.symm.trans n) (by decide), fun _ _ => .inr ⟨rfl, on⟩⟩
    · rw [if_neg on] at react ⊢
      exact inOrder_of_kept react
  exact inOrder_of_kept (keys_of_exec h ⟨hp, hk, hs, ht⟩)

end Sys2Proof.Proofs

/-! SUPPORT. The Interlock Evaluator's and the Relay Driver's records follow their inputs after every command (9.2, 10.2). -/

namespace Sys2Proof.Machine

/-! ### What the last stages of the reactions leave of the inputs -/

theorem offer_ie (s : State) (f : LinkFrame) : (s.offer f).1.ie = s.ie := by
  unfold State.offer
  dsimp only
  split <;> rfl

theorem offer_rd (s : State) (f : LinkFrame) : (s.offer f).1.rd = s.rd := by
  unfold State.offer
  dsimp only
  split <;> rfl

theorem offer_jc (s : State) (f : LinkFrame) : (s.offer f).1.jc = s.jc := by
  unfold State.offer
  dsimp only
  split <;> rfl

theorem offer_hu (s : State) (f : LinkFrame) : (s.offer f).1.hu = s.hu := by
  unfold State.offer
  dsimp only
  split <;> rfl

/-- What the Interlock Evaluator and the Relay Driver read (R145, R156, R173). -/
structure SameInputs (s t : State) : Prop where
  fu : t.fu = s.fu
  ps : t.ps = s.ps
  state : t.jc.state = s.jc.state
  cu : t.cu = s.cu
  records : t.pt.records = s.pt.records
  linkLost : t.pt.linkLost = s.pt.linkLost
  ct : t.ct = s.ct
  rd : t.rd = s.rd
  ie : t.ie = s.ie
  amp : t.ampKey = s.ampKey

theorem SameInputs.refl (s : State) : SameInputs s s := ⟨rfl, rfl, rfl, rfl, rfl, rfl, rfl, rfl, rfl, rfl⟩

theorem SameInputs.trans {s t u : State} (h : SameInputs s t) (k : SameInputs t u) : SameInputs s u :=
  ⟨k.fu.trans h.fu, k.ps.trans h.ps, k.state.trans h.state, k.cu.trans h.cu, k.records.trans h.records,
    k.linkLost.trans h.linkLost, k.ct.trans h.ct, k.rd.trans h.rd, k.ie.trans h.ie, k.amp.trans h.amp⟩

theorem SameInputs.of_kept {s t : State} (k : Kept s t) (ct : t.ct = s.ct) (rd : t.rd = s.rd) (ie : t.ie = s.ie) :
    SameInputs s t :=
  ⟨k.fu, k.ps, by rw [k.join], k.cu, k.records, k.linkLost, ct, rd, ie, k.amp⟩

/-- The reasons and warnings are functions of the inputs (R145, R156). -/
theorem SameInputs.reasonNow {s t : State} (h : SameInputs s t) : t.reasonNow = s.reasonNow := by
  obtain ⟨fu, ps, state, cu, records, linkLost, ct, rd, ie, amp⟩ := h
  have inhibits : t.inhibits = s.inhibits := by
    funext r
    have antenna (a : Antenna) : t.antenna a = s.antenna a := by simp only [State.antenna, ps]
    have band (b : Band) : t.bandEntry b = s.bandEntry b := by simp only [State.bandEntry, ps]
    have harmonic : t.harmonic = s.harmonic := by simp only [State.harmonic, ps]
    have mark (p : Position) : t.markOf p = s.markOf p := by simp only [State.markOf, ie]
    have keyed : t.keyedOnBand = s.keyedOnBand := by funext r; simp only [State.keyedOnBand, fu]
    have ahead : t.peerAhead = s.peerAhead := by
      funext r
      unfold State.peerAhead State.announced
      rw [amp, mark]
    have spacing : t.spacingConflict = s.spacingConflict := by funext r; simp only [State.spacingConflict, fu, band]
    have harm (k : Nat) : t.harmonicConflict k = s.harmonicConflict k := by
      funext r; simp only [State.harmonicConflict, fu, harmonic]
    cases r <;>
      simp only [State.inhibits, State.timing, State.slot, State.switching, State.filterWrong, State.bandBusy,
        State.spacingWarns, State.harmonicWarns, fu, ps, state, cu, records, linkLost, ct, rd, antenna, band, harmonic,
        keyed, ahead, spacing, harm, mainPath_congr ps]
  simp only [State.reasonNow, inhibits]

theorem SameInputs.warningSet {s t : State} (h : SameInputs s t) : t.warningSet = s.warningSet := by
  obtain ⟨fu, ps, state, cu, records, linkLost, ct, rd, ie, amp⟩ := h
  have band (b : Band) : t.bandEntry b = s.bandEntry b := by simp only [State.bandEntry, ps]
  have harmonic : t.harmonic = s.harmonic := by simp only [State.harmonic, ps]
  have spacing : t.spacingConflict = s.spacingConflict := by funext r; simp only [State.spacingConflict, fu, band]
  have harm (k : Nat) : t.harmonicConflict k = s.harmonicConflict k := by
    funext r; simp only [State.harmonicConflict, fu, harmonic]
  have spacingWarns : t.spacingWarns = s.spacingWarns := by simp only [State.spacingWarns, fu, band]
  have harmonicWarns : t.harmonicWarns = s.harmonicWarns := by simp only [State.harmonicWarns, harmonic]
  unfold State.warningSet State.warningsOf
  rw [spacingWarns, harmonicWarns, records, spacing, harm, harm]

theorem SameInputs.interlockOk {s t : State} (h : SameInputs s t) (ok : InterlockOk s) : InterlockOk t := by
  unfold InterlockOk at *
  rwa [h.ie, h.reasonNow, h.warningSet]

/-- The target and the movable lines are functions of the slots, b, the plan and AMP KEY (R173, R174). -/
theorem relaysOk_congr {s t : State} (rd : t.rd = s.rd) (slots : t.ct.slots = s.ct.slots) (ps : t.ps = s.ps)
    (fu : t.fu = s.fu) (amp : t.ampKey = s.ampKey) (ok : RelaysOk s) : RelaysOk t := by
  have antenna (a : Antenna) : t.antenna a = s.antenna a := by simp only [State.antenna, ps]
  have aux : t.auxPathAnt = s.auxPathAnt := by simp only [State.auxPathAnt, antenna]
  have group (a : Antenna) : t.groupOf a = s.groupOf a := by simp only [State.groupOf, ps]
  have target : t.formTarget = s.formTarget := by
    simp only [State.formTarget, State.mainLines, State.auxLines, State.slot, State.mainPath, State.auxPath, slots, aux,
      group, fu]
  have moves (l : Lines) : t.moves l = s.moves l := by
    simp only [State.moves, State.movable, State.auxPath, aux, rd, amp]
  unfold RelaysOk at *
  rw [rd, target, moves]
  exact ok

theorem offerKey_ie (s : State) (f : LinkFrame) : (s.offerKey f).1.ie = s.ie := offer_ie s f

theorem offerKeyOff_ie (s : State) : s.offerKeyOff.ie = s.ie := by
  unfold State.offerKeyOff
  split
  · rfl
  · exact offerKey_ie s _

theorem offerKeyOff_ct (s : State) : s.offerKeyOff.ct = s.ct := by
  obtain ⟨-, -, -, -, -, -, -, -, -, ct, -⟩ := offerKeyOff_fields s
  exact ct

theorem offerKeyOff_rd (s : State) : s.offerKeyOff.rd = s.rd := by
  obtain ⟨-, -, -, -, -, -, -, -, -, -, -, rd, -⟩ := offerKeyOff_fields s
  exact rd

/-- A judged press changes the sequencer and the queue (R163). -/
theorem judgePress_others (s : State) :
    s.judgePress.ct = s.ct ∧ s.judgePress.rd = s.rd ∧ s.judgePress.ie = s.ie := by
  have locked (s : State) (r : Option LockReason) : (s.lockOut r).ct = s.ct ∧ (s.lockOut r).rd = s.rd ∧
      (s.lockOut r).ie = s.ie := by
    rw [lockOut_eq]
    exact ⟨rfl, rfl, rfl⟩
  unfold State.judgePress
  split
  · split
    · exact ⟨rfl, rfl, rfl⟩
    · unfold State.announceKey
      dsimp only
      have offered (t : State) (f : LinkFrame) : (t.offerKey f).1.ct = t.ct ∧ (t.offerKey f).1.rd = t.rd ∧
          (t.offerKey f).1.ie = t.ie := ⟨offer_ct t f, offer_rd t f, offer_ie t f⟩
      split
      · obtain ⟨ct, rd, ie⟩ := locked ((s.setKs { s.ks with state := .announce }).offerKey (s.keyFrame true false 0)).1
          (some .queue)
        rw [ct, rd, ie]
        exact offered _ _
      · exact offered _ _
  · split
    · exact ⟨rfl, rfl, rfl⟩
    · exact locked s _
    · exact locked s _

/-- The word of the Interlock Evaluator changes the sequencer and the queue (R147). -/
theorem sequencerTold_others (s : State) :
    s.sequencerTold.ct = s.ct ∧ s.sequencerTold.rd = s.rd ∧ s.sequencerTold.ie = s.ie := by
  have tail (c : TailCause) (l : Option LockReason) : (s.startTail c l).ct = s.ct ∧ (s.startTail c l).rd = s.rd ∧
      (s.startTail c l).ie = s.ie := ⟨offerKeyOff_ct _, offerKeyOff_rd _, offerKeyOff_ie _⟩
  unfold State.sequencerTold
  split
  · exact judgePress_others s
  · split
    · exact ⟨rfl, rfl, rfl⟩
    · exact tail _ _
  · split
    · exact ⟨rfl, rfl, rfl⟩
    · exact tail _ _
  · exact ⟨rfl, rfl, rfl⟩

theorem sequencerTold_inputs (s : State) : SameInputs s s.sequencerTold := by
  obtain ⟨ct, rd, ie⟩ := sequencerTold_others s
  exact .of_kept (sequencerTold_kept s) ct rd ie

/-- An evaluation sets the Interlock Evaluator's record by the inputs (R146). -/
theorem evaluate_interlockOk (s : State) : InterlockOk s.evaluate := by
  have reason : s.evaluate.reasonNow = s.reasonNow := rfl
  have warnings : s.evaluate.warningSet = s.warningSet := rfl
  unfold InterlockOk
  rw [reason, warnings]
  exact ⟨rfl, rfl, rfl⟩

theorem interlockTurn_interlockOk (s : State) : InterlockOk s.interlockTurn :=
  (sequencerTold_inputs _).interlockOk (evaluate_interlockOk s)

theorem interlockTurn_ct (s : State) : s.interlockTurn.ct = s.ct := (sequencerTold_others _).1

theorem offerStatus_others (s : State) :
    s.offerStatus.ct = s.ct ∧ s.offerStatus.rd = s.rd ∧ s.offerStatus.ie = s.ie := by
  unfold State.offerStatus
  split
  · exact ⟨offer_ct s _, offer_rd s _, offer_ie s _⟩
  · exact ⟨rfl, rfl, rfl⟩

theorem sgReact_inputs (before s : State) : SameInputs s (State.sgReact before s) := by
  obtain ⟨ct, rd, ie⟩ := offerStatus_others s
  have kept := (offerStatus_moves s).kept
  unfold State.sgReact
  split
  · exact .refl s
  · exact .of_kept kept ct rd ie

theorem piReact_inputs (before s : State) : SameInputs s (State.piReact before s) := by
  unfold State.piReact
  repeat' split
  all_goals exact ⟨rfl, rfl, rfl, rfl, rfl, rfl, rfl, rfl, rfl, rfl⟩

/-- The last stages of the reactions leave what the Interlock Evaluator and the Relay Driver read as it was. -/
theorem reactJudged_inputs (heard : KeyHeard) (before s : State) :
    SameInputs (reactJudged heard before s) (commit heard before s) := by
  rw [commit_eq]
  exact ((sgReact_inputs before _).trans (piReact_inputs before _)).trans ⟨rfl, rfl, rfl, rfl, rfl, rfl, rfl, rfl, rfl, rfl⟩

theorem commit_interlockOk (heard : KeyHeard) (before s : State) : InterlockOk (commit heard before s) :=
  (reactJudged_inputs heard before s).interlockOk (interlockTurn_interlockOk _)

/-! ### The Relay Driver -/

/-- The target taken from its owners, a STEADY driver is on it or has begun a break (R173, R175). -/
theorem rdSync_relaysOk (s : State) : RelaysOk s.rdSync := by
  unfold State.rdSync State.settle
  split
  · exact ⟨rfl, fun e => by cases e⟩
  next h =>
    refine ⟨rfl, fun e => ?_⟩
    by_contra n
    exact h ⟨e, n⟩

theorem relayReact_relaysOk (s : State) : RelaysOk s.relayReact := by
  unfold State.relayReact State.relayRound
  exact rdSync_relaysOk _

theorem huReact_ct (s : State) : s.huReact.ct = s.ct := by
  unfold State.huReact
  dsimp only
  repeat' split
  all_goals rfl

theorem jcReact_ct (s : State) : s.jcReact.ct = s.ct := by
  unfold State.jcReact State.offerProbe
  repeat' split
  all_goals first | rfl | exact offer_ct s _

/-- Once the Claim Table and the Relay Driver have settled with each other, nothing takes the target off its owners. -/
theorem commit_relaysOk (heard : KeyHeard) (before s : State) : RelaysOk (commit heard before s) := by
  have settled : RelaysOk (reactSettled heard before s) := relayReact_relaysOk _
  have judged := reactJudged_same heard before s
  have inputs := reactJudged_inputs heard before s
  have ct : (reactJudged heard before s).ct = (reactSettled heard before s).ct :=
    (interlockTurn_ct _).trans ((jcReact_ct _).trans (huReact_ct _))
  have ok : RelaysOk (reactJudged heard before s) :=
    relaysOk_congr (judged .rd (by decide)) (congrArg _ ct) (judged .ps (by decide)) (judged .fu (by decide))
      (judged .keys (by decide)).1 settled
  exact relaysOk_congr inputs.rd (congrArg _ inputs.ct) inputs.ps inputs.fu inputs.amp ok

/-- After every command the Interlock Evaluator's record and the target follow their inputs. -/
theorem exec_follows {c : Instr} {s t : State} (h : exec c s = .next t) : InterlockOk t ∧ RelaysOk t := by
  by_cases hc : c = .powerOnReset
  · subst hc
    obtain rfl := next_inj ((exec_powerOnReset s).symm.trans h)
    exact ⟨commit_interlockOk .., commit_relaysOk ..⟩
  · obtain ⟨heard, u, rfl, -⟩ := exec_cases h hc
    exact ⟨commit_interlockOk .., commit_relaysOk ..⟩

end Sys2Proof.Machine

/-! SUPPORT. The switching lines over one command: which go on and off, and what stays of at most one (R173 to R177). -/

namespace Sys2Proof.Machine

/-! ### Bits -/

/-- A set of lines with no bit but one is that bit or empty. -/
theorem eq_or_zero_of_single {w : Nat} {x : BitVec w} {i : Nat} (hi : i < w)
    (h : ∀ j < w, x.getLsbD j = true → j = i) : x = 1#w <<< i ∨ x = 0#w := by
  by_cases hx : x.getLsbD i = true
  · left
    apply BitVec.eq_of_getLsbD_eq
    intro j hj
    by_cases hji : j = i
    · subst hji
      simp [hx, hj]
    · have off : x.getLsbD j = false := by
        rw [Bool.eq_false_iff]
        exact fun e => hji (h j hj e)
      rw [off]
      simp
      omega
  · right
    apply BitVec.eq_of_getLsbD_eq
    intro j hj
    have off : x.getLsbD j = false := by
      rw [Bool.eq_false_iff]
      exact fun e => hx (h j hj e ▸ e)
    simpa using off

/-- A bit of lines that lie within others is a bit of those. -/
theorem getLsbD_of_sub {w : Nat} {x y : BitVec w} (h : x &&& ~~~y = 0#w) {j : Nat} (hx : x.getLsbD j = true) :
    y.getLsbD j = true := by
  by_contra n
  have hj : j < w := BitVec.lt_of_getLsbD hx
  have off := congrArg (fun v => v.getLsbD j) h
  simp only [BitVec.getLsbD_and, BitVec.getLsbD_not, hj, hx, Bool.eq_false_iff.2 n] at off
  simp at off

/-- Lines within no lines are none. -/
theorem eq_zero_of_sub {w : Nat} {x : BitVec w} (h : x &&& ~~~0#w = 0#w) : x = 0#w := by
  apply BitVec.eq_of_getLsbD_eq
  intro j hj
  rw [BitVec.getLsbD_zero, Bool.eq_false_iff]
  intro on
  have := getLsbD_of_sub h on
  simp at this

theorem sub_single {w : Nat} {x : BitVec w} {i : Nat} (hi : i < w) (h : x &&& ~~~(1#w <<< i) = 0#w) :
    x = 1#w <<< i ∨ x = 0#w := by
  refine eq_or_zero_of_single hi fun j _ e => ?_
  have := getLsbD_of_sub h e
  simp at this
  omega

theorem antBit_of_range {a : Antenna} (h : 1 ≤ a ∧ a ≤ 32) : antBit a = 1#32 <<< (a - 1) := if_pos h

theorem filterBit_of_range {b : Band} (h : 1 ≤ b ∧ b ≤ 10) : filterBit b = 1#10 <<< (b - 1) := if_pos h

/-- Lines within one antenna line are one antenna line or none. -/
theorem sub_antBit {x y : BitVec 32} (h : x &&& ~~~y = 0) (hy : ∃ a, y = antBit a) : ∃ a, x = antBit a := by
  obtain ⟨a, rfl⟩ := hy
  by_cases ha : 1 ≤ a ∧ a ≤ 32
  · rw [antBit_of_range ha] at h
    obtain e | e := sub_single (Nat.sub_one_lt_of_le ha.1 ha.2) h
    · exact ⟨a, by rw [e, antBit_of_range ha]⟩
    · exact ⟨0, e⟩
  · rw [antBit, if_neg ha] at h
    exact ⟨0, eq_zero_of_sub h⟩

/-- Lines within one filter line are one filter line or none. -/
theorem sub_filterBit {x y : BitVec 10} (h : x &&& ~~~y = 0) (hy : ∃ b, y = filterBit b) : ∃ b, x = filterBit b := by
  obtain ⟨b, rfl⟩ := hy
  by_cases hb : 1 ≤ b ∧ b ≤ 10
  · rw [filterBit_of_range hb] at h
    obtain e | e := sub_single (Nat.sub_one_lt_of_le hb.1 hb.2) h
    · exact ⟨b, by rw [e, filterBit_of_range hb]⟩
    · exact ⟨0, e⟩
  · rw [filterBit, if_neg hb] at h
    exact ⟨0, eq_zero_of_sub h⟩

/-- A part of some lines lies within the same part of what they lie within. -/
theorem sub_and {w : Nat} {x y : BitVec w} (h : x &&& ~~~y = 0#w) (m : BitVec w) : (x &&& m) &&& ~~~(y &&& m) = 0#w := by
  apply BitVec.eq_of_getLsbD_eq
  intro j hj
  have off := congrArg (fun v => v.getLsbD j) h
  simp [hj] at off ⊢
  grind

/-! ### The ends of break and make -/

/-- The AUX path depends on the plan alone. -/
theorem auxPathAnt_congr {s t : State} (h : t.ps = s.ps) : t.auxPathAnt = s.auxPathAnt := by
  have antenna (a : Antenna) : t.antenna a = s.antenna a := by simp only [State.antenna, h]
  simp only [State.auxPathAnt, antenna]

theorem or_eq_of_sub {w : Nat} {x y : BitVec w} (h : x &&& ~~~y = 0#w) : x ||| (y &&& ~~~x) = y := by
  apply BitVec.eq_of_getLsbD_eq
  intro j hj
  have off := congrArg (fun v => v.getLsbD j) h
  simp [hj] at off ⊢
  grind

/-- Lines with nothing to drop, made up to a target, are the target. -/
theorem Lines.or_eq_of_diff {x y : Lines} (h : (x.diff y).and .every = .none) :
    x.or ((y.diff x).and .every) = y := by
  simp only [Lines.diff, Lines.and, Lines.or, Lines.every, Lines.none, BitVec.and_allOnes, Lines.mk.injEq] at h ⊢
  obtain ⟨ant, filter, member, tap⟩ := h
  rw [or_eq_of_sub ant, or_eq_of_sub filter, or_eq_of_sub member, or_eq_of_sub tap]

/-- AUX lines made leave the MAIN-path lines as they are (R174). -/
theorem Lines.or_and_aux (x y a : Lines) : (x.or (y.and a)).and (Lines.every.diff a) = x.and (Lines.every.diff a) := by
  simp only [Lines.diff, Lines.and, Lines.or, Lines.every, Lines.mk.injEq]
  refine ⟨?_, ?_, ?_, ?_⟩ <;>
    (apply BitVec.eq_of_getLsbD_eq; intro i hi; simp; grind)

/-- How the lines may change in a command's own effect: some go off; they become the target; or the AUX antenna lines
become the target's and the others stay (R174 to R177). -/
def LinesStep (s t : State) : Prop :=
  t.rd.lines.diff s.rd.lines = .none ∨ t.rd.lines = s.rd.target ∨
    (t.rd.lines.filter = s.rd.lines.filter ∧
      t.rd.lines.ant &&& ~~~s.auxPathAnt = s.rd.lines.ant &&& ~~~s.auxPathAnt ∧
      t.rd.lines.ant &&& s.auxPathAnt = s.rd.target.ant &&& s.auxPathAnt)

theorem breakEnds_linesStep (s : State) : LinesStep s s.breakEnds := by
  unfold State.breakEnds
  dsimp only
  split
  · exact .inl (Lines.diff_diff _ _)
  next h =>
    have nothing : (s.rd.lines.diff s.rd.target).and s.movable = .none := by simpa using h
    unfold State.movable at nothing ⊢
    split at nothing
    next amp =>
      rw [if_pos amp]
      right; right
      simp only [Lines.diff, Lines.and, Lines.or, Lines.none, State.auxPath, Lines.mk.injEq, State.setRd_rd] at nothing ⊢
      have ant := nothing.1
      refine ⟨by simp, ?_, ?_⟩
      · apply BitVec.eq_of_getLsbD_eq; intro i hi
        simp; grind
      · apply BitVec.eq_of_getLsbD_eq; intro i hi
        have a := congrArg (fun v => v.getLsbD i) ant
        simp [hi] at a ⊢; grind
    next amp =>
      rw [if_neg amp]
      exact .inr (.inl (Lines.or_eq_of_diff nothing))

theorem breakEnds_mainStill {s : State} (h : s.ampKey = true) :
    s.breakEnds.rd.lines.and s.mainPath = s.rd.lines.and s.mainPath := by
  have movable : s.movable = s.auxPath := if_pos h
  unfold State.breakEnds
  dsimp only
  rw [movable]
  split
  · exact Lines.diff_and_aux _ _ _
  · exact Lines.or_and_aux _ _ _

theorem startBreak_mainStill {s : State} (h : s.ampKey = true) :
    s.startBreak.rd.lines.and s.mainPath = s.rd.lines.and s.mainPath := by
  have movable : s.movable = s.auxPath := if_pos h
  unfold State.startBreak
  rw [movable]
  exact Lines.diff_and_aux _ _ _

theorem makeEnds_noneOn (s : State) : s.makeEnds.rd.lines.diff s.rd.lines = .none := by
  unfold State.makeEnds
  split
  · exact Lines.diff_self _
  · exact Lines.diff_diff _ _

theorem makeEnds_mainStill {s : State} (h : s.ampKey = true) :
    s.makeEnds.rd.lines.and s.mainPath = s.rd.lines.and s.mainPath := by
  unfold State.makeEnds
  split
  · rfl
  · exact startBreak_mainStill h

/-- The tail's end turns no line on (R168, R174). -/
theorem tailEnds_noneOn (s : State) : s.tailEnds.rd.lines.diff s.rd.lines = .none := by
  have ended : s.tailOver.rd = s.rd := tailOver_same s .rd (by decide)
  have entered : s.tailOver.enterReceive.rd = s.tailOver.rd := enterReceive_same_tail s.tailOver .rd (by decide)
  have received : s.tailOver.enterReceive.rd = s.rd := entered.trans ended
  rw [tailEnds_eq]
  split
  · show s.tailOver.rd.lines.diff s.rd.lines = .none
    rw [ended]
    exact Lines.diff_self _
  · split
    · have judged : s.tailOver.enterReceive.relayReact.evaluate.judgePress.rd = s.tailOver.enterReceive.relayReact.rd := by
        have read : s.tailOver.enterReceive.relayReact.evaluate.rd = s.tailOver.enterReceive.relayReact.rd :=
          evaluate_same _ .rd (by decide)
        rw [(judgePress_others _).2.1, read]
      have fewer := (relayReact_moves s.tailOver.enterReceive).kept.noneOn
      rwa [received, ← judged] at fewer
    · rw [received]
      exact Lines.diff_self _

theorem exec_breakExpiry (s : State) :
    exec .breakExpiry s =
      .next (commit .nothing s (if s.rd.state = .breaking then s.onExpiry s.rd.timer State.breakEnds else s)) := rfl

theorem exec_makeExpiry (s : State) :
    exec .makeExpiry s =
      .next (commit .nothing s (if s.rd.state = .making then s.onExpiry s.rd.timer State.makeEnds else s)) := rfl

/-- What a command's own effect does to the lines: none goes on but at a break's end, and with AMP KEY on after it no
MAIN-path line has moved. -/
structure LinesMoved (c : Instr) (s u : State) : Prop where
  step : LinesStep s u
  noneOn : c ≠ .breakExpiry → u.rd.lines.diff s.rd.lines = .none
  mainStill : u.ampKey = true → u.rd.lines.and u.mainPath = s.rd.lines.and u.mainPath

theorem LinesMoved.of_rd {c : Instr} {s u : State} (h : u.rd = s.rd) : LinesMoved c s u :=
  ⟨.inl (by rw [h]; exact Lines.diff_self _), fun _ => by rw [h]; exact Lines.diff_self _, fun _ => by rw [h]⟩

theorem exec_lines {c : Instr} {s t : State} (h : exec c s = .next t) (hc : c ≠ .powerOnReset) :
    ∃ heard u, t = commit heard s u ∧ Same (touches c) s u ∧ LinesMoved c s u := by
  by_cases hb : c = .breakExpiry
  · subst hb
    refine ⟨_, _, next_inj (h.symm.trans (exec_breakExpiry s)), ite_same s _ (onExpiry_same s _ breakEnds_same), ?_⟩
    split
    · obtain e | ⟨due, -, e⟩ := onExpiry_cases s s.rd.timer State.breakEnds
      · rw [e]
        exact .of_rd rfl
      · rw [e]
        have ps : (s.reach due).breakEnds.ps = s.ps := breakEnds_same (s.reach due) .ps (by decide)
        refine ⟨breakEnds_linesStep (s.reach due), fun n => absurd rfl n, fun amp => ?_⟩
        rw [mainPath_congr ps]
        exact breakEnds_mainStill ((breakEnds_same (s.reach due) .keys (by decide)).1.symm.trans amp)
    · exact .of_rd rfl
  by_cases hm : c = .makeExpiry
  · subst hm
    refine ⟨_, _, next_inj (h.symm.trans (exec_makeExpiry s)), ite_same s _ (onExpiry_same s _ makeEnds_same), ?_⟩
    split
    · obtain e | ⟨due, -, e⟩ := onExpiry_cases s s.rd.timer State.makeEnds
      · rw [e]
        exact .of_rd rfl
      · rw [e]
        have ps : (s.reach due).makeEnds.ps = s.ps := makeEnds_same (s.reach due) .ps (by decide)
        refine ⟨.inl (makeEnds_noneOn (s.reach due)), fun _ => makeEnds_noneOn (s.reach due), fun amp => ?_⟩
        rw [mainPath_congr ps]
        exact makeEnds_mainStill ((makeEnds_same (s.reach due) .keys (by decide)).1.symm.trans amp)
    · exact .of_rd rfl
  by_cases ht : c = .tailExpiry
  · subst ht
    refine ⟨_, _, next_inj (h.symm.trans (exec_tailExpiry s)), ite_same s _ (onExpiry_same s _ tailEnds_same), ?_⟩
    split
    · obtain e | ⟨due, -, e⟩ := onExpiry_cases s s.ks.timer State.tailEnds
      · rw [e]
        exact .of_rd rfl
      · rw [e]
        exact ⟨.inl (tailEnds_noneOn (s.reach due)), fun _ => tailEnds_noneOn (s.reach due),
          fun amp => absurd (amp.symm.trans (tailEnds_state _)) (by decide)⟩
    · exact .of_rd rfl
  obtain ⟨heard, u, rfl, same⟩ := exec_cases h hc
  have untouched : Aspect.rd ∉ touches c := by
    clear same
    clear h
    cases c <;> simp_all [touches]
  exact ⟨heard, u, rfl, same, .of_rd (same .rd untouched)⟩

/-- The reactions turn no line on, and with AMP KEY on move none of the MAIN path (R174, R175). -/
theorem commit_lines (heard : KeyHeard) (before s : State) :
    (commit heard before s).rd.lines.diff s.rd.lines = .none ∧
      (s.ampKey = true → (commit heard before s).rd.lines.and s.mainPath = s.rd.lines.and s.mainPath) := by
  have kept := commit_kept heard before s
  have rd : (State.recentReact before s).rd = s.rd := recentReact_same before s .rd (by decide)
  have ps : (State.recentReact before s).ps = s.ps := recentReact_same before s .ps (by decide)
  have amp : (State.recentReact before s).ampKey = s.ampKey := (recentReact_same before s .keys (by decide)).1
  refine ⟨?_, fun on => ?_⟩
  · have := kept.noneOn
    rwa [rd] at this
  · have := kept.mainStill (amp.trans on)
    rwa [rd, mainPath_congr ps] at this

theorem commit_ps (heard : KeyHeard) (before s : State) : (commit heard before s).ps = s.ps :=
  commit_same heard before s .ps (by decide)

end Sys2Proof.Machine

namespace Sys2Proof.Proofs

open Sys2Proof.Machine

/-- Settles O55: what a command's own effect does to the lines (`LinesMoved`), and what the reactions do. -/
theorem linesMoveOnlyWhereAllowed : Obligations.LinesMoveOnlyWhereAllowed := by
  intro c s t h
  by_cases hc : c = .powerOnReset
  · subst hc
    obtain rfl := next_inj ((exec_powerOnReset s).symm.trans h)
    have off := (commit_keys .nothing s.powered (s.powered.setKs (pressedAtLoad s))).1.trans (powered_ampKey s)
    refine ⟨fun on => absurd (on.symm.trans off) (by decide), fun _ => ?_⟩
    have fewer := (commit_lines .nothing s.powered (s.powered.setKs (pressedAtLoad s))).1
    refine Lines.diff_trans ?_ fewer
    simp [State.powered, State.reset, RelayDriver.reset, Lines.diff, Lines.none]
  · obtain ⟨heard, u, rfl, -, moved⟩ := exec_lines h hc
    obtain ⟨fewer, still⟩ := commit_lines heard s u
    refine ⟨fun on => ?_, fun n => Lines.diff_trans (moved.noneOn n) fewer⟩
    have amp : u.ampKey = true := (commit_keys heard s u).1.symm.trans on
    rw [mainPath_congr (commit_ps heard s u)]
    exact (still amp).trans (moved.mainStill amp)

end Sys2Proof.Proofs

/-! SUPPORT. What every step keeps of the counters and of the filter and antenna lines (1.4, 3.4 to 3.6, 6.5, 10.2). -/

namespace Sys2Proof.Machine

/-! ### The target's lines -/

theorem formTarget_filter (s : State) : s.formTarget.filter = filterBit s.fu.band := by
  have main : s.mainLines.filter = 0 := by
    unfold State.mainLines
    repeat' split
    all_goals rfl
  have aux : s.auxLines.filter = 0 := by
    unfold State.auxLines
    split <;> rfl
  simp [State.formTarget, Lines.and, Lines.or, main, aux]

theorem formTarget_ant (s : State) :
    s.formTarget.ant = s.mainLines.ant &&& ~~~s.auxPathAnt ||| s.auxLines.ant &&& s.auxPathAnt := by
  simp [State.formTarget, Lines.and, Lines.or, State.mainPath, State.auxPath, Lines.diff, Lines.every,
    -BitVec.reduceAllOnes, BitVec.allOnes_and]

theorem mainLines_ant (s : State) : ∃ a, s.mainLines.ant = antBit a := by
  unfold State.mainLines
  split
  · exact ⟨0, rfl⟩
  next h _ =>
    refine ⟨h.antenna, ?_⟩
    split <;> rfl

theorem auxLines_ant (s : State) : ∃ a, s.auxLines.ant = antBit a := by
  unfold State.auxLines
  split
  · exact ⟨0, rfl⟩
  next h _ => exact ⟨h.antenna, rfl⟩

theorem or_and_not {w : Nat} (x y a : BitVec w) : (x &&& ~~~a ||| y &&& a) &&& ~~~a &&& ~~~x = 0#w := by
  apply BitVec.eq_of_getLsbD_eq
  intro j hj
  simp [hj]
  grind

theorem or_and_self {w : Nat} (x y a : BitVec w) : (x &&& ~~~a ||| y &&& a) &&& a &&& ~~~y = 0#w := by
  apply BitVec.eq_of_getLsbD_eq
  intro j hj
  simp [hj]
  grind

/-- Of the target's antenna lines at most one is a MAIN-path line and at most one an RXONLY antenna's (R173). -/
theorem formTarget_single (s : State) :
    (∃ a, s.formTarget.ant &&& ~~~s.auxPathAnt = antBit a) ∧ ∃ a, s.formTarget.ant &&& s.auxPathAnt = antBit a := by
  rw [formTarget_ant]
  exact ⟨sub_antBit (or_and_not _ _ _) (mainLines_ant s), sub_antBit (or_and_self _ _ _) (auxLines_ant s)⟩

theorem formTarget_ant_of_noClaims {s : State} (h : NoClaims s) : s.formTarget.ant = 0 := by
  have main : s.mainLines.ant = 0 := by
    unfold State.mainLines
    rw [(h .main).1]
    rfl
  have aux : s.auxLines.ant = 0 := by
    unfold State.auxLines
    rw [(h .aux).1]
    rfl
  rw [formTarget_ant, main, aux]
  simp

/-! ### The lines that are on -/

theorem Lines.sub_of_diff {x y : Lines} (h : x.diff y = .none) :
    x.ant &&& ~~~y.ant = 0 ∧ x.filter &&& ~~~y.filter = 0 := by
  simp only [Lines.diff, Lines.none, Lines.mk.injEq] at h
  obtain ⟨ant, filter, -⟩ := h
  exact ⟨ant, filter⟩

theorem eq_zero_of_parts {w : Nat} {x a : BitVec w} (h : x &&& ~~~a = 0#w) (k : x &&& a = 0#w) : x = 0#w := by
  apply BitVec.eq_of_getLsbD_eq
  intro j hj
  have out := congrArg (fun v => v.getLsbD j) h
  have inside := congrArg (fun v => v.getLsbD j) k
  simp [hj] at out inside ⊢
  grind

/-- At most one line of a path, and the target no more: so it is after a command's own effect (R174, R176). -/
theorem LinesStep.single {s u : State} (step : LinesStep s u)
    (ok : (∃ a, s.rd.lines.ant &&& ~~~s.auxPathAnt = antBit a) ∧ (∃ a, s.rd.lines.ant &&& s.auxPathAnt = antBit a) ∧
      (∃ a, s.rd.target.ant &&& ~~~s.auxPathAnt = antBit a) ∧ ∃ a, s.rd.target.ant &&& s.auxPathAnt = antBit a) :
    (∃ a, u.rd.lines.ant &&& ~~~s.auxPathAnt = antBit a) ∧ ∃ a, u.rd.lines.ant &&& s.auxPathAnt = antBit a := by
  obtain ⟨main, aux, targetMain, targetAux⟩ := ok
  obtain off | made | ⟨-, still, made⟩ := step
  · have sub := (Lines.sub_of_diff off).1
    exact ⟨sub_antBit (sub_and sub _) main, sub_antBit (sub_and sub _) aux⟩
  · rw [made]
    exact ⟨targetMain, targetAux⟩
  · rw [still, made]
    exact ⟨main, targetAux⟩

theorem LinesStep.none_on {s u : State} (step : LinesStep s u) (lines : s.rd.lines.ant = 0) (target : s.rd.target.ant = 0) :
    u.rd.lines.ant = 0 := by
  obtain off | made | ⟨-, still, made⟩ := step
  · have sub := (Lines.sub_of_diff off).1
    rw [lines] at sub
    exact eq_zero_of_sub sub
  · rw [made, target]
  · rw [lines] at still
    rw [target] at made
    exact eq_zero_of_parts (a := s.auxPathAnt) (by simpa using still) (by simpa using made)

theorem LinesStep.filter {s u : State} (step : LinesStep s u) (ok : FilterOk s) : ∃ b, u.rd.lines.filter = filterBit b := by
  obtain ⟨lines, target⟩ := ok
  obtain off | made | ⟨still, -⟩ := step
  · exact sub_filterBit (Lines.sub_of_diff off).2 lines
  · rwa [made]
  · rwa [still]

/-! ### One command -/

theorem filterOk_of_relays {t : State} (relays : RelaysOk t) (lines : ∃ b, t.rd.lines.filter = filterBit b) : FilterOk t := by
  refine ⟨lines, t.fu.band, ?_⟩
  rw [relays.1]
  exact formTarget_filter t

/-- With the target what its owners give, it is the lines that are on that count. -/
theorem antennaLinesOk_of_relays {t : State} (relays : RelaysOk t) (main : ∃ a, t.rd.lines.ant &&& ~~~t.auxPathAnt = antBit a)
    (aux : ∃ a, t.rd.lines.ant &&& t.auxPathAnt = antBit a)
    (load : t.jc.state = .load → t.rd.lines.ant = 0 ∧ NoClaims t) : AntennaLinesOk t := by
  obtain ⟨targetMain, targetAux⟩ := formTarget_single t
  unfold AntennaLinesOk
  rw [relays.1]
  refine ⟨main, aux, targetMain, targetAux, fun e => ?_⟩
  obtain ⟨off, idle⟩ := load e
  exact ⟨off, formTarget_ant_of_noClaims idle, idle⟩

theorem commit_lines_sub (heard : KeyHeard) (before s : State) :
    (commit heard before s).rd.lines.ant &&& ~~~s.rd.lines.ant = 0 ∧
      (commit heard before s).rd.lines.filter &&& ~~~s.rd.lines.filter = 0 :=
  Lines.sub_of_diff (commit_lines heard before s).1

/-- PLAN_READ_END changes the plan in LOAD alone (R23). -/
theorem planReadEnd_untouched {bytes : List Byte} {s t : State} (h : exec (.planReadEnd bytes) s = .next t)
    (hs : s.jc.state ≠ .load) : t.ps = s.ps := by
  have unread : exec (.planReadEnd bytes) s = .next (commit .nothing s s) := by
    show execPlanReadEnd bytes s = _
    unfold execPlanReadEnd
    rw [if_neg hs]
  obtain rfl := next_inj (unread.symm.trans h)
  exact commit_ps .nothing s s

/-- The plan in force changes in LOAD alone, power-on reset apart. -/
theorem ps_of_not_load {c : Instr} {s t : State} (h : exec c s = .next t) (hc : c ≠ .powerOnReset)
    (hs : s.jc.state ≠ .load) : t.ps = s.ps := by
  by_cases hp : ∃ bytes, c = .planReadEnd bytes
  · obtain ⟨bytes, rfl⟩ := hp
    exact planReadEnd_untouched h hs
  · refine exec_kept (a := .ps) h hc (fun touched => ?_) (by decide)
    clear h
    cases c <;> simp_all [touches]

theorem exec_filterOk {c : Instr} {s t : State} (h : exec c s = .next t) (ok : FilterOk s) : FilterOk t := by
  refine filterOk_of_relays (exec_follows h).2 ?_
  by_cases hc : c = .powerOnReset
  · subst hc
    obtain rfl := next_inj ((exec_powerOnReset s).symm.trans h)
    exact sub_filterBit (commit_lines_sub .nothing _ _).2 ⟨0, rfl⟩
  · obtain ⟨heard, u, rfl, -, moved⟩ := exec_lines h hc
    exact sub_filterBit (commit_lines_sub heard s u).2 (moved.step.filter ok)

theorem exec_antennaLinesOk {c : Instr} {s t : State} (h : exec c s = .next t) (ok : AntennaLinesOk s) :
    AntennaLinesOk t := by
  have relays := (exec_follows h).2
  by_cases hc : c = .powerOnReset
  · subst hc
    obtain rfl := next_inj ((exec_powerOnReset s).symm.trans h)
    have off := eq_zero_of_sub (commit_lines_sub .nothing s.powered (s.powered.setKs (pressedAtLoad s))).1
    have idle : NoClaims (s.powered.setKs (pressedAtLoad s)) := fun i => by cases i <;> exact ⟨rfl, rfl⟩
    refine antennaLinesOk_of_relays relays ⟨0, ?_⟩ ⟨0, ?_⟩ fun e => ⟨off, ?_⟩
    · rw [off]; exact BitVec.zero_and
    · rw [off]; exact BitVec.zero_and
    · exact (commit_same .nothing _ _ .idle (by decide) e).2 idle
  · have idleKept : Aspect.idle.Kept s t := exec_kept h hc (untouched hc).2.2.2 (by decide)
    have still := fun hs => ps_of_not_load h hc hs
    obtain ⟨heard, u, rfl, -, moved⟩ := exec_lines h hc
    have sub := (commit_lines_sub heard s u).1
    obtain ⟨main, aux, targetMain, targetAux, load⟩ := ok
    by_cases hl : s.jc.state = .load
    · obtain ⟨linesOff, targetOff, idle⟩ := load hl
      rw [moved.step.none_on linesOff targetOff] at sub
      have off := eq_zero_of_sub sub
      refine antennaLinesOk_of_relays relays ⟨0, ?_⟩ ⟨0, ?_⟩ fun e => ⟨off, (idleKept e).2 idle⟩
      · rw [off]; exact BitVec.zero_and
      · rw [off]; exact BitVec.zero_and
    · obtain ⟨mainOn, auxOn⟩ := moved.step.single ⟨main, aux, targetMain, targetAux⟩
      refine antennaLinesOk_of_relays relays ?_ ?_ fun e => absurd (idleKept e).1 hl
      · rw [auxPathAnt_congr (still hl)]
        exact sub_antBit (sub_and sub _) mainOn
      · rw [auxPathAnt_congr (still hl)]
        exact sub_antBit (sub_and sub _) auxOn

theorem exec_countersOk {c : Instr} {s t : State} (h : exec c s = .next t) (ok : CountersOk s) : CountersOk t := by
  by_cases hc : c = .powerOnReset
  · subst hc
    obtain rfl := next_inj ((exec_powerOnReset s).symm.trans h)
    exact commit_same .nothing _ _ .counters (by decide) (countersOk_powered s)
  · exact exec_kept (a := .counters) h hc (untouched hc).2.2.1 (by decide) ok

/-! ### The reset state -/

theorem reset_reasonNow : State.reset.reasonNow = some .notJoined := rfl

theorem reset_formTarget : State.reset.formTarget = .none := by decide

end Sys2Proof.Machine

namespace Sys2Proof.Proofs

open Sys2Proof.Machine

/-- Settles O58: each command keeps the counters' ranges, and the lines that are on are those that were, some of them,
or the target's. -/
theorem everyStepKeepsCountersAndFilter : Obligations.EveryStepKeepsCountersAndFilter := by
  refine ⟨fun s t counters filter h => ?_, fun s t ok h => ?_⟩
  · obtain rfl | ⟨c, rest, -, h⟩ := step_cases h
    · exact ⟨counters, filter⟩
    · exact ⟨exec_countersOk h counters, exec_filterOk h filter⟩
  · obtain rfl | ⟨c, rest, -, h⟩ := step_cases h
    · exact ok
    · exact exec_antennaLinesOk h ok

/-- Settles O2: each invariant at the reset state. -/
theorem resetMeetsInvariants : Obligations.ResetMeetsInvariants := by
  have noClaims : NoClaims State.reset := fun i => by cases i <;> exact ⟨rfl, rfl⟩
  have counters : CountersOk State.reset := by
    refine ⟨Nat.zero_le _, Nat.zero_le _, Nat.zero_le _, Nat.zero_le _, Nat.zero_le _, Nat.zero_le _, Nat.zero_le _,
      fun i h e => ?_⟩
    rw [(noClaims i).1] at e
    cases e
  have interlock : InterlockOk State.reset := by
    refine ⟨?_, ?_, rfl⟩
    · rw [reset_reasonNow]; rfl
    · rw [reset_reasonNow]; rfl
  have relays : RelaysOk State.reset := ⟨reset_formTarget.symm, fun _ => by decide⟩
  have antennas : AntennaLinesOk State.reset :=
    antennaLinesOk_of_relays relays ⟨0, BitVec.zero_and⟩ ⟨0, BitVec.zero_and⟩ fun _ => ⟨rfl, noClaims⟩
  exact ⟨queueOk_reset, counters, filterOk_of_relays relays ⟨0, rfl⟩, antennas, interlock, relays⟩

end Sys2Proof.Proofs

/-! SUPPORT. What the permit's reasons, the relay target's lines and the key order marks are (9.2 to 9.8, 10.2). -/

namespace Sys2Proof.Machine

/-! ### The target, line by line (R127, R173) -/

theorem getLsbD_single {w i j : Nat} (hj : j < w) : (1#w <<< i).getLsbD j = decide (i = j) := by
  by_cases h : j < i
  · simp [hj, h]
    omega
  · have e : (j - i = 0) = (i = j) := propext (by omega)
    simp [hj, h, e]

theorem antBit_getLsbD {a n : Nat} (h1 : 1 ≤ n) (h2 : n ≤ 32) : (antBit a).getLsbD (n - 1) = decide (a = n) := by
  by_cases ha : 1 ≤ a ∧ a ≤ 32
  · rw [antBit_of_range ha, getLsbD_single (by omega)]
    have e : (a - 1 = n - 1) = (a = n) := propext (by omega)
    simp only [e]
  · rw [antBit, if_neg ha, decide_eq_false (by rintro rfl; exact ha ⟨h1, h2⟩)]
    exact BitVec.getLsbD_zero

theorem filterBit_getLsbD {b n : Nat} (h1 : 1 ≤ n) (h2 : n ≤ 10) : (filterBit b).getLsbD (n - 1) = decide (b = n) := by
  by_cases hb : 1 ≤ b ∧ b ≤ 10
  · rw [filterBit_of_range hb, getLsbD_single (by omega)]
    have e : (b - 1 = n - 1) = (b = n) := propext (by omega)
    simp only [e]
  · rw [filterBit, if_neg hb, decide_eq_false (by rintro rfl; exact hb ⟨h1, h2⟩)]
    exact BitVec.getLsbD_zero

/-- The antenna lines of those of some antennas that a condition picks. -/
theorem foldl_antBit_getLsbD (p : Nat → Bool) {n : Nat} (h1 : 1 ≤ n) (h2 : n ≤ 32) (l : List Nat) (acc : BitVec 32) :
    (l.foldl (fun acc i => if p i then acc ||| antBit (i + 1) else acc) acc).getLsbD (n - 1) =
      (acc.getLsbD (n - 1) || l.any (fun i => p i && decide (i + 1 = n))) := by
  induction l generalizing acc with
  | nil => simp
  | cons i l ih =>
    rw [List.foldl_cons, ih, List.any_cons]
    cases hp : p i
    · simp
    · simp [antBit_getLsbD h1 h2, Bool.or_assoc]

/-- The AUX path has the lines of the RXONLY antennas (R174). -/
theorem auxPathAnt_getLsbD (s : State) {n : Nat} (h1 : 1 ≤ n) (h2 : n ≤ 32) :
    s.auxPathAnt.getLsbD (n - 1) = ((s.antenna n).kind == .rxonly) := by
  unfold State.auxPathAnt
  rw [foldl_antBit_getLsbD (fun i => (s.antenna (i + 1)).kind == .rxonly) h1 h2, show BitVec.getLsbD (0 : BitVec 32) (n - 1) = false from BitVec.getLsbD_zero, Bool.false_or,
    Bool.eq_iff_iff, List.any_eq_true]
  constructor
  · rintro ⟨i, -, e⟩
    obtain ⟨kind, rfl⟩ : ((s.antenna (i + 1)).kind == .rxonly) = true ∧ i + 1 = n := by simpa using e
    exact kind
  · intro kind
    refine ⟨n - 1, List.mem_range.2 (by omega), ?_⟩
    have e : n - 1 + 1 = n := by omega
    simp [e, kind]

theorem mainLines_ant_of_held {s : State} {h : HeldPart} (held : (s.slot .main).held = some h) :
    s.mainLines.ant = antBit h.antenna := by
  unfold State.mainLines
  rw [held]
  dsimp only
  split <;> rfl

theorem mainLines_ant_getLsbD (s : State) {n : Nat} (h1 : 1 ≤ n) (h2 : n ≤ 32) :
    s.mainLines.ant.getLsbD (n - 1) = true ↔ ∃ h, (s.slot .main).held = some h ∧ h.antenna = n := by
  cases held : (s.slot .main).held with
  | none => simp [State.mainLines, held, Lines.none]
  | some h => simp [mainLines_ant_of_held held, antBit_getLsbD h1 h2]

theorem auxLines_ant_getLsbD (s : State) {n : Nat} (h1 : 1 ≤ n) (h2 : n ≤ 32) :
    s.auxLines.ant.getLsbD (n - 1) = true ↔ ∃ h, (s.slot .aux).held = some h ∧ h.antenna = n := by
  unfold State.auxLines
  cases hh : (s.slot .aux).held with
  | none => simp [Lines.none]
  | some h => simp [antBit_getLsbD h1 h2]

theorem formTarget_ant_getLsbD (s : State) {n : Nat} (h1 : 1 ≤ n) (h2 : n ≤ 32) :
    s.formTarget.ant.getLsbD (n - 1) = true ↔
      (∃ h, (s.slot .main).held = some h ∧ h.antenna = n ∧ (s.antenna n).kind ≠ .rxonly) ∨
      ∃ h, (s.slot .aux).held = some h ∧ h.antenna = n ∧ (s.antenna n).kind = .rxonly := by
  have inRange : n - 1 < 32 := by omega
  rw [formTarget_ant, BitVec.getLsbD_or, BitVec.getLsbD_and, BitVec.getLsbD_and, BitVec.getLsbD_not,
    auxPathAnt_getLsbD s h1 h2]
  simp only [Bool.or_eq_true, Bool.and_eq_true, mainLines_ant_getLsbD s h1 h2, auxLines_ant_getLsbD s h1 h2]
  simp [inRange, ← exists_and_right, and_assoc]

theorem formTarget_member (s : State) : s.formTarget.member = s.mainLines.member := by
  have aux : s.auxLines.member = 0 := by
    unfold State.auxLines
    split <;> rfl
  simp [State.formTarget, Lines.and, Lines.or, State.mainPath, State.auxPath, Lines.diff, Lines.every, aux,
    -BitVec.reduceAllOnes, BitVec.and_allOnes]

theorem formTarget_tap (s : State) : s.formTarget.tap = s.mainLines.tap := by
  have aux : s.auxLines.tap = 0 := by
    unfold State.auxLines
    split <;> rfl
  simp [State.formTarget, Lines.and, Lines.or, State.mainPath, State.auxPath, Lines.diff, Lines.every, aux,
    -BitVec.reduceAllOnes, BitVec.and_allOnes]

/-- The group number and the members driven for a port in MAIN (R127). -/
def State.driven (s : State) : Option (Nat × Mask) :=
  match (s.slot .main).held with
  | none => none
  | some h => (s.groupOf h.antenna).map (fun x => (x.1, h.drive &&& x.2.present))

theorem driven_eq_some (s : State) (g : Nat) (m : Mask) :
    s.driven = some (g, m) ↔ ∃ h grp, (s.slot .main).held = some h ∧ s.groupOf h.antenna = some (g, grp) ∧
      m = h.drive &&& grp.present := by
  unfold State.driven
  cases (s.slot .main).held with
  | none => simp
  | some h =>
    cases hg : s.groupOf h.antenna with
    | none => simp [hg]
    | some x =>
      simp only [Option.map_some, Option.some.injEq, Prod.mk.injEq, exists_and_left, exists_eq_left', hg]
      constructor
      · rintro ⟨rfl, rfl⟩
        exact ⟨x.2, rfl, rfl⟩
      · rintro ⟨grp, rfl, rfl⟩
        exact ⟨rfl, rfl⟩

theorem mainLines_combiner (s : State) :
    s.mainLines.member = (match s.driven with | some (g, m) => memberBits g m | none => 0) ∧
      s.mainLines.tap = (match s.driven with | some (g, m) => tapBits g (maskCount m) | none => 0) := by
  unfold State.mainLines State.driven
  cases (s.slot .main).held with
  | none => exact ⟨rfl, rfl⟩
  | some h => cases hg : s.groupOf h.antenna <;> simp [hg]

/-- An enabled group's number is one of 1 to 4, or at least not 0 (R21). -/
theorem one_le_of_groupOf {s : State} {a : Antenna} {g : Nat} {grp : GroupEntry} (h : s.groupOf a = some (g, grp)) :
    1 ≤ g := by
  unfold State.groupOf at h
  split at h
  · obtain ⟨⟨i, x⟩, -, e⟩ := List.exists_of_findSome?_eq_some h
    dsimp only at e
    split at e
    · cases e
      omega
    · cases e
  · cases h

/-- The member lines of a group's places, 1 to 3 (R127). -/
theorem memberBits_getLsbD {g g' place : Nat} (hg : 1 ≤ g) (hg' : 1 ≤ g') (h4 : g ≤ 4) (m : Mask) (h1 : 1 ≤ place)
    (h3 : place ≤ 3) :
    (memberBits g' m).getLsbD (3 * (g - 1) + (place - 1)) = true ↔ g' = g ∧ m.getLsbD (3 - place) = true := by
  have low (i : Nat) : ((if m &&& 4 != 0 then 1#12 else 0) ||| (if m &&& 2 != 0 then 2#12 else 0) |||
      (if m &&& 1 != 0 then 4#12 else 0)).getLsbD i = (decide (i < 3) && m.getLsbD (2 - i)) := by
    by_cases hi : i < 12
    · revert m i
      decide
    · rw [BitVec.getLsbD_of_ge _ _ (by omega)]
      simp
      omega
  unfold memberBits
  rw [BitVec.getLsbD_shiftLeft, low]
  by_cases e : g' = g
  · subst e
    have sub : 3 * (g' - 1) + (place - 1) - 3 * (g' - 1) = place - 1 := by omega
    have back : 2 - (place - 1) = 3 - place := by omega
    have inRange : 3 * (g' - 1) + (place - 1) < 12 := by omega
    have inGroup : place - 1 < 3 := by omega
    have start : ¬ 3 * (g' - 1) + (place - 1) < 3 * (g' - 1) := by omega
    rw [sub, back]
    simp [inRange, inGroup, start]
  · simp only [e, false_and, iff_false]
    simp
    omega

/-- The tap lines that carry a count of members (R127). -/
theorem tapBits_getLsbD {g g' k : Nat} (hg : 1 ≤ g) (hg' : 1 ≤ g') (h4 : g ≤ 4) (count : Nat) (hk : k < 2) :
    (tapBits g' count).getLsbD (2 * (g - 1) + k) = true ↔ g' = g ∧ (count = k + 1 ∨ count = 3) := by
  have low (i : Nat) : (if count = 1 then 1#8 else if count = 2 then 2#8 else if count = 3 then 3#8 else 0).getLsbD i =
      (decide (i < 2) && (decide (count = i + 1) || decide (count = 3))) := by
    by_cases hi : i < 8
    · have split : count = 1 ∨ count = 2 ∨ count = 3 ∨ (count ≠ 1 ∧ count ≠ 2 ∧ count ≠ 3) := by omega
      obtain rfl | rfl | rfl | ⟨h1, h2, h3⟩ := split
      · revert i; decide
      · revert i; decide
      · revert i; decide
      · simp only [h1, h2, h3, if_false, decide_false, Bool.or_false]
        simp
        omega
    · rw [BitVec.getLsbD_of_ge _ _ (by omega)]
      simp
      omega
  unfold tapBits
  rw [BitVec.getLsbD_shiftLeft, low]
  by_cases e : g' = g
  · subst e
    have sub : 2 * (g' - 1) + k - 2 * (g' - 1) = k := by omega
    rw [sub]
    simp
    omega
  · simp only [e, false_and, iff_false]
    simp
    omega

theorem formTarget_member_getLsbD (s : State) {g place : Nat} (hg : 1 ≤ g) (h4 : g ≤ 4) (h1 : 1 ≤ place) (h3 : place ≤ 3) :
    s.formTarget.member.getLsbD (3 * (g - 1) + (place - 1)) = true ↔
      ∃ m, s.driven = some (g, m) ∧ m.getLsbD (3 - place) = true := by
  rw [formTarget_member, (mainLines_combiner s).1]
  cases hd : s.driven with
  | none => simp
  | some x =>
    obtain ⟨h, grp, -, group, -⟩ := (driven_eq_some s x.1 x.2).1 hd
    simp [memberBits_getLsbD hg (one_le_of_groupOf group) h4 x.2 h1 h3, Prod.ext_iff, and_assoc]

theorem formTarget_tap_getLsbD (s : State) {g k : Nat} (hg : 1 ≤ g) (h4 : g ≤ 4) (hk : k < 2) :
    s.formTarget.tap.getLsbD (2 * (g - 1) + k) = true ↔
      ∃ m, s.driven = some (g, m) ∧ (maskCount m = k + 1 ∨ maskCount m = 3) := by
  rw [formTarget_tap, (mainLines_combiner s).2]
  cases hd : s.driven with
  | none => simp
  | some x =>
    obtain ⟨h, grp, -, group, -⟩ := (driven_eq_some s x.1 x.2).1 hd
    simp [tapBits_getLsbD hg (one_le_of_groupOf group) h4 (maskCount x.2) hk, Prod.ext_iff, and_assoc]

/-! ### Conflicts and reasons (R145 to R157) -/

theorem counted_iff (r : PeerRecord) : r.counted = true ↔ r.live = true ∧ r.standby = false ∧ ∃ fp, r.freq = some fp := by
  simp [PeerRecord.counted, Option.isSome_iff_exists, and_assoc]

theorem spacingConflict_iff (s : State) (r : PeerRecord) :
    s.spacingConflict r = true ↔ ∃ f fp, r.live = true ∧ r.standby = false ∧ s.fu.freq = some f ∧ r.freq = some fp ∧
      r.band = s.fu.band ∧ s.fu.band ≠ 0 ∧ (s.bandEntry s.fu.band).spacing ≠ 0 ∧
      (f - fp) + (fp - f) < (s.bandEntry s.fu.band).spacing * 10 := by
  unfold State.spacingConflict
  cases hf : s.fu.freq with
  | none => simp
  | some f =>
    cases hp : r.freq with
    | none => simp
    | some fp =>
      simp only [counted_iff, hp, distance, Bool.and_eq_true, beq_iff_eq, bne_iff_ne, Option.some.injEq, exists_eq_left',
        exists_and_left]
      grind

theorem harmonicConflict_iff (s : State) (k : Nat) (r : PeerRecord) :
    s.harmonicConflict k r = true ↔ ∃ g f fp, s.harmonic = some g ∧ g.guardKHz ≠ 0 ∧ r.live = true ∧
      r.standby = false ∧ s.fu.freq = some f ∧ r.freq = some fp ∧ (k = 2 ∧ g.h2 = true ∨ k = 3 ∧ g.h3 = true) ∧
      (k * f - fp) + (fp - k * f) < g.guardKHz * 10 * k := by
  unfold State.harmonicConflict
  cases hf : s.fu.freq with
  | none => simp
  | some f =>
    cases hp : r.freq with
    | none => simp
    | some fp =>
      cases hh : s.harmonic with
      | none => simp
      | some g =>
        simp only [counted_iff, hp, Harmonic.enables, distance, Bool.and_eq_true, Bool.or_eq_true, beq_iff_eq,
          Option.some.injEq, exists_eq_left', exists_and_left]
        grind

theorem mem_warningsOf (s : State) (kind : WarningKind) (hit : PeerRecord → Bool) (x : WarningKind × Position) :
    x ∈ s.warningsOf kind hit ↔ x.1 = kind ∧ ∃ r ∈ s.pt.records, hit r = true ∧ r.pos = x.2 := by
  unfold State.warningsOf
  simp only [List.mem_map, List.mem_filter]
  constructor
  · rintro ⟨r, ⟨mem, h⟩, rfl⟩
    exact ⟨rfl, r, mem, h, rfl⟩
  · rintro ⟨rfl, r, mem, h, e⟩
    exact ⟨r, ⟨mem, h⟩, by rw [e]⟩

theorem spacing_mem_warningSet (s : State) (p : Position) :
    (.spacing, p) ∈ s.warningSet ↔ s.spacingWarns = true ∧ ∃ r ∈ s.pt.records, s.spacingConflict r = true ∧ r.pos = p := by
  unfold State.warningSet
  rw [List.mem_append]
  cases s.spacingWarns <;> cases s.harmonicWarns <;> simp [mem_warningsOf]

theorem harmonic_mem_warningSet (s : State) (p : Position) {kind : WarningKind} {k : Nat}
    (hk : kind = .harmonic2 ∧ k = 2 ∨ kind = .harmonic3 ∧ k = 3) :
    (kind, p) ∈ s.warningSet ↔
      s.harmonicWarns = true ∧ ∃ r ∈ s.pt.records, s.harmonicConflict k r = true ∧ r.pos = p := by
  unfold State.warningSet
  rw [List.mem_append]
  obtain ⟨rfl, rfl⟩ | ⟨rfl, rfl⟩ := hk <;>
    cases s.spacingWarns <;> cases s.harmonicWarns <;> simp [mem_warningsOf]

theorem harmonicWarns_eq {s : State} {g : Harmonic} (h : s.harmonic = some g) : s.harmonicWarns = g.warn := by
  unfold State.harmonicWarns
  rw [h]

theorem xor_and_eq_zero {w : Nat} (x y m : BitVec w) : (x ^^^ y) &&& m = 0#w ↔ x &&& m = y &&& m := by
  have distrib : (x ^^^ y) &&& m = (x &&& m) ^^^ (y &&& m) := by
    apply BitVec.eq_of_getLsbD_eq
    intro j hj
    simp [hj, Bool.and_xor_distrib_right]
  rw [distrib, BitVec.xor_eq_zero_iff]

theorem Lines.xor_and_eq_none (x y m : Lines) : (x.xor y).and m = .none ↔ x.and m = y.and m := by
  simp only [Lines.xor, Lines.and, Lines.none, Lines.mk.injEq]
  exact and_congr (xor_and_eq_zero _ _ _) (and_congr (xor_and_eq_zero _ _ _)
    (and_congr (xor_and_eq_zero _ _ _) (xor_and_eq_zero _ _ _)))

theorem switching_iff (s : State) :
    s.switching = true ↔ s.rd.lines.and s.mainPath ≠ s.rd.target.and s.mainPath ∨
      s.rd.state ≠ .steady ∧ s.rd.movesMain = true := by
  unfold State.switching
  simp [Lines.xor_and_eq_none]

theorem keyedOnBand_iff (s : State) (r : PeerRecord) :
    s.keyedOnBand r = true ↔ r.live = true ∧ r.standby = false ∧ r.freq ≠ none ∧ r.keyed = true ∧
      r.band = s.fu.band ∧ s.fu.band ≠ 0 := by
  simp [State.keyedOnBand, PeerRecord.counted, and_assoc, Option.isSome_iff_ne_none]

theorem bandBusy_iff (s : State) :
    s.bandBusy = true ↔ (s.bandEntry s.fu.band).single = true ∧ s.fu.band ≠ 0 ∧
      ∃ r ∈ s.pt.records, r.live = true ∧ r.standby = false ∧ r.freq ≠ none ∧ r.keyed = true ∧
        r.band = s.fu.band ∧ (s.ampKey = true → s.markOf r.pos = some .earlier) := by
  have ahead (r : PeerRecord) : s.peerAhead r = true ↔ (s.ampKey = true → s.markOf r.pos = some .earlier) := by
    unfold State.peerAhead State.announced
    split
    next h => simp [h]
    next h => simp [h]
  unfold State.bandBusy
  simp only [Bool.and_eq_true, List.any_eq_true, keyedOnBand_iff, ahead, bne_iff_ne, and_assoc]
  refine and_congr_right fun _ => and_congr_right fun band => ?_
  simp [band]

/-- The reasons of the part's own state (R145, R148, R149). -/
theorem ownReasons (s : State) :
    (s.inhibits .notJoined = true ↔ s.jc.state = .load ∨ s.jc.state = .listen ∨ s.jc.state = .probe ∨
      s.jc.state = .unnumbered ∨ s.jc.state = .leaving) ∧
    (s.inhibits .plan = true ↔ s.jc.state = .unplanned) ∧
    (s.inhibits .duplicate = true ↔ s.jc.state = .duplicate) ∧
    (s.inhibits .standby = true ↔ s.cu.standby = true) ∧
    (s.inhibits .stationQuiet = true ↔ s.cu.quiet ≠ none) ∧
    (s.inhibits .linkLost = true ↔ s.pt.linkLost = true ∧ s.timing.failSafe = true) ∧
    (s.inhibits .noFreq = true ↔ s.fu.freq = none) ∧
    (s.inhibits .outOfBand = true ↔ s.fu.freq ≠ none ∧ s.fu.band = 0) := by
  refine ⟨?_, ?_, ?_, Iff.rfl, ?_, ?_, ?_, ?_⟩
  · unfold State.inhibits
    cases s.jc.state <;> simp
  all_goals simp [State.inhibits, Option.isSome_iff_ne_none]

theorem antBand_iff (s : State) :
    s.inhibits .antBand = true ↔
      ∃ h, (s.slot .main).held = some h ∧ (s.antenna h.antenna).covers s.fu.band = false := by
  unfold State.inhibits
  cases (s.slot .main).held <;> simp

/-! ### The key order marks (R158 to R160) -/

/-- The first thing found under a key in the images of a list is the image of the first that has the key. -/
theorem find?_filterMap_of_find? {α β γ : Type} [BEq γ] [LawfulBEq γ] (key : α → γ) (key' : β → γ) (f : α → Option β)
    (keeps : ∀ x y, f x = some y → key' y = key x) {l : List α} {k : γ} {r : α} {b : β}
    (h : l.find? (fun x => key x == k) = some r) (hb : f r = some b) :
    (l.filterMap f).find? (fun y => key' y == k) = some b := by
  induction l with
  | nil => cases h
  | cons x l ih =>
    rw [List.find?_cons] at h
    split at h
    next hx =>
      cases h
      rw [List.filterMap_cons_some hb, List.find?_cons_of_pos]
      rw [keeps _ _ hb]
      exact hx
    next hx =>
      cases hf : f x with
      | none => rw [List.filterMap_cons_none hf]; exact ih h
      | some y =>
        rw [List.filterMap_cons_some hf, List.find?_cons_of_neg]
        · exact ih h
        · rw [keeps _ _ hf, hx]
          decide

theorem markAfter_pos {heard : KeyHeard} {before s : State} {r : PeerRecord} {y : Position × KeyMark}
    (h : markAfter heard before s r = some y) : y.1 = r.pos ∧ s.keyedOnBand r = true := by
  unfold markAfter at h
  split at h
  next keyed =>
    refine ⟨?_, keyed⟩
    split at h
    · cases h; rfl
    · split at h
      · cases h; rfl
      · cases h
  · cases h

/-- Only the Interlock Evaluator's first turn touches the marks. -/
theorem commit_marks (heard : KeyHeard) (before s : State) :
    (commit heard before s).ie.marks = (State.remark heard before s).ie.marks := by
  have start : Same [.liveSeen] (State.remark heard before s) (reactStart heard before s) :=
    (recentReact_same before _).any.trans ((ptReact_same _).mono (by decide))
  have whole : Aspect.marks.Kept (State.remark heard before s) (commit heard before s) :=
    (((start .marks (by decide)).trans (reactSettled_same heard before s .marks (by decide))).trans
      (reactJudged_same heard before s .marks (by decide))).trans (commit_same_judged heard before s .marks (by decide))
  exact whole

theorem commit_marks_of_off {s : State} (heard : KeyHeard) (before : State) (h : s.ampKey = false) :
    (commit heard before s).ie.marks = [] := by
  rw [commit_marks]
  simp [State.remark, State.announced, h]

theorem commit_marks_of_on {s : State} (heard : KeyHeard) (before : State) (h : s.ampKey = true) :
    (commit heard before s).ie.marks = s.pt.records.filterMap (markAfter heard before s) := by
  rw [commit_marks]
  simp [State.remark, State.announced, h]

/-- The mark of a peer found in the table, where the reactions give it one. -/
theorem commit_markOf {heard : KeyHeard} {before s : State} (h : s.ampKey = true) {r : PeerRecord}
    (found : s.pt.find r.pos = some r) {m : KeyMark} (mark : markAfter heard before s r = some (r.pos, m)) :
    (commit heard before s).markOf r.pos = some m := by
  unfold State.markOf
  rw [commit_marks_of_on heard before h,
    find?_filterMap_of_find? (fun x : PeerRecord => x.pos) (fun y => y.1) (markAfter heard before s)
      (fun x y e => (markAfter_pos e).1) found mark]
  rfl

theorem markAfter_starts {heard : KeyHeard} {before s : State} {r : PeerRecord} (keyed : s.keyedOnBand r = true)
    (starts : startsKeyed before s r = true) :
    markAfter heard before s r = some (r.pos, if heard = .plainOn r.pos then .later else s.rankMark r) := by
  unfold markAfter
  rw [if_pos keyed, if_pos starts]

theorem markAfter_stays {heard : KeyHeard} {before s : State} {r : PeerRecord} (keyed : s.keyedOnBand r = true)
    (stays : startsKeyed before s r = false) {m : KeyMark} (had : s.markOf r.pos = some m) :
    markAfter heard before s r = some (r.pos, if heard = .assertOn r.pos then s.rankMark r else m) := by
  unfold markAfter
  rw [if_pos keyed, if_neg (by simp [stays]), had]

end Sys2Proof.Machine

namespace Sys2Proof.Proofs

open Sys2Proof.Machine

theorem target_lines (s : State) :
    (∀ n, 1 ≤ n → n ≤ 32 → (s.formTarget.ant.getLsbD (n - 1) = true ↔
      (∃ h, (s.slot .main).held = some h ∧ h.antenna = n ∧ (s.antenna n).kind ≠ .rxonly) ∨
      ∃ h, (s.slot .aux).held = some h ∧ h.antenna = n ∧ (s.antenna n).kind = .rxonly)) ∧
    (∀ b, 1 ≤ b → b ≤ 10 → (s.formTarget.filter.getLsbD (b - 1) = true ↔ s.fu.band = b)) ∧
    ∀ g (drives : Mask → Prop), 1 ≤ g → g ≤ 4 → (∀ m, drives m ↔ ∃ h grp, (s.slot .main).held = some h ∧
        s.groupOf h.antenna = some (g, grp) ∧ m = h.drive &&& grp.present) →
      (∀ place, 1 ≤ place → place ≤ 3 → (s.formTarget.member.getLsbD (3 * (g - 1) + (place - 1)) = true ↔
        ∃ m, drives m ∧ m.getLsbD (3 - place) = true)) ∧
      (s.formTarget.tap.getLsbD (2 * (g - 1)) = true ↔ ∃ m, drives m ∧ (maskCount m = 1 ∨ maskCount m = 3)) ∧
      (s.formTarget.tap.getLsbD (2 * (g - 1) + 1) = true ↔ ∃ m, drives m ∧ (maskCount m = 2 ∨ maskCount m = 3)) := by
  refine ⟨fun n h1 h2 => formTarget_ant_getLsbD s h1 h2, fun b h1 h2 => ?_, fun g drives h1 h4 hd => ?_⟩
  · rw [formTarget_filter, filterBit_getLsbD h1 h2, decide_eq_true_iff]
  · have driven (m : Mask) : drives m ↔ s.driven = some (g, m) := (hd m).trans (driven_eq_some s g m).symm
    simp only [driven]
    exact ⟨fun place p1 p3 => formTarget_member_getLsbD s h1 h4 p1 p3, formTarget_tap_getLsbD s h1 h4 (k := 0) (by decide),
      formTarget_tap_getLsbD s h1 h4 (k := 1) (by decide)⟩

/-- Settles O54: the records follow their inputs (`exec_follows`); the reasons, the target and the marks spelled out. -/
theorem permitAndTargetFollowInputs : Obligations.PermitAndTargetFollowInputs := by
  refine ⟨fun c s t h => exec_follows h, fun s => ⟨rfl, ownReasons s⟩, target_lines, fun s counts hc => ?_,
    fun heard before s => ?_⟩
  · have spacingAny : s.pt.records.any s.spacingConflict = true ↔ ∃ r f fp, counts r f fp ∧
        r.band = s.fu.band ∧ s.fu.band ≠ 0 ∧ (s.bandEntry s.fu.band).spacing ≠ 0 ∧
        (f - fp) + (fp - f) < (s.bandEntry s.fu.band).spacing * 10 := by
      simp only [List.any_eq_true, spacingConflict_iff, hc]
      grind
    refine ⟨by simp [State.inhibits], antBand_iff s, switching_iff s, ?_, bandBusy_iff s, ?_, ?_, fun p => ?_,
      fun p kind k hk => ?_⟩
    · simp [State.inhibits, State.filterWrong, Option.isSome_iff_ne_none, and_assoc]
    · simp only [State.inhibits, State.spacingWarns, Bool.and_eq_true, Bool.not_eq_true', spacingAny]
    · simp only [State.inhibits, Bool.and_eq_true, Bool.not_eq_true', List.any_eq_true, Bool.or_eq_true,
        harmonicConflict_iff, hc, Nat.reduceEqDiff, true_and, false_and, or_false, false_or]
      constructor
      · rintro ⟨calm, r, mem, ⟨g, f, fp, hg, guard, live, up, hf, hp, on⟩ | ⟨g, f, fp, hg, guard, live, up, hf, hp, on⟩⟩
        · exact ⟨g, r, f, fp, hg, (harmonicWarns_eq hg).symm.trans calm, guard, ⟨mem, live, up, hf, hp⟩, .inl on⟩
        · exact ⟨g, r, f, fp, hg, (harmonicWarns_eq hg).symm.trans calm, guard, ⟨mem, live, up, hf, hp⟩, .inr on⟩
      · rintro ⟨g, r, f, fp, hg, calm, guard, ⟨mem, live, up, hf, hp⟩, on | on⟩
        · exact ⟨(harmonicWarns_eq hg).trans calm, r, mem, .inl ⟨g, f, fp, hg, guard, live, up, hf, hp, on⟩⟩
        · exact ⟨(harmonicWarns_eq hg).trans calm, r, mem, .inr ⟨g, f, fp, hg, guard, live, up, hf, hp, on⟩⟩
    · rw [spacing_mem_warningSet]
      simp only [State.spacingWarns, spacingConflict_iff, hc]
      grind
    · rw [harmonic_mem_warningSet s p hk]
      simp only [harmonicConflict_iff, hc]
      constructor
      · rintro ⟨warn, r, mem, ⟨g, f, fp, hg, guard, live, up, hf, hp, on, near⟩, pos⟩
        rw [harmonicWarns_eq hg] at warn
        exact ⟨g, r, f, fp, hg, warn, guard, ⟨mem, live, up, hf, hp⟩, pos, on, near⟩
      · rintro ⟨g, r, f, fp, hg, warn, guard, ⟨mem, live, up, hf, hp⟩, pos, on, near⟩
        exact ⟨(harmonicWarns_eq hg).trans warn, r, mem, ⟨g, f, fp, hg, guard, live, up, hf, hp, on, near⟩, pos⟩
  · refine ⟨commit_marks_of_off heard before, fun p m mem => ?_, fun amp r found keyed => ⟨fun starts hear => ?_, ?_, ?_⟩⟩
    · cases amp : s.ampKey with
      | false =>
        rw [commit_marks_of_off heard before amp] at mem
        cases mem
      | true =>
        rw [commit_marks_of_on heard before amp] at mem
        obtain ⟨r, hr, e⟩ := List.mem_filterMap.1 mem
        obtain ⟨pos, keyed⟩ := markAfter_pos e
        exact ⟨r, hr, pos.symm, keyed⟩
    · exact commit_markOf amp found (by rw [markAfter_starts keyed starts, if_pos hear])
    · rintro (⟨starts, hear⟩ | ⟨stays, had, hear⟩)
      · exact commit_markOf amp found (by rw [markAfter_starts keyed starts, if_neg hear]; rfl)
      · obtain ⟨m, had⟩ := Option.isSome_iff_exists.1 had
        exact commit_markOf amp found (by rw [markAfter_stays keyed stays had, if_pos hear]; rfl)
    · intro stays had hear
      obtain ⟨m, had⟩ := Option.isSome_iff_exists.1 had
      rw [had]
      exact commit_markOf amp found (by rw [markAfter_stays keyed stays had, if_neg hear])

end Sys2Proof.Proofs

/-! SUPPORT. What the reactions to an event leave, field by field: `commit_kept` read for each field on its own. -/

namespace Sys2Proof.Machine

/-- A change of F touches the recent-change timer alone (R90). -/
theorem recentReact_eq (before s : State) :
    ∃ x, State.recentReact before s = s.setSg { s.sg with recent := x } := by
  unfold State.recentReact
  split
  · exact ⟨s.sg.recent, rfl⟩
  · exact ⟨_, rfl⟩

theorem commit_rest (heard : KeyHeard) (before s : State) :
    ∃ x, Kept (s.setSg { s.sg with recent := x }) (commit heard before s) := by
  obtain ⟨x, e⟩ := recentReact_eq before s
  exact ⟨x, e ▸ commit_kept heard before s⟩

section
variable (heard : KeyHeard) (before s : State)

@[simp] theorem commit_now : (commit heard before s).now = s.now :=
  let ⟨_, k⟩ := commit_rest heard before s; k.now

@[simp] theorem commit_planStore : (commit heard before s).ps = s.ps := commit_ps heard before s

@[simp] theorem commit_cu : (commit heard before s).cu = s.cu :=
  let ⟨_, k⟩ := commit_rest heard before s; k.cu

@[simp] theorem commit_pending : (commit heard before s).pending = s.pending :=
  let ⟨_, k⟩ := commit_rest heard before s; k.pending

@[simp] theorem commit_records : (commit heard before s).pt.records = s.pt.records :=
  let ⟨_, k⟩ := commit_rest heard before s; k.records

@[simp] theorem commit_linkLost : (commit heard before s).pt.linkLost = s.pt.linkLost :=
  let ⟨_, k⟩ := commit_rest heard before s; k.linkLost

@[simp] theorem commit_find (p : Position) : (commit heard before s).pt.find p = s.pt.find p := by
  simp only [PeerTable.find, commit_records]

@[simp] theorem commit_timing : (commit heard before s).timing = s.timing := by
  simp only [State.timing, commit_planStore]

@[simp] theorem commit_period : (commit heard before s).period = s.period := by
  simp only [State.period, commit_timing]

theorem commit_join : (commit heard before s).jc = { s.jc with probeOwed := (commit heard before s).jc.probeOwed } :=
  let ⟨_, k⟩ := commit_rest heard before s; k.join

@[simp] theorem commit_joinState : (commit heard before s).jc.state = s.jc.state := by rw [commit_join]
@[simp] theorem commit_number : (commit heard before s).jc.number = s.jc.number := by rw [commit_join]
@[simp] theorem commit_tentative : (commit heard before s).jc.tentative = s.jc.tentative := by rw [commit_join]
@[simp] theorem commit_failed : (commit heard before s).jc.failed = s.jc.failed := by rw [commit_join]
@[simp] theorem commit_attempts : (commit heard before s).jc.attempts = s.jc.attempts := by rw [commit_join]
@[simp] theorem commit_leaving : (commit heard before s).jc.leaving = s.jc.leaving := by rw [commit_join]
@[simp] theorem commit_listenTimer : (commit heard before s).jc.listenTimer = s.jc.listenTimer := by rw [commit_join]
@[simp] theorem commit_probeWait : (commit heard before s).jc.probeWait = s.jc.probeWait := by rw [commit_join]

theorem commit_link : LinkKept s.lc (commit heard before s).lc :=
  let ⟨_, k⟩ := commit_rest heard before s; k.link

@[simp] theorem commit_receiver : (commit heard before s).lc.receiver = s.lc.receiver := (commit_link heard before s).receiver
@[simp] theorem commit_lineErrors : (commit heard before s).lc.lineErrors = s.lc.lineErrors :=
  (commit_link heard before s).lineErrors
@[simp] theorem commit_level : (commit heard before s).lc.level = s.lc.level := (commit_link heard before s).level
@[simp] theorem commit_errorCount : (commit heard before s).lc.errorCount = s.lc.errorCount :=
  (commit_link heard before s).errorCount
@[simp] theorem commit_adaptation : (commit heard before s).lc.adaptation = s.lc.adaptation :=
  (commit_link heard before s).adaptation
@[simp] theorem commit_flights : flights (commit heard before s).lc.queue = flights s.lc.queue :=
  (commit_link heard before s).flights

@[simp] theorem commit_running : (commit heard before s).sg.running = s.sg.running :=
  let ⟨_, k⟩ := commit_rest heard before s; k.running
@[simp] theorem commit_cadence : (commit heard before s).sg.cadence = s.sg.cadence :=
  let ⟨_, k⟩ := commit_rest heard before s; k.cadence
@[simp] theorem commit_slice : (commit heard before s).sg.slice = s.sg.slice :=
  let ⟨_, k⟩ := commit_rest heard before s; k.slice
@[simp] theorem commit_interval : (commit heard before s).sg.interval = s.sg.interval :=
  let ⟨_, k⟩ := commit_rest heard before s; k.interval
@[simp] theorem commit_obligation : (commit heard before s).sg.obligation = s.sg.obligation :=
  let ⟨_, k⟩ := commit_rest heard before s; k.obligation
@[simp] theorem commit_renewed : (commit heard before s).sg.renewed = s.sg.renewed :=
  let ⟨_, k⟩ := commit_rest heard before s; k.renewed

@[simp] theorem commit_relearn : (commit heard before s).ct.relearn = s.ct.relearn :=
  let ⟨_, k⟩ := commit_rest heard before s; k.relearn
@[simp] theorem commit_reservations : (commit heard before s).ct.reservations = s.ct.reservations :=
  let ⟨_, k⟩ := commit_rest heard before s; k.reservations

@[simp] theorem commit_keepTimer : (commit heard before s).hu.keepTimer = s.hu.keepTimer :=
  let ⟨_, k⟩ := commit_rest heard before s; k.keepTimer
theorem commit_ask : (commit heard before s).hu.ask = s.hu.ask ∨ (commit heard before s).hu.ask = .none :=
  let ⟨_, k⟩ := commit_rest heard before s; k.ask
theorem commit_latch : (commit heard before s).hu.latch = s.hu.latch ∨ (commit heard before s).hu.latch = none :=
  let ⟨_, k⟩ := commit_rest heard before s; k.latch
theorem commit_answer : (commit heard before s).hu.answer = s.hu.answer ∨
    ((commit heard before s).hu.answer = none ∧ ∃ p a, s.hu.answer = some ⟨p, a, .giving⟩) :=
  let ⟨_, k⟩ := commit_rest heard before s; k.answer

@[simp] theorem commit_ptt : (commit heard before s).ks.ptt = s.ks.ptt :=
  let ⟨_, k⟩ := commit_rest heard before s; k.ptt
@[simp] theorem commit_keyTenure : (commit heard before s).ks.keyTenure = s.ks.keyTenure :=
  let ⟨_, k⟩ := commit_rest heard before s; k.keyTenure
@[simp] theorem commit_tenurePeriod : (commit heard before s).ks.tenurePeriod = s.ks.tenurePeriod :=
  let ⟨_, k⟩ := commit_rest heard before s; k.tenurePeriod
@[simp] theorem commit_keyTenureLink : (commit heard before s).ks.keyTenureLink = s.ks.keyTenureLink :=
  let ⟨_, k⟩ := commit_rest heard before s; k.keyTenureLink
@[simp] theorem commit_ampKey : (commit heard before s).ampKey = s.ampKey :=
  let ⟨_, k⟩ := commit_rest heard before s; k.amp
theorem commit_seqState : (commit heard before s).ks.state = s.ks.state ∨
    (s.ks.state = .keyWait ∧ ((commit heard before s).ks.state = .announce ∨ (commit heard before s).ks.state = .lockout)) ∨
    ((s.ks.state = .ampOn ∨ s.ks.state = .transmit) ∧ (commit heard before s).ks.state = .tail) :=
  let ⟨_, k⟩ := commit_rest heard before s; k.seqState

@[simp] theorem commit_waitMode : (commit heard before s).pi.waitMode = s.pi.waitMode :=
  let ⟨_, k⟩ := commit_rest heard before s; k.waitMode

end

/-- A sequencer that the Interlock Evaluator's word does not move stays as it is (R147). -/
theorem commit_ks {s : State} (heard : KeyHeard) (before : State) (h : s.ks.state.settled = true) :
    (commit heard before s).ks = s.ks :=
  let ⟨_, k⟩ := commit_rest heard before s; k.sequencer h

/-- A driver that is not STEADY keeps its lines, its timer and its phase (R175). -/
theorem commit_relays {s : State} (heard : KeyHeard) (before : State) (h : s.rd.state ≠ .steady) :
    (commit heard before s).rd = { s.rd with target := (commit heard before s).rd.target } :=
  let ⟨_, k⟩ := commit_rest heard before s; k.relays h

/-- A changed F restarts the recent-change timer with the own P (R90). -/
theorem commit_recent_of_changed {before s : State} (heard : KeyHeard) (h : before.fu.freq ≠ s.fu.freq) :
    (commit heard before s).sg.recent = .running (s.now + s.period) := by
  have k := (commit_kept heard before s).recent
  rwa [recentReact_of_changed h] at k

theorem commit_recent_of_same {before s : State} (heard : KeyHeard) (h : s.fu.freq = before.fu.freq) :
    (commit heard before s).sg.recent = s.sg.recent := (commit_kept_of_freq heard h).recent

end Sys2Proof.Machine

/-! SUPPORT. The accepted sentence, a whole sentence from HUNT, and the freshness timer's end (1.3 to 1.8). -/

namespace Sys2Proof.Machine

/-! ### The accepted sentence (R9 to R12) -/

theorem radioChar_end_match {s : State} (h : s.fu.decoder.state = .endMark)
    (hsum : s.fu.decoder.check = s.fu.decoder.sum % 256) : s.radioChar .cr = s.acceptSentence := by
  simp [State.radioChar, h, hsum]

/-- The Frequency Unit after an accepted sentence (R9 to R12). -/
def State.accepted (s : State) : FreqUnit :=
  { s.fu with
    freq := some ((s.fu.decoder.hz + 50) / 100), band := s.lookup ((s.fu.decoder.hz + 50) / 100),
    freshness := .running (s.now + Config.ms (500 * s.timing.tFreqHalves)), decoder := .hunting }

theorem acceptSentence_eq (s : State) : s.acceptSentence = s.setFu s.accepted := rfl

theorem lookup_congr {s t : State} (h : t.ps = s.ps) (f : Nat) : t.lookup f = s.lookup f := by
  have band (b : Band) : t.bandEntry b = s.bandEntry b := by simp only [State.bandEntry, h]
  simp only [State.lookup, band]

theorem timing_congr {s t : State} (h : t.ps = s.ps) : t.timing = s.timing := by simp only [State.timing, h]

/-! ### A sentence, character by character (R2 to R6) -/

/-- The machine runs through a state on its way, `k` steps on. -/
def Reaches (k : Nat) (s t : State) : Prop := ∀ m, Host.Core.run core (k + m) s = Host.Core.run core m t

theorem Reaches.trans {j k : Nat} {s t u : State} (h : Reaches j s t) (h' : Reaches k t u) : Reaches (j + k) s u := by
  intro m
  rw [Nat.add_assoc, h, h']

theorem Reaches.of_step {s t : State} (h : step s = .next t) : Reaches 1 s t := by
  intro m
  rw [Nat.add_comm]
  have next : core.step s = .next t := h
  simp only [Host.Core.run, next]

/-- What hearing a sentence needs of the part, the decoder apart: it stays over each character. -/
structure Hears (k : Nat) (s : State) (rest : List Instr) (fu : FreqUnit) (t : State) : Prop where
  run : Reaches k s t
  pending : t.pending = rest
  now : t.now = s.now
  ps : t.ps = s.ps
  fu : t.fu = fu

theorem Hears.trans {j k : Nat} {s t u : State} {r r' : List Instr} {x y : FreqUnit} (h : Hears j s r x t)
    (h' : Hears k t r' y u) : Hears (j + k) s r' y u :=
  ⟨h.run.trans h'.run, h'.pending, h'.now.trans h.now, h'.ps.trans h.ps, h'.fu⟩

/-- One character of the radio line, where its move is known (R3). -/
theorem hears_radio {s : State} {n : Nat} {rest : List Instr} {x : FreqUnit} (hp : s.pending = radio n :: rest)
    (hx : (s.setPending rest).radioChar (charClass (BitVec.ofNat 8 n) false) = (s.setPending rest).setFu x) :
    ∃ t, Hears 1 s rest x t := by
  refine ⟨_, .of_step (t := commit .nothing (s.setPending rest) ((s.setPending rest).setFu x)) ?_, ?_, ?_, ?_, ?_⟩
  · rw [← hx]
    simp only [step, hp]
    exact exec_radioCharacterArrival _ _ _
  · exact commit_pending ..
  · exact commit_now ..
  · exact commit_planStore ..
  · exact commit_fu ..

/-- A decimal digit's character (R1). -/
theorem charClass_digit (d : Fin 10) : charClass (BitVec.ofNat 8 (48 + d.val)) false = .digit d.val := by
  revert d
  decide

/-- An upper-case hexadecimal digit's character (R1). -/
theorem charClass_hex (v : Fin 16) : charClass (BitVec.ofNat 8 (hexChar v.val)) false = .digit v.val ∨
    charClass (BitVec.ofNat 8 (hexChar v.val)) false = .hexLetter v.val := by
  revert v
  decide

/-- The digits of a sentence gathered one after another (R4). -/
def Decoder.takeDigits (d : Decoder) (l : List (Fin 10)) : Decoder := l.foldl (fun d x => d.takeDigit x.val) d

theorem Decoder.takeDigits_gathers (l : List (Fin 10)) (d : Decoder) :
    (d.takeDigits l).hz = l.foldl (fun acc x => 10 * acc + x.val) d.hz ∧
      (d.takeDigits l).sum = l.foldl (fun acc x => acc + (48 + x.val)) d.sum := by
  induction l generalizing d with
  | nil => exact ⟨rfl, rfl⟩
  | cons x xs ih =>
    obtain ⟨hz, sum, -⟩ := d.takeDigit_gathers x.val
    rw [List.foldl_cons, List.foldl_cons, ← hz, ← sum]
    exact ih (d.takeDigit x.val)

/-- The last digit opens the check (R4). -/
theorem Decoder.takeDigits_check {l : List (Fin 10)} {d : Decoder} (some : l ≠ []) (eight : d.digits + l.length = 8) :
    (d.takeDigits l).state = .check ∧ (d.takeDigits l).checkDigits = 0 ∧ (d.takeDigits l).check = 0 := by
  induction l generalizing d with
  | nil => exact absurd rfl some
  | cons x xs ih =>
    obtain ⟨-, -, digits⟩ := d.takeDigit_gathers x.val
    rw [List.length_cons] at eight
    by_cases last : xs = []
    · subst last
      have eighth : d.digits + 1 = 8 := eight
      obtain ⟨state, count⟩ := d.takeDigit_eighth x.val eighth
      refine ⟨state, count, ?_⟩
      show (d.takeDigit x.val).check = 0
      simp [Decoder.takeDigit, eighth]
    · exact ih (d := d.takeDigit x.val) last (by omega)

/-- Digits are heard one after another, up to the eighth (R4). -/
theorem hears_digits (l : List (Fin 10)) {s : State} {rest : List Instr}
    (hp : s.pending = l.map (fun d => radio (48 + d.val)) ++ rest) (open_ : l ≠ [] → s.fu.decoder.state = .digits)
    (eight : s.fu.decoder.digits + l.length = 8) :
    ∃ t, Hears l.length s rest { s.fu with decoder := s.fu.decoder.takeDigits l } t := by
  induction l generalizing s with
  | nil => exact ⟨s, fun m => by rw [List.length_nil, Nat.zero_add], hp, rfl, rfl, rfl⟩
  | cons x xs ih =>
    have digits : s.fu.decoder.state = .digits := open_ (List.cons_ne_nil _ _)
    rw [List.length_cons] at eight
    obtain ⟨t, first⟩ := hears_radio (s := s) (n := 48 + x.val) (rest := xs.map (fun d => radio (48 + d.val)) ++ rest)
      (x := { s.fu with decoder := s.fu.decoder.takeDigit x.val }) hp
      (by rw [charClass_digit]; exact radioChar_digits_digit (s := s.setPending (xs.map (fun d => radio (48 + d.val)) ++ rest)) digits x.val)
    obtain ⟨-, -, count⟩ := s.fu.decoder.takeDigit_gathers x.val
    obtain ⟨u, others⟩ := ih (s := t) first.pending
      (fun more => by
        rw [first.fu]
        refine (Decoder.takeDigit_state_of_ne _ _ fun last => more ?_).trans digits
        exact List.length_eq_zero_iff.1 (by omega))
      (by rw [first.fu]; show (s.fu.decoder.takeDigit x.val).digits + _ = 8; omega)
    rw [first.fu] at others
    refine ⟨u, ?_⟩
    rw [List.length_cons, Nat.add_comm]
    exact first.trans others

/-- A check digit's character is heard (R5). -/
theorem hears_check {s : State} {v : Nat} {rest : List Instr} (hv : v < 16) (hp : s.pending = radio (hexChar v) :: rest)
    (hs : s.fu.decoder.state = .check) :
    ∃ t, Hears 1 s rest { s.fu with decoder := s.fu.decoder.takeCheck v } t :=
  hears_radio hp (radioChar_check_hex hs (charClass_hex ⟨v, hv⟩))

/-- The carriage return of a sentence whose check holds (R6, R9). -/
theorem hears_end {s : State} {rest : List Instr} (hp : s.pending = radio 13 :: rest)
    (hs : s.fu.decoder.state = .endMark) (hsum : s.fu.decoder.check = s.fu.decoder.sum % 256) :
    ∃ t, Hears 1 s rest s.accepted t :=
  hears_radio hp (radioChar_end_match (s := s.setPending rest) hs hsum)

/-- The "#" that begins a sentence (R2). -/
theorem hears_hash {s : State} {rest : List Instr} (hp : s.pending = radio 35 :: rest) (hs : s.fu.decoder.state = .hunt) :
    ∃ t, Hears 1 s rest { s.fu with decoder := .started } t :=
  hears_radio hp (radioChar_hunt_hash (s := s.setPending rest) hs)

theorem exec_freshnessTimerExpiry (s : State) :
    exec .freshnessTimerExpiry s = .next (commit .nothing s (s.onExpiry s.fu.freshness State.staleFreq)) := rfl

end Sys2Proof.Machine

namespace Sys2Proof.Proofs

open Sys2Proof.Machine

/-- Settles O4: the accepted sentence's own effect, and what the reactions leave of it. -/
theorem acceptedSentenceSetsFrequency : Obligations.AcceptedSentenceSetsFrequency := by
  intro s hs hsum
  have accepts : s.radioChar (charClass 13 false) = s.setFu s.accepted := radioChar_end_match hs hsum
  refine ⟨_, exec_radioCharacterArrival 13 false s, ?_⟩
  rw [accepts, commit_fu]
  refine ⟨rfl, fun low => by omega, rfl, rfl, rfl, rfl, fun changed => ?_⟩
  exact commit_recent_of_changed .nothing changed

/-- Settles O6: the characters are heard in turn, each by the decoder's move for it. -/
theorem twelveCharactersSetFrequency : Obligations.TwelveCharactersSetFrequency := by
  intro s digits eight hunt hp
  obtain ⟨s1, hash⟩ := hears_hash hp hunt
  have begun : s1.fu.decoder = .started := by rw [hash.fu]
  have nonempty : digits ≠ [] := by
    rintro rfl
    cases eight
  have count : Decoder.started.digits + digits.length = 8 := by rw [eight]; rfl
  obtain ⟨s2, body⟩ := hears_digits digits (s := s1) hash.pending (fun _ => by rw [begun]; rfl) (by rw [begun]; exact count)
  obtain ⟨hz, sum⟩ := Decoder.started.takeDigits_gathers digits
  obtain ⟨check, none, zero⟩ := Decoder.takeDigits_check nonempty count
  have gathered : s2.fu.decoder = Decoder.started.takeDigits digits := by rw [body.fu, begun]
  have low : digitsCheck digits < 256 := Nat.mod_lt _ (by decide)
  obtain ⟨s3, high⟩ := hears_check (by omega) body.pending (by rw [gathered, check])
  have half : s3.fu.decoder = (Decoder.started.takeDigits digits).takeCheck (digitsCheck digits / 16) := by
    rw [high.fu, gathered]
  obtain ⟨s4, both⟩ := hears_check (v := digitsCheck digits % 16) (by omega) high.pending
    (by rw [half]; simp [Decoder.takeCheck, none])
  have whole : s4.fu.decoder =
      ((Decoder.started.takeDigits digits).takeCheck (digitsCheck digits / 16)).takeCheck (digitsCheck digits % 16) := by
    rw [both.fu, half]
  have value : s4.fu.decoder.check = digitsCheck digits := by
    rw [whole]
    show 16 * (16 * (Decoder.started.takeDigits digits).check + _) + _ = _
    rw [zero]
    omega
  have total : s4.fu.decoder.sum % 256 = digitsCheck digits := by
    rw [whole]
    show (Decoder.started.takeDigits digits).sum % 256 = _
    rw [sum]
    rfl
  obtain ⟨s5, done⟩ := hears_end both.pending (by rw [whole]; simp [Decoder.takeCheck, none]) (value.trans total.symm)
  have all := ((hash.trans body).trans high).trans both
  have frequency : s4.fu.decoder.hz = digitsValue digits := by
    rw [whole]
    exact hz
  have errors : s4.fu.sentenceErrors = s.fu.sentenceErrors := by rw [both.fu, high.fu, body.fu, hash.fu]
  have steps : Host.Core.run core 12 s = .next s5 := by
    have := (all.trans done).run 0
    rw [eight] at this
    exact this
  refine ⟨s5, steps, done.pending, ?_⟩
  rw [done.fu]
  unfold State.accepted
  rw [frequency, lookup_congr all.ps, timing_congr all.ps, all.now]
  exact ⟨rfl, rfl, rfl, rfl, errors⟩

/-- Settles O7: F made invalid, and what the reactions leave of it. -/
theorem freshnessExpiryHoldsBand : Obligations.FreshnessExpiryHoldsBand := by
  intro s due hdue
  have expires : s.onExpiry s.fu.freshness State.staleFreq = (s.reach due).staleFreq := by rw [hdue]; rfl
  refine ⟨_, exec_freshnessTimerExpiry s, ?_⟩
  rw [expires]
  refine ⟨commit_now .., commit_fu .., fun valid => ?_, commit_cu .., commit_records ..⟩
  exact commit_recent_of_changed .nothing valid

end Sys2Proof.Proofs

/-! SUPPORT. Power-on, the plan as it is read, and the choice of a number (1.11, 2.1 to 2.8). -/

namespace Sys2Proof.Machine

/-! ### Power-on reset (R15 to R200) -/

/-- The part right after power-on, the sequencer and what is outside the reset apart. -/
def poweredWith (n : Nat) (p : List Instr) (k : KeySeq) : State := { State.reset with choices := n, ks := k, pending := p }

section
variable (n : Nat) (p : List Instr) (k k' : KeySeq)

theorem poweredWith_ctReact : State.ctReact (poweredWith n p k') (poweredWith n p k) = poweredWith n p k := by
  have due : serviceDue (poweredWith n p k') (poweredWith n p k) = false := rfl
  have service : State.serviceReact (poweredWith n p k') (poweredWith n p k) = poweredWith n p k := by
    unfold State.serviceReact
    rw [due]
    rfl
  have auto : State.autoReact (poweredWith n p k') (poweredWith n p k) = poweredWith n p k := rfl
  have gained : State.gainedReact (poweredWith n p k') (poweredWith n p k) = poweredWith n p k := rfl
  have left : State.serviceLeft (poweredWith n p k) (poweredWith n p k) = poweredWith n p k := rfl
  unfold State.ctReact
  rw [service, auto]
  dsimp only
  rw [gained, left]

theorem poweredWith_relayReact : (poweredWith n p k).relayReact = poweredWith n p k := by
  have target : (poweredWith n p k).formTarget = .none := by
    have bare : State.reset.formTarget = .none := reset_formTarget
    exact bare
  have slot (i : Slot) : (poweredWith n p k).slotProgress i = poweredWith n p k := by
    have shrink : (poweredWith n p k).shrinkStep i = poweredWith n p k := by cases i <;> rfl
    have give : (poweredWith n p k).giveStep i = poweredWith n p k := by cases i <;> rfl
    have freeing : (poweredWith n p k).freeingStep i = poweredWith n p k := by cases i <;> rfl
    unfold State.slotProgress
    rw [shrink, give, freeing]
  have progress : (poweredWith n p k).ctProgress = poweredWith n p k := by
    have drive : (poweredWith n p k).driveStep = poweredWith n p k := rfl
    unfold State.ctProgress allSlots
    simp only [List.foldl_cons, List.foldl_nil, drive, slot]
  have still : (poweredWith n p k).moves .none = .none := by
    simp [State.moves, poweredWith, State.reset, RelayDriver.reset, Lines.xor, Lines.and, Lines.none]
  have synced : (poweredWith n p k).rdSync = poweredWith n p k := by
    unfold State.rdSync
    rw [target]
    show (poweredWith n p k).settle = _
    unfold State.settle
    rw [if_neg]
    intro h
    exact h.2 still
  unfold State.relayReact State.relayRound
  rw [progress, synced, progress, synced, progress, synced, progress, synced]

theorem poweredWith_interlockTurn (h : k.state = .receive ∨ k.state = .lockout) :
    (poweredWith n p k).interlockTurn = poweredWith n p k := by
  have told : (poweredWith n p k).sequencerTold = poweredWith n p k := by
    unfold State.sequencerTold
    obtain h | h := h <;> simp [poweredWith, h]
  exact told

theorem poweredWith_remark (b : State) (h : k.state = .receive ∨ k.state = .lockout) :
    State.remark .nothing b (poweredWith n p k) = poweredWith n p k := by
  have off : (poweredWith n p k).ampKey = false := by obtain h | h := h <;> simp [State.ampKey, poweredWith, h]
  simp [State.remark, State.announced, off]
  rfl

/-- No block has anything to do after power-on; the first display record starts (R200). -/
theorem poweredWith_commit (h : k.state = .receive ∨ k.state = .lockout) :
    commit .nothing (poweredWith n p k') (poweredWith n p k) =
      (State.piReact (poweredWith n p k') (poweredWith n p k)).setChoices (n + 1) := by
  have turn (b : Bool) : (poweredWith n p k).turnIf b = poweredWith n p k := by
    unfold State.turnIf
    rw [poweredWith_interlockTurn n p k h, ite_self]
  have start : reactStart .nothing (poweredWith n p k') (poweredWith n p k) = poweredWith n p k := by
    unfold reactStart
    rw [poweredWith_remark n p k _ h]
    rfl
  have settled : reactSettled .nothing (poweredWith n p k') (poweredWith n p k) = poweredWith n p k := by
    unfold reactSettled
    rw [start, turn, poweredWith_ctReact, turn, poweredWith_relayReact]
  have judged : reactJudged .nothing (poweredWith n p k') (poweredWith n p k) = poweredWith n p k := by
    unfold reactJudged
    rw [settled]
    exact poweredWith_interlockTurn n p k h
  have status : State.sgReact (poweredWith n p k') (poweredWith n p k) = poweredWith n p k := rfl
  rw [commit_eq, judged, status]
  rfl

end

theorem powered_eq (s : State) : s.powered = poweredWith s.choices s.pending { KeySeq.reset with ptt := s.ks.ptt } := rfl

/-! ### The plan's values (R18, R19) -/

theorem getElem?_map_range {α : Type} (f : Nat → α) {n k : Nat} (h : k < n) : ((List.range n).map f)[k]? = some (f k) := by
  rw [List.getElem?_map, List.getElem?_range h]
  rfl

/-! ### Stack groups (R21) -/

/-- A stored group, given the antennas of the enabled groups before it (R21, 13.2). -/
def storedGroup (l : List Byte) (antennas : List AntennaEntry) (at_ : Nat) (used : List Antenna) : GroupEntry :=
  { enabled := groupEnabled antennas used (byteAt l at_) (byteAt l (at_ + 1)) (byteAt l (at_ + 2)) (byteAt l (at_ + 3)),
    port := byteAt l at_, m1 := byteAt l (at_ + 1), m2 := byteAt l (at_ + 2), m3 := byteAt l (at_ + 3),
    mask := defaultMask ((l.getD (at_ + 4) 0).truncate 3) (byteAt l (at_ + 3)) }

/-- The numbers a group names. -/
def GroupEntry.named (g : GroupEntry) : List Antenna := [g.port, g.m1, g.m2, g.m3]

/-- The antennas in use once some groups have been read. -/
def usedAfter (gs : List GroupEntry) (used : List Antenna) : List Antenna :=
  gs.foldl (fun used g => if g.enabled then g.port :: g.m1 :: g.m2 :: g.m3 :: used else used) used

theorem mem_usedAfter (gs : List GroupEntry) (used : List Antenna) (a : Antenna) :
    a ∈ usedAfter gs used ↔ a ∈ used ∨ ∃ g ∈ gs, g.enabled = true ∧ a ∈ g.named := by
  induction gs generalizing used with
  | nil => simp [usedAfter]
  | cons g gs ih =>
    show a ∈ usedAfter gs _ ↔ _
    rw [ih]
    by_cases he : g.enabled = true
    · simp only [he, if_true, List.mem_cons, exists_eq_or_imp, GroupEntry.named]
      grind
    · simp [he]

theorem readGroups_getElem? (l : List Byte) (antennas : List AntennaEntry) (offs : List Nat) (used : List Antenna)
    (k : Nat) :
    (readGroups l antennas offs used)[k]? =
      offs[k]?.map (fun at_ => storedGroup l antennas at_ (usedAfter ((readGroups l antennas offs used).take k) used)) := by
  induction offs generalizing used k with
  | nil => simp [readGroups]
  | cons at_ rest ih =>
    cases k with
    | zero => rfl
    | succ k =>
      show (readGroups l antennas rest _)[k]? = _
      rw [ih]
      rfl

/-- When a stored group is enabled: the conditions that would disable it, one by one (R21). -/
theorem groupEnabled_iff (antennas : List AntennaEntry) (used : List Antenna) (port m1 m2 m3 : Nat) :
    groupEnabled antennas used port m1 m2 m3 = true ↔ 1 ≤ port ∧ port ≤ 32 ∧ kindIn antennas port = .stackPort ∧
      1 ≤ m1 ∧ m1 ≤ 32 ∧ 1 ≤ m2 ∧ m2 ≤ 32 ∧ m3 ≤ 32 ∧ kindIn antennas m1 = .member ∧ kindIn antennas m2 = .member ∧
      (m3 ≠ 0 → kindIn antennas m3 = .member) ∧ m1 ≠ m2 ∧ m1 ≠ m3 ∧ m2 ≠ m3 ∧ port ∉ [m1, m2, m3] ∧
      ∀ a, a ≠ 0 → a ∈ [port, m1, m2, m3] → a ∉ used := by
  unfold groupEnabled
  by_cases third : m3 = 0
  · subst third
    simp
    grind
  · simp [third]
    grind

theorem defaultMask_ne_zero (stored : Mask) (m3 : Nat) :
    defaultMask stored m3 ≠ 0 ∧ defaultMask stored m3 &&& ~~~(if m3 = 0 then 6 else 7 : Mask) = 0 := by
  unfold defaultMask
  by_cases third : m3 = 0
  · simp only [third, if_true]
    revert stored
    decide
  · simp only [third, if_false]
    revert stored
    decide

/-- The groups of a plan stand at their offsets (13.2). -/
theorem plan_groups_getElem? (l : List Byte) (k : Nat) :
    (readPlan l).groups[k]? = if k < 4 then
      some (storedGroup l (readPlan l).antennas (308 + 5 * k) (usedAfter ((readPlan l).groups.take k) [])) else none := by
  show (readGroups l _ [308, 313, 318, 323] [])[k]? = _
  rw [readGroups_getElem?]
  split
  next h =>
    have place : [308, 313, 318, 323][k]? = some (308 + 5 * k) := by
      have : k = 0 ∨ k = 1 ∨ k = 2 ∨ k = 3 := by omega
      obtain rfl | rfl | rfl | rfl := this <;> rfl
    rw [place]
    rfl
  next h =>
    rw [List.getElem?_eq_none (by simp; omega)]
    rfl

/-! ### Choosing a number (R27) -/

theorem numberFree_iff (s : State) (p : Position) : s.numberFree p = true ↔ s.pt.find p = none ∧ p ∉ s.jc.failed := by
  simp [State.numberFree]

theorem chooseFrom_eq_some (s : State) (n p : Position) :
    s.chooseFrom n = some p ↔ ∃ k < 16, p = n + BitVec.ofNat 4 k ∧ s.numberFree p = true ∧
      ∀ j < k, s.numberFree (n + BitVec.ofNat 4 j) = false := by
  unfold State.chooseFrom
  rw [List.find?_map, Option.map_eq_some_iff]
  simp only [List.find?_range_eq_some, Function.comp, List.mem_range, Bool.not_eq_true']
  constructor
  · rintro ⟨k, ⟨free, low, first⟩, rfl⟩
    exact ⟨k, low, rfl, free, first⟩
  · rintro ⟨k, low, rfl, free, first⟩
    exact ⟨k, ⟨free, low, first⟩, rfl⟩

theorem chooseFrom_eq_none (s : State) (n : Position) : s.chooseFrom n = none ↔ ∀ p, s.numberFree p = false := by
  unfold State.chooseFrom
  rw [List.find?_map, Option.map_eq_none_iff]
  simp only [List.find?_range_eq_none, Function.comp, Bool.not_eq_true']
  constructor
  · intro h p
    have back : n + BitVec.ofNat 4 (p - n).toNat = p := by
      rw [BitVec.ofNat_toNat, BitVec.setWidth_eq, add_sub_cancel]
    have := h (p - n).toNat (p - n).isLt
    rwa [back] at this
  · exact fun h k _ => h _

/-! ### The end of LOAD (R24, R25) -/

theorem removePeer_frame (s : State) (p : Position) : (s.removePeer p).now = s.now ∧ (s.removePeer p).jc = s.jc := by
  unfold State.removePeer
  split <;> exact ⟨rfl, rfl⟩

theorem recordExpires_frame {s : State} (p : Position) (h : s.jc.state ≠ .unnumbered) :
    (s.recordExpires p).now = s.now ∧ (s.recordExpires p).jc = s.jc := by
  obtain ⟨now, jc⟩ := removePeer_frame s p
  have gone : (s.expirePeer p).numberFreed p = s.expirePeer p := by
    unfold State.numberFreed
    rw [if_neg]
    show (s.removePeer p).jc.state ≠ _
    rwa [jc]
  unfold State.recordExpires
  rw [gone]
  exact ⟨now, jc⟩

/-- Records that go as the plan comes into force leave the clock and a joined part alone (R69). -/
theorem sweepUnknown_frame {s : State} (h : s.jc.state ≠ .unnumbered) :
    s.sweepUnknown.now = s.now ∧ s.sweepUnknown.jc = s.jc := by
  unfold State.sweepUnknown
  refine List.foldlRecOn (motive := fun (t : State) => t.now = s.now ∧ t.jc = s.jc) _ _ ⟨rfl, rfl⟩ fun t ht r _ => ?_
  obtain ⟨now, jc⟩ := ht
  split
  · exact ⟨now, jc⟩
  · dsimp only
    split
    · obtain ⟨now', jc'⟩ := recordExpires_frame (s := t.putPeer { r with entries := expireEntries t.now (t.peerLimit r) r.entries })
        r.pos (by show t.jc.state ≠ _; rwa [jc])
      exact ⟨now'.trans now, jc'.trans jc⟩
    · exact ⟨now, jc⟩

theorem exec_planReadEnd (bytes : List Byte) (s : State) :
    exec (.planReadEnd bytes) s = .next (commit .nothing s (if s.jc.state = .load then s.loadEnds bytes else s)) := rfl

/-- A plan whose check fails: the sections are stored and the part is UNPLANNED (R25). -/
theorem loadEnds_unplanned {bytes : List Byte} (s : State) (h : planOk bytes = false) :
    s.loadEnds bytes = (s.setPs (storeAfterRead bytes)).setJc { s.jc with state := .unplanned } := by
  unfold State.loadEnds
  simp [storeAfterRead, h]

/-- A valid plan comes into force: the lookup of b repeated, LISTEN entered, the view judged by it (R14, R24, R69, R77). -/
theorem loadEnds_planned {bytes : List Byte} (s : State) (h : planOk bytes = true) :
    s.loadEnds bytes = (s.setPs (storeAfterRead bytes)).lookupAgain.enterListen.recomputeMismatch.sweepUnknown := by
  unfold State.loadEnds
  simp [storeAfterRead, h]

theorem lookupAgain_eq (s : State) :
    ∃ b, s.lookupAgain = s.setFu { s.fu with band := b } ∧ ∀ f, s.fu.freq = some f → b = s.lookup f := by
  unfold State.lookupAgain
  cases hf : s.fu.freq with
  | none => exact ⟨s.fu.band, rfl, nofun⟩
  | some f => exact ⟨s.lookup f, rfl, fun g e => by cases e; rfl⟩

end Sys2Proof.Machine

namespace Sys2Proof.Proofs

open Sys2Proof.Machine

/-- Settles O8: the reset's own effect; no block has anything to do after it, and the first record starts. -/
theorem powerOnResetRestoresBlocks : Obligations.PowerOnResetRestoresBlocks := by
  intro s
  refine ⟨_, exec_powerOnReset s, ?_⟩
  have whole : s.powered.setKs (pressedAtLoad s) = poweredWith s.choices s.pending (pressedAtLoad s) := rfl
  rw [whole, powered_eq, poweredWith_commit _ _ _ _ (pressedAtLoad_state s)]
  refine ⟨rfl, rfl, rfl, rfl, rfl, rfl, rfl, rfl, rfl, rfl, rfl, rfl, rfl, rfl, rfl, fun released => ?_, fun pressed => ?_, rfl⟩
  · show pressedAtLoad s = _
    unfold pressedAtLoad
    simp [released]
  · show (pressedAtLoad s).state = _ ∧ (pressedAtLoad s).lockout = _ ∧ (pressedAtLoad s).refusals = _
    unfold pressedAtLoad
    simp [pressed]

/-- Settles O9: both sections' checks, and the end of LOAD for a valid and for an invalid plan. -/
theorem planReadEndTakesSections : Obligations.PlanReadEndTakesSections := by
  intro bytes s load
  have unit : unitOk bytes = true ↔ 519 ≤ bytes.length ∧ crcBytes (bytes.take 3) = bytes.getD 3 0 := by
    simp [unitOk, readWhole]
  have plan : planOk bytes = true ↔ 519 ≤ bytes.length ∧ crcBytes ((bytes.drop 4).take 514) = bytes.getD 518 0 := by
    simp [planOk, readWhole, planCrc]
  have stored : (s.loadEnds bytes).ps = storeAfterRead bytes := by
    cases valid : planOk bytes with
    | false => rw [loadEnds_unplanned s valid]; rfl
    | true =>
      rw [loadEnds_planned s valid]
      obtain ⟨b, again, -⟩ := lookupAgain_eq (s.setPs (storeAfterRead bytes))
      rw [again]
      exact sweepUnknown_same _ .ps (by decide)
  refine ⟨_, exec_planReadEnd bytes s, ?_⟩
  rw [if_pos load, commit_planStore, stored]
  refine ⟨?_, ?_⟩
  · split
    next h =>
      have ok := unit.2 h
      refine ⟨by simp [storeAfterRead, ok], by simp [storeAfterRead, ok, bitAt], ?_⟩
      have low := (bytes.getD 1 0).isLt
      have lower := (bytes.getD 2 0).isLt
      simp only [storeAfterRead, ok, if_true, word16At, byteAt, BitVec.toNat_ofNat, Nat.reduceAdd]
      omega
    next h =>
      have fails : unitOk bytes = false := Bool.eq_false_iff.2 fun ok => h (unit.1 ok)
      simp [storeAfterRead, fails]
  · split
    next h =>
      have ok := plan.2 h
      obtain ⟨b, again, band⟩ := lookupAgain_eq (s.setPs (storeAfterRead bytes))
      have effect := loadEnds_planned s ok
      rw [again] at effect
      have jc : (s.loadEnds bytes).jc = (s.setPs (storeAfterRead bytes)).enterListen.jc := by
        rw [effect]
        exact (sweepUnknown_frame (by show JoinState.listen ≠ .unnumbered; decide)).2
      have fu : (s.loadEnds bytes).fu = { s.fu with band := b } := by
        rw [effect]
        exact sweepUnknown_same _ .fu (by decide)
      have period : (s.loadEnds bytes).period = (s.setPs (storeAfterRead bytes)).period := by
        simp only [State.period, State.timing, stored, State.setPs_ps]
      refine ⟨by simp [storeAfterRead, ok], ?_, by simp [storeAfterRead, ok], ?_, ?_, ?_, fun f hf => ?_⟩
      · simp [storeAfterRead, ok, h.2, planCrc]
      · rw [commit_joinState, jc]; rfl
      · rw [commit_attempts, jc]; rfl
      · rw [commit_listenTimer, commit_period, period, jc]; rfl
      · rw [commit_fu, fu, lookup_congr (s := s.setPs (storeAfterRead bytes)) ((commit_planStore ..).trans stored)]
        exact band f hf
    next h =>
      have fails : planOk bytes = false := Bool.eq_false_iff.2 fun ok => h (plan.1 ok)
      refine ⟨by simp [storeAfterRead, fails], by simp [storeAfterRead, fails], by simp [storeAfterRead, fails], ?_, ?_⟩
      · rw [commit_joinState, loadEnds_unplanned s fails]; rfl
      · rw [commit_fu, loadEnds_unplanned s fails]; rfl

/-- Settles O10: each stored value at its place, clamped. -/
theorem planValuesBroughtIntoRange : Obligations.PlanValuesBroughtIntoRange := by
  intro bytes
  have inOrder : (readPlan bytes).timing.wMin ≤ (readPlan bytes).timing.wMax := le_max_left _ _
  have low : (readPlan bytes).timing.wMin ≤ 500 := by
    show max 10 (min 100 (byteAt bytes 512)) ≤ 500
    omega
  refine ⟨rfl, inOrder, max_le low (min_le_left _ _), fun k hk => ?_, fun k hk => ?_, fun p hp b hb => ?_, rfl, rfl, rfl, rfl⟩
  · show ((List.range 10).map (fun i => readBandEntry bytes (4 + 8 * i)))[k]? = _
    rw [getElem?_map_range _ hk, Nat.add_comm 4]
    rfl
  · refine ⟨readAntennaEntry bytes (84 + 7 * k), getElem?_map_range (fun i => readAntennaEntry bytes (84 + 7 * i)) hk, ?_⟩
    rw [Nat.add_comm 84]
    rfl
  · refine ⟨readRow bytes (330 + 11 * p), getElem?_map_range (fun i => readRow bytes (330 + 11 * i)) hp, ?_⟩
    have place : 330 + 11 * p + 1 + b = 11 * p + b + 331 := by omega
    have entry := getElem?_map_range
      (fun i => if byteAt bytes (330 + 11 * p + 1 + i) ≤ 32 then byteAt bytes (330 + 11 * p + 1 + i) else 0) hb
    rw [place] at entry
    exact entry

/-- Settles O11: each group at its place, enabled by `groupEnabled_iff` over the groups before it. -/
theorem enabledGroupsAreDisjoint : Obligations.EnabledGroupsAreDisjoint := by
  intro bytes
  have before (k : Nat) (a : Antenna) : a ∈ usedAfter ((readPlan bytes).groups.take k) [] ↔
      ∃ (j : Nat) (h : GroupEntry), j < k ∧ (readPlan bytes).groups[j]? = some h ∧ h.enabled = true ∧ a ∈ h.named := by
    rw [mem_usedAfter]
    constructor
    · rintro (none | ⟨h, taken, on, mem⟩)
      · cases none
      · obtain ⟨j, e⟩ := List.mem_iff_getElem?.1 taken
        rw [List.getElem?_take] at e
        split at e
        next low => exact ⟨j, h, low, e, on, mem⟩
        next => cases e
    · rintro ⟨j, h, low, e, on, mem⟩
      exact .inr ⟨h, List.mem_iff_getElem?.2 ⟨j, by rw [List.getElem?_take, if_pos low]; exact e⟩, on, mem⟩
  have groups (k : Nat) (g : GroupEntry) (hg : (readPlan bytes).groups[k]? = some g) :
      g = storedGroup bytes (readPlan bytes).antennas (308 + 5 * k) (usedAfter ((readPlan bytes).groups.take k) []) := by
    rw [plan_groups_getElem?] at hg
    split at hg
    · exact (Option.some.inj hg).symm
    · cases hg
  have enabled (k : Nat) (g : GroupEntry) (hg : (readPlan bytes).groups[k]? = some g) : g.enabled = true ↔
      1 ≤ g.port ∧ g.port ≤ 32 ∧ kindIn (readPlan bytes).antennas g.port = .stackPort ∧
        1 ≤ g.m1 ∧ g.m1 ≤ 32 ∧ 1 ≤ g.m2 ∧ g.m2 ≤ 32 ∧ g.m3 ≤ 32 ∧
        kindIn (readPlan bytes).antennas g.m1 = .member ∧ kindIn (readPlan bytes).antennas g.m2 = .member ∧
        (g.m3 ≠ 0 → kindIn (readPlan bytes).antennas g.m3 = .member) ∧
        g.m1 ≠ g.m2 ∧ g.m1 ≠ g.m3 ∧ g.m2 ≠ g.m3 ∧ g.port ∉ [g.m1, g.m2, g.m3] ∧
        ∀ (j : Nat) (h : GroupEntry), j < k → (readPlan bytes).groups[j]? = some h → h.enabled = true →
          ∀ a, a ≠ 0 → a ∈ [g.port, g.m1, g.m2, g.m3] → a ∉ [h.port, h.m1, h.m2, h.m3] := by
    have known := groups k g hg
    have iff := groupEnabled_iff (readPlan bytes).antennas (usedAfter ((readPlan bytes).groups.take k) []) g.port g.m1 g.m2 g.m3
    have same : g.enabled = groupEnabled (readPlan bytes).antennas (usedAfter ((readPlan bytes).groups.take k) []) g.port
        g.m1 g.m2 g.m3 := by
      rw [known]
      rfl
    rw [same, iff]
    have clear : (∀ a, a ≠ 0 → a ∈ [g.port, g.m1, g.m2, g.m3] → a ∉ usedAfter ((readPlan bytes).groups.take k) []) ↔
        ∀ (j : Nat) (h : GroupEntry), j < k → (readPlan bytes).groups[j]? = some h → h.enabled = true →
          ∀ a, a ≠ 0 → a ∈ [g.port, g.m1, g.m2, g.m3] → a ∉ [h.port, h.m1, h.m2, h.m3] := by
      simp only [before]
      constructor
      · exact fun free j h low e on a ne mem inside => free a ne mem ⟨j, h, low, e, on, inside⟩
      · rintro free a ne mem ⟨j, h, low, e, on, inside⟩
        exact free j h low e on a ne mem inside
    rw [clear]
  have mask (k : Nat) (g : GroupEntry) (hg : (readPlan bytes).groups[k]? = some g) :
      g.mask = defaultMask ((bytes.getD (312 + 5 * k) 0).truncate 3) g.m3 := by
    have place : 308 + 5 * k + 4 = 312 + 5 * k := by omega
    rw [groups k g hg, ← place]
    rfl
  refine ⟨fun g mem on => ?_, ?_, rfl, fun k g hg => ?_⟩
  · obtain ⟨k, hk⟩ := List.mem_iff_getElem?.1 mem
    obtain ⟨p1, p2, p3, -, -, -, -, -, k1, k2, k3, d1, d2, d3, -⟩ := (enabled k g hk).1 on
    obtain ⟨some, inside⟩ := defaultMask_ne_zero ((bytes.getD (312 + 5 * k) 0).truncate 3) g.m3
    rw [← mask k g hk] at some inside
    exact ⟨p1, p2, p3, k1, k2, k3, d1, d2, d3, some, inside⟩
  · rw [List.pairwise_iff_getElem]
    intro i j hi hj lt oni onj a ne mem inside
    obtain ⟨-, -, -, -, -, -, -, -, -, -, -, -, -, -, -, free⟩ := (enabled j _ (List.getElem?_eq_getElem hj)).1 onj
    exact free i _ lt (List.getElem?_eq_getElem hi) oni a ne inside mem
  · have places : 308 + 5 * k + 1 = 309 + 5 * k ∧ 308 + 5 * k + 2 = 310 + 5 * k ∧ 308 + 5 * k + 3 = 311 + 5 * k := by omega
    obtain ⟨second, third, fourth⟩ := places
    have known := groups k g hg
    refine ⟨by rw [known]; rfl, by rw [known, ← second]; rfl, by rw [known, ← third]; rfl, by rw [known, ← fourth]; rfl,
      fun stored present es ep => ?_, enabled k g hg⟩
    have bits : (bytes.getD (312 + 5 * k) 0).truncate 3 = stored := by
      rw [es]
      apply BitVec.eq_of_toNat_eq
      simp
    rw [mask k g hg, bits, ep]
    rfl

/-- Settles O12: the search upward from n, over all sixteen numbers. -/
theorem numberChoiceTakesFirstFree : Obligations.NumberChoiceTakesFirstFree := by
  intro s n
  have taken (p : Position) : s.numberFree p = false ↔ s.pt.find p ≠ none ∨ p ∈ s.jc.failed := by
    rw [Bool.eq_false_iff, ne_eq, numberFree_iff]
    grind
  refine ⟨fun p => ?_, ?_⟩
  · simp only [chooseFrom_eq_some, numberFree_iff, taken, and_assoc]
  · simp only [chooseFrom_eq_none, taken]

end Sys2Proof.Proofs

/-! SUPPORT. What the reactions to an event leave of the slots: holds and candidates stay, and none comes but by a service
pass, auto-select or the self-drop limit (Chapters 6 and 7). -/

namespace Sys2Proof.Machine

/-! ### One slot's record -/

/-- A slot's record keeps its candidate, gains no hold, and gains no candidate but a QUEUED one. -/
structure RecordStays (r r' : SlotRecord) : Prop where
  noHold : ∀ h', r'.held = some h' → ∃ h, r.held = some h ∧ h.antenna = h'.antenna
  cand : ∀ c, r.cand = some c → ∃ c', r'.cand = some c' ∧ c' = { c with lastAssert := c'.lastAssert } ∧
    ((∀ h, r.held = some h → h.antenna ≠ c.antenna) → c'.lastAssert = c.lastAssert)
  noCand : ∀ c', r'.cand = some c' → (∃ c, r.cand = some c ∧ c.phase = c'.phase) ∨ c'.phase = .queued
  freeing : r.held = none → r.freeing = [] → r'.freeing = []

/-- A hold with no shrink and no give pending stays as it is, its drive mask and its pacing apart. -/
def HoldStays (r r' : SlotRecord) : Prop :=
  ∀ h, r.held = some h → h.shrink = none → h.give = none →
    ∃ h', r'.held = some h' ∧ h' = { h with drive := h'.drive, lastAssert := h'.lastAssert }

theorem RecordStays.refl (r : SlotRecord) : RecordStays r r where
  noHold h e := ⟨h, e, rfl⟩
  cand c e := ⟨c, e, rfl, fun _ => rfl⟩
  noCand c e := .inl ⟨c, e, rfl⟩
  freeing _ e := e

theorem RecordStays.trans {r s t : SlotRecord} (a : RecordStays r s) (b : RecordStays s t) : RecordStays r t where
  noHold h e := by
    obtain ⟨k, ek, same⟩ := b.noHold h e
    obtain ⟨l, el, same'⟩ := a.noHold k ek
    exact ⟨l, el, same'.trans same⟩
  cand c e := by
    obtain ⟨d, ed, eq, pace⟩ := a.cand c e
    obtain ⟨x, ex, eq', pace'⟩ := b.cand d ed
    have antenna : d.antenna = c.antenna := by rw [eq]
    refine ⟨x, ex, by rw [eq', eq], fun other => ?_⟩
    refine (pace' fun h eh => ?_).trans (pace other)
    obtain ⟨k, ek, same⟩ := a.noHold h eh
    rw [antenna, ← same]
    exact other k ek
  noCand c e := by
    obtain ⟨d, ed, same⟩ | queued := b.noCand c e
    · obtain ⟨x, ex, same'⟩ | queued := a.noCand d ed
      · exact .inl ⟨x, ex, same'.trans same⟩
      · exact .inr (same.symm.trans queued)
    · exact .inr queued
  freeing none empty := b.freeing (by
    cases hs : s.held with
    | none => rfl
    | some h =>
      obtain ⟨k, ek, -⟩ := a.noHold h hs
      rw [none] at ek
      cases ek) (a.freeing none empty)

theorem HoldStays.trans {r s t : SlotRecord} (a : HoldStays r s) (b : HoldStays s t) : HoldStays r t := by
  intro h e shrink give
  obtain ⟨k, ek, eq⟩ := a h e shrink give
  have shrink' : k.shrink = none := by rw [eq]; exact shrink
  have give' : k.give = none := by rw [eq]; exact give
  obtain ⟨l, el, eq'⟩ := b k ek shrink' give'
  exact ⟨l, el, by rw [eq', eq]⟩

/-! ### The four slots -/

/-- Every slot's record stays, its hold where it is settled. -/
def SlotsStay (s t : State) : Prop := ∀ i, RecordStays (s.slot i) (t.slot i) ∧ HoldStays (s.slot i) (t.slot i)

theorem SlotsStay.of_slots {s t : State} (h : t.ct.slots = s.ct.slots) : SlotsStay s t := fun i => by
  rw [slot_congr h]
  exact ⟨.refl _, fun h e _ _ => ⟨h, e, rfl⟩⟩

theorem SlotsStay.refl (s : State) : SlotsStay s s := .of_slots rfl

theorem SlotsStay.trans {s t u : State} (a : SlotsStay s t) (b : SlotsStay t u) : SlotsStay s u :=
  fun i => ⟨(a i).1.trans (b i).1, (a i).2.trans (b i).2⟩

theorem SlotsStay.of_ct {s t : State} (h : t.ct = s.ct) : SlotsStay s t := .of_slots (congrArg _ h)

theorem SlotsStay.of_setSlot (s : State) {i : Slot} {r : SlotRecord} (record : RecordStays (s.slot i) r)
    (hold : HoldStays (s.slot i) r) : SlotsStay s (s.setSlot i r) := fun j => by
  by_cases hj : j = i
  · subst hj
    rw [slot_setSlot_self]
    exact ⟨record, hold⟩
  · rw [slot_setSlot_ne _ _ hj]
    exact SlotsStay.refl s j

theorem foldl_slotsStay {α : Type} (f : State → α → State) (h : ∀ s x, SlotsStay s (f s x)) (l : List α) (s : State) :
    SlotsStay s (l.foldl f s) := by
  induction l generalizing s with
  | nil => exact .refl s
  | cons x xs ih => exact (h s x).trans (ih _)

/-! ### The Claim Table's waits for the lines (R110, R123, R129) -/

theorem paced_stays {r : SlotRecord} {a : Antenna} (n : Nat) (held : ∃ h, r.held = some h ∧ h.antenna = a) :
    RecordStays r (r.paced a n) ∧ HoldStays r (r.paced a n) := by
  obtain ⟨h, hh, ha⟩ := held
  refine ⟨⟨fun h' e => ⟨h, hh, ?_⟩, fun c hc => ?_, fun c' e => .inl ?_, fun n _ => ?_⟩, fun k hk _ _ => ?_⟩
  · simp only [SlotRecord.paced, hh, Option.map_some, Option.some.injEq] at e
    rw [← e]
    split <;> rfl
  · refine ⟨if c.antenna = a then { c with lastAssert := some n } else c, by simp [SlotRecord.paced, hc], ?_, fun other => ?_⟩
    · split <;> rfl
    · rw [if_neg (fun e => other h hh (ha.trans e.symm))]
  · obtain ⟨c, hc, e⟩ := Option.map_eq_some_iff.1 e
    refine ⟨c, hc, ?_⟩
    rw [← e]
    split <;> rfl
  · rw [hh] at n
    cases n
  · refine ⟨if k.antenna = a then { k with lastAssert := some n } else k, by simp [SlotRecord.paced, hk], ?_⟩
    split <;> rfl

theorem offerAssert_slotsStay {s : State} {i : Slot} {a : Antenna} (m : Mask) (t : Nat)
    (held : ∃ h, (s.slot i).held = some h ∧ h.antenna = a) : SlotsStay s (s.offerAssert i a m t) := by
  unfold State.offerAssert
  dsimp only
  have offered := offer_slot s (s.claimFrame i a m true t) i
  split
  · exact .of_ct (offer_ct _ _)
  · obtain ⟨record, hold⟩ := paced_stays (s.offer (s.claimFrame i a m true t)).1.now
      (show ∃ h, ((s.offer (s.claimFrame i a m true t)).1.slot i).held = some h ∧ h.antenna = a by rwa [offered])
    exact (SlotsStay.of_ct (offer_ct _ _)).trans (.of_setSlot _ record hold)

/-- A hold that is not settled may be reshaped or go; all else of its slot stays. -/
theorem unsettled_stays {r r' : SlotRecord} {h : HeldPart} (hold : r.held = some h)
    (busy : h.shrink.isSome = true ∨ h.give.isSome = true)
    (held : ∀ h', r'.held = some h' → h'.antenna = h.antenna) (cand : r'.cand = r.cand) :
    RecordStays r r' ∧ HoldStays r r' := by
  refine ⟨⟨fun h' e => ⟨h, hold, (held h' e).symm⟩, fun c e => ⟨c, cand.trans e, rfl, fun _ => rfl⟩,
    fun c e => .inl ⟨c, cand.symm.trans e, rfl⟩, fun n _ => ?_⟩, fun k e shrink give => ?_⟩
  · rw [hold] at n
    cases n
  · rw [hold] at e
    cases e
    rw [shrink, give] at busy
    simp at busy

theorem driveStep_slotsStay (s : State) : SlotsStay s s.driveStep := by
  unfold State.driveStep
  split
  next h hh =>
    split
    · exact .refl s
    · refine .of_setSlot s ⟨fun h' e => ⟨h, hh, ?_⟩, fun c e => ⟨c, e, rfl, fun _ => rfl⟩, fun c e => .inl ⟨c, e, rfl⟩,
        fun n _ => ?_⟩ fun k hk _ _ => ?_
      · cases e
        rfl
      · rw [hh] at n
        cases n
      · rw [hh] at hk
        cases hk
        exact ⟨_, rfl, rfl⟩
  next => exact .refl s

theorem releaseParts_ct (i : Slot) (l : List FreeingPart) (s : State) : (s.releaseParts i l).1.ct = s.ct := by
  have done (s : State) (p : FreeingPart) : (s.givingPartDone p).ct = s.ct := by
    unfold State.givingPartDone
    split
    · exact givingDone_ct _ _ _
    · rfl
  induction l generalizing s with
  | nil => rfl
  | cons p ps ih =>
    unfold State.releaseParts
    split
    · exact ih s
    · dsimp only
      split
      · rw [ih, done, offerRelease_ct]
      · rw [ih, offerRelease_ct]

theorem freeingStep_slot (s : State) (i : Slot) :
    (s.freeingStep i).slot i = { s.slot i with freeing := (s.releaseParts i (s.slot i).freeing).2 } ∧
      ∀ j, j ≠ i → (s.freeingStep i).slot j = s.slot j := by
  have parts (j : Slot) : (s.releaseParts i (s.slot i).freeing).1.slot j = s.slot j :=
    slot_congr (congrArg _ (releaseParts_ct i _ s)) j
  unfold State.freeingStep
  dsimp only
  refine ⟨?_, fun j hj => ?_⟩
  · rw [slot_setSlot_self, parts]
  · rw [slot_setSlot_ne _ _ hj, parts]

theorem freeingStep_slotsStay (s : State) (i : Slot) : SlotsStay s (s.freeingStep i) := fun j => by
  obtain ⟨self, others⟩ := freeingStep_slot s i
  by_cases hj : j = i
  · subst hj
    rw [self]
    refine ⟨⟨fun h e => ⟨h, e, rfl⟩, fun c e => ⟨c, e, rfl, fun _ => rfl⟩, fun c e => .inl ⟨c, e, rfl⟩, fun _ empty => ?_⟩,
      fun h e _ _ => ⟨h, e, rfl⟩⟩
    rw [empty]
    rfl
  · rw [others j hj]
    exact SlotsStay.refl s j

theorem giveMember_slot (s : State) (i : Slot) (a : Antenna) (p : Position) :
    ((s.giveMember i a p).slot i).cand = (s.slot i).cand ∧
      (∀ h', ((s.giveMember i a p).slot i).held = some h' → ∃ h, (s.slot i).held = some h ∧ h.antenna = h'.antenna) ∧
      ∀ j, j ≠ i → (s.giveMember i a p).slot j = s.slot j := by
  unfold State.giveMember
  split
  next none => exact ⟨rfl, fun h' e => ⟨h', e, rfl⟩, fun _ _ => rfl⟩
  next h hh =>
    dsimp only
    split
    · have same := slot_congr (congrArg ClaimTable.slots (givingDone_ct s p [a]))
      simp only [same]
      exact ⟨trivial, fun h' e => ⟨h', e, rfl⟩, fun _ _ => trivial⟩
    · split
      · rw [freeHold_slot_self]
        exact ⟨rfl, nofun, fun j hj => freeHold_slot_ne _ _ _ hj⟩
      · split
        · rw [slot_setSlot_self]
          exact ⟨rfl, fun h' e => ⟨h, hh, by cases e; rfl⟩, fun j hj => slot_setSlot_ne _ _ hj⟩
        · rw [slot_setSlot_self]
          exact ⟨rfl, fun h' e => ⟨h, hh, by cases e; rfl⟩, fun j hj => slot_setSlot_ne _ _ hj⟩

theorem giveStep_slotsStay (s : State) (i : Slot) : SlotsStay s (s.giveStep i) := by
  unfold State.giveStep
  split
  next h hh =>
    split
    next a y hg =>
      split
      · obtain ⟨cand, held, others⟩ :=
          giveMember_slot (s.setSlot i { s.slot i with held := some { h with give := none } }) i a y
        rw [slot_setSlot_self] at cand held
        intro j
        by_cases hj : j = i
        · subst hj
          refine unsettled_stays hh (.inr (by rw [hg]; rfl)) (fun h' e => ?_) cand
          obtain ⟨k, ek, same⟩ := held h' e
          cases ek
          exact same.symm
        · rw [others j hj, slot_setSlot_ne _ _ hj]
          exact SlotsStay.refl s j
      · exact .refl s
    · exact .refl s
  next => exact .refl s

theorem offerReleases_ct (i : Slot) (y : Position) (l : List Antenna) (s : State) :
    (l.foldl (fun s a =>
      let r := s.offerRelease i a .yielded (some y)
      if r.2 = .refused then r.1.givingDone y [a] else r.1) s).ct = s.ct := by
  induction l generalizing s with
  | nil => rfl
  | cons a as ih =>
    rw [List.foldl_cons, ih]
    dsimp only
    split
    · rw [givingDone_ct, offerRelease_ct]
    · exact offerRelease_ct _ _ _ _ _

/-- A shrink's step 3: the held mask changes, and the peers are told (R123). -/
theorem shrinkStep_slotsStay (s : State) (i : Slot) : SlotsStay s (s.shrinkStep i) := by
  unfold State.shrinkStep
  split
  next h hh =>
    split
    next x hx =>
      split
      · have reshaped : SlotsStay s (s.setSlot i { s.slot i with held := some { h with mask := x.mask, shrink := none } }) := by
          obtain ⟨record, hold⟩ := unsettled_stays (r' := { s.slot i with held := some { h with mask := x.mask, shrink := none } })
            hh (.inl (by rw [hx]; rfl)) (fun h' e => by cases e; rfl) rfl
          exact .of_setSlot s record hold
        dsimp only
        split
        · refine reshaped.trans (offerAssert_slotsStay _ _ ⟨{ h with mask := x.mask, shrink := none }, ?_, rfl⟩)
          rw [slot_setSlot_self]
        · exact reshaped.trans (.of_ct (offerReleases_ct i _ _ _))
      · exact .refl s
    · exact .refl s
  next => exact .refl s

theorem ctProgress_slotsStay (s : State) : SlotsStay s s.ctProgress :=
  (driveStep_slotsStay s).trans (foldl_slotsStay _ (fun s i =>
    ((shrinkStep_slotsStay s i).trans (giveStep_slotsStay _ i)).trans (freeingStep_slotsStay _ i)) _ _)

theorem rdSync_ct (s : State) : s.rdSync.ct = s.ct := by
  unfold State.rdSync State.settle
  split <;> rfl

theorem relayReact_slotsStay (s : State) : SlotsStay s s.relayReact := by
  have round (s : State) : SlotsStay s s.relayRound := (ctProgress_slotsStay s).trans (.of_ct (rdSync_ct _))
  exact (((round s).trans (round _)).trans (round _)).trans (round _)

/-! ### Service (R112) -/

theorem consumeMask_slots (s : State) (i : Slot) (a : Antenna) : (s.consumeMask i a).ct.slots = s.ct.slots := by
  unfold State.consumeMask
  split <;> rfl

/-- A claim started in a slot without a candidate: QUEUED, or refused by the queue (R100). -/
theorem startClaim_slot {s : State} {i : Slot} (a : Antenna) (m : Mask) (w : Bool) (none : (s.slot i).cand = none) :
    ((s.startClaim i a m w).1.slot i = { s.slot i with cand := some ⟨a, m, .queued, w, Option.none, false⟩ } ∨
      (s.startClaim i a m w).1.slot i = s.slot i) ∧ ∀ j, j ≠ i → (s.startClaim i a m w).1.slot j = s.slot j := by
  have still : (s.unwait a).dropCandidate i .voluntary = s.unwait a := by
    unfold State.dropCandidate
    rw [show ((s.unwait a).slot i).cand = Option.none from none]
  have empty : ({ s.slot i with cand := Option.none } : SlotRecord) = s.slot i := by rw [← none]
  have same (j : Slot) : (s.unwait a).slot j = s.slot j := rfl
  unfold State.startClaim
  dsimp only
  rw [still]
  split
  · refine ⟨.inr ?_, fun j hj => ?_⟩
    · rw [State.owePass_slot, slot_setSlot_self, offer_slot, slot_setSlot_self]
      exact empty
    · rw [State.owePass_slot, slot_setSlot_ne _ _ hj, offer_slot, slot_setSlot_ne _ _ hj, same]
  · refine ⟨.inl ?_, fun j hj => ?_⟩
    · rw [offer_slot, slot_setSlot_self, same]
    · rw [offer_slot, slot_setSlot_ne _ _ hj, same]

theorem startClaim_slotsStay {s : State} {i : Slot} (a : Antenna) (m : Mask) (w : Bool) (none : (s.slot i).cand = none) :
    SlotsStay s (s.startClaim i a m w).1 := fun j => by
  obtain ⟨self, others⟩ := startClaim_slot a m w none
  by_cases hj : j = i
  · subst hj
    obtain e | e := self
    · rw [e]
      refine ⟨⟨fun h e => ⟨h, e, rfl⟩, fun c e => ?_, fun c e => .inr (by cases e; rfl), fun _ e => e⟩, fun h e _ _ => ⟨h, e, rfl⟩⟩
      rw [none] at e
      cases e
    · rw [e]
      exact SlotsStay.refl s j
  · rw [others j hj]
    exact SlotsStay.refl s j

theorem serveEntry_slotsStay (s : State) (e : WaitEntry) : SlotsStay s (s.serveEntry e).1 := by
  unfold State.serveEntry
  split
  · exact .refl s
  next free =>
    split
    · exact .refl s
    · split
      · have none : ((s.consumeMask e.slot e.antenna).slot e.slot).cand = none := by
          rw [consumeMask_slot]
          simpa using free
        have claimed := (SlotsStay.of_slots (consumeMask_slots s e.slot e.antenna)).trans
          (startClaim_slotsStay e.antenna e.mask e.waits none)
        dsimp only
        split
        · exact claimed
        · exact claimed
      · split
        · exact .refl s
        · exact .of_slots rfl

theorem serveEntries_slotsStay (l : List WaitEntry) (s : State) : SlotsStay s (s.serveEntries l).1 := by
  induction l generalizing s with
  | nil => exact .refl s
  | cons e es ih => exact (serveEntry_slotsStay s e).trans (ih _)

theorem servicePass_slotsStay (s : State) : SlotsStay s s.servicePass := by
  unfold State.servicePass
  generalize s.ct.waitList.length + 1 = n
  induction n generalizing s with
  | zero => exact .refl s
  | succ n ih =>
    unfold servicePasses
    split
    · dsimp only
      split
      · exact (serveEntries_slotsStay _ s).trans (ih _)
      · exact serveEntries_slotsStay _ s
    · exact .refl s

/-- With nobody waiting a service pass changes nothing (R112). -/
theorem servicePass_of_empty {s : State} (h : s.ct.waitList = []) : s.servicePass = s := by
  unfold State.servicePass servicePasses
  rw [h]
  simp [State.serveEntries]

theorem serviceReact_slotsStay (before s : State) : SlotsStay s (State.serviceReact before s) := by
  unfold State.serviceReact
  split
  · exact (servicePass_slotsStay s).trans (.of_slots rfl)
  · exact .of_slots rfl

theorem serviceLeft_slotsStay (before s : State) : SlotsStay s (State.serviceLeft before s) := by
  unfold State.serviceLeft
  split
  · exact (servicePass_slotsStay s).trans (.of_slots rfl)
  · exact .of_slots rfl

/-! ### The reactions -/

/-- A slot that has become live had a hold or a WINDOW candidate before. -/
theorem slotLive_of_stays {s t : State} (h : SlotsStay s t) {i : Slot} (live : t.slotLive i = true) : s.slotLive i = true := by
  obtain ⟨record, -⟩ := h i
  unfold State.slotLive at live ⊢
  rw [Bool.or_eq_true] at live ⊢
  obtain held | window := live
  · obtain ⟨x, hx⟩ := Option.isSome_iff_exists.1 held
    obtain ⟨y, hy, -⟩ := record.noHold x hx
    exact .inl (by rw [hy]; rfl)
  · right
    cases hc : (t.slot i).cand with
    | none => simp [hc] at window
    | some c' =>
      obtain ⟨a, m, phase, w, l, r⟩ := c'
      cases phase with
      | queued => simp [hc] at window
      | window due =>
        obtain ⟨c, ec, same⟩ | queued := record.noCand _ hc
        · obtain ⟨a, m, phase, w, l, r⟩ := c
          cases same
          rw [ec]
        · cases queued

/-- No slot has become live: none is beyond the self-drop limit for it (R94). -/
theorem gainedReact_of_none {before s : State} (h : ∀ i, before.slotLive i = false → s.slotLive i = false) :
    State.gainedReact before s = s := by
  have still (i : Slot) : (!before.slotLive i && s.slotLive i && s.slotOld i) = false := by
    cases old : before.slotLive i with
    | true => rfl
    | false => simp [h i old]
  unfold State.gainedReact
  refine List.foldlRecOn (motive := fun (t : State) => t = s) _ _ rfl fun t ht i _ => ?_
  rw [ht, still]
  rfl

/-- Where b and the obligation stay and no slot becomes live, the Claim Table's part of a step is service alone. -/
theorem ctReact_eq {before s : State} (band : s.fu.band = before.fu.band)
    (owed : s.sg.obligation = before.sg.obligation) (live : ∀ i, before.slotLive i = false → s.slotLive i = false) :
    State.ctReact before s = State.serviceLeft (State.serviceReact before s) (State.serviceReact before s) := by
  have serviced := serviceReact_slotsStay before s
  have kept := (serviceReact_moves before s).kept
  have auto : State.autoReact before (State.serviceReact before s) = State.serviceReact before s := by
    unfold State.autoReact
    rw [if_neg]
    simp [bandEntered, obligationCleared, kept.fu, kept.obligation, band, owed]
  have gained : State.gainedReact before (State.serviceReact before s) = State.serviceReact before s := by
    refine gainedReact_of_none fun i old => ?_
    rw [Bool.eq_false_iff]
    intro on
    exact absurd (live i old) (by rw [slotLive_of_stays serviced on]; decide)
  unfold State.ctReact
  rw [auto]
  dsimp only
  rw [gained]

/-- The Claim Table's part of a step where b and the obligation stay and no slot becomes live. -/
theorem ctReact_slotsStay {before s : State} (band : s.fu.band = before.fu.band)
    (owed : s.sg.obligation = before.sg.obligation) (live : ∀ i, before.slotLive i = false → s.slotLive i = false) :
    SlotsStay s (State.ctReact before s) ∧
      (s.ct.waitList = [] → (State.ctReact before s).ct.waitList = [] ∧ (State.ctReact before s).ct.slots = s.ct.slots) := by
  rw [ctReact_eq band owed live]
  refine ⟨(serviceReact_slotsStay before s).trans (serviceLeft_slotsStay _ _), fun none => ?_⟩
  have first : State.serviceReact before s = s.owePass false := by
    unfold State.serviceReact
    rw [servicePass_of_empty none, ite_self]
  have second (u : State) : State.serviceLeft u (s.owePass false) = (s.owePass false).owePass false := by
    unfold State.serviceLeft
    rw [servicePass_of_empty (s := s.owePass false) none, ite_self]
  rw [first, second]
  exact ⟨none, rfl⟩

theorem turnIf_ct (s : State) (b : Bool) : (s.turnIf b).ct = s.ct := by
  unfold State.turnIf
  split
  · exact interlockTurn_ct s
  · rfl

theorem reactStart_ct (heard : KeyHeard) (before s : State) : (reactStart heard before s).ct = s.ct := by
  obtain ⟨x, e⟩ := recentReact_eq before (State.remark heard before s)
  unfold reactStart State.ptReact
  rw [e]
  split <;> rfl

theorem commit_ct_settled (heard : KeyHeard) (before s : State) :
    (commit heard before s).ct = (reactSettled heard before s).ct := by
  rw [(reactJudged_inputs heard before s).ct]
  unfold reactJudged
  rw [interlockTurn_ct, jcReact_ct, huReact_ct]

/-- The Claim Table's first turn finds the slots, b and the obligation as the event left them. -/
theorem turned_ct (heard : KeyHeard) (before s : State) (b : Bool) :
    ((reactStart heard before s).turnIf b).ct = s.ct := by
  rw [turnIf_ct, reactStart_ct]

theorem turned_kept (heard : KeyHeard) (before s : State) (b : Bool) :
    ((reactStart heard before s).turnIf b).fu = s.fu ∧ ((reactStart heard before s).turnIf b).sg.obligation = s.sg.obligation := by
  have kept := (turnIf_moves (reactStart heard before s) b).kept
  obtain ⟨x, e⟩ := recentReact_eq before (State.remark heard before s)
  have start : (reactStart heard before s).fu = s.fu ∧ (reactStart heard before s).sg.obligation = s.sg.obligation := by
    unfold reactStart State.ptReact
    rw [e]
    split <;> exact ⟨rfl, rfl⟩
  exact ⟨kept.fu.trans start.1, kept.obligation.trans start.2⟩

/-- While b and the obligation stay and no slot becomes live, the reactions leave the slots' records as `RecordStays` and
`HoldStays` give. -/
theorem commit_slotsStay (heard : KeyHeard) {before s : State} (band : s.fu.band = before.fu.band)
    (owed : s.sg.obligation = before.sg.obligation) (live : ∀ i, before.slotLive i = false → s.slotLive i = false) :
    SlotsStay s (commit heard before s) := by
  have turned := turned_ct heard before s (Config.ieFirst before.choices)
  obtain ⟨fu, obligation⟩ := turned_kept heard before s (Config.ieFirst before.choices)
  have slots (i : Slot) : ((reactStart heard before s).turnIf (Config.ieFirst before.choices)).slotLive i = s.slotLive i := by
    simp only [State.slotLive, State.slot, turned]
  have claims := (ctReact_slotsStay (before := before) (s := (reactStart heard before s).turnIf (Config.ieFirst before.choices))
    (by rw [fu]; exact band) (obligation.trans owed) (fun i e => by rw [slots]; exact live i e)).1
  have settled : SlotsStay s (reactSettled heard before s) :=
    (((SlotsStay.of_ct turned).trans claims).trans (.of_ct (turnIf_ct _ _))).trans (relayReact_slotsStay _)
  exact settled.trans (.of_ct (commit_ct_settled heard before s))

/-! ### The wait list over the Claim Table's waits for the lines -/

theorem offerAssert_waitList (s : State) (i : Slot) (a : Antenna) (m : Mask) (t : Nat) :
    (s.offerAssert i a m t).ct.waitList = s.ct.waitList := by
  unfold State.offerAssert
  dsimp only
  split
  · rw [offer_ct]
  · show (s.offer _).1.ct.waitList = _
    rw [offer_ct]

theorem freeHold_waitList (s : State) (i : Slot) (r : ReleaseReason) (y : Option Position) :
    (s.freeHold i r y).ct.waitList = s.ct.waitList := by
  unfold State.freeHold
  split
  · rfl
  · rw [handOversLapse_ct]
    rfl

theorem shrinkStep_waitList (s : State) (i : Slot) : (s.shrinkStep i).ct.waitList = s.ct.waitList := by
  unfold State.shrinkStep
  split
  · split
    · split
      · dsimp only
        split
        · rw [offerAssert_waitList]
          rfl
        · rw [offerReleases_ct]
          rfl
      · rfl
    · rfl
  · rfl

theorem giveMember_waitList (s : State) (i : Slot) (a : Antenna) (p : Position) :
    (s.giveMember i a p).ct.waitList = s.ct.waitList := by
  unfold State.giveMember
  split
  · rfl
  · dsimp only
    split
    · rw [givingDone_ct]
    · split
      · exact freeHold_waitList _ _ _ _
      · split <;> rfl

theorem giveStep_waitList (s : State) (i : Slot) : (s.giveStep i).ct.waitList = s.ct.waitList := by
  unfold State.giveStep
  split
  · split
    · split
      · rw [giveMember_waitList]
        rfl
      · rfl
    · rfl
  · rfl

theorem slotProgress_waitList (s : State) (i : Slot) : (s.slotProgress i).ct.waitList = s.ct.waitList := by
  have freeing (s : State) : (s.freeingStep i).ct.waitList = s.ct.waitList := by
    show (s.releaseParts i _).1.ct.waitList = _
    rw [releaseParts_ct]
  unfold State.slotProgress
  rw [freeing, giveStep_waitList, shrinkStep_waitList]

theorem relayReact_waitList (s : State) : s.relayReact.ct.waitList = s.ct.waitList := by
  have drive (s : State) : s.driveStep.ct.waitList = s.ct.waitList := by
    unfold State.driveStep
    split
    · split <;> rfl
    · rfl
  have round (s : State) : s.relayRound.ct.waitList = s.ct.waitList := by
    unfold State.relayRound State.ctProgress
    rw [rdSync_ct]
    refine List.foldlRecOn (motive := fun (t : State) => t.ct.waitList = s.ct.waitList) _ _ (drive s) fun t ht i _ => ?_
    rw [slotProgress_waitList, ht]
  unfold State.relayReact
  rw [round, round, round, round]

/-- With nobody waiting, the reactions bring neither a wait entry nor a candidate. -/
theorem commit_noWait (heard : KeyHeard) {before s : State} (band : s.fu.band = before.fu.band)
    (owed : s.sg.obligation = before.sg.obligation) (live : ∀ i, before.slotLive i = false → s.slotLive i = false)
    (none : s.ct.waitList = []) : (commit heard before s).ct.waitList = [] := by
  have turned := turned_ct heard before s (Config.ieFirst before.choices)
  obtain ⟨fu, obligation⟩ := turned_kept heard before s (Config.ieFirst before.choices)
  have slots (i : Slot) : ((reactStart heard before s).turnIf (Config.ieFirst before.choices)).slotLive i = s.slotLive i := by
    simp only [State.slotLive, State.slot, turned]
  obtain ⟨waits, -⟩ := (ctReact_slotsStay (before := before) (s := (reactStart heard before s).turnIf (Config.ieFirst before.choices))
    (by rw [fu]; exact band) (obligation.trans owed) (fun i e => by rw [slots]; exact live i e)).2 (by rw [turned]; exact none)
  have settled : (reactSettled heard before s).ct.waitList = [] := by
    unfold reactSettled
    rw [relayReact_waitList, turnIf_ct, waits]
  rw [commit_ct_settled, settled]

end Sys2Proof.Machine

/-! SUPPORT. Joining, probing and leaving (2.8 to 2.11). -/

namespace Sys2Proof.Machine

/-! ### Entering RUN (R28, R30, R32) -/

/-- The part as it enters RUN with a number, its first STATUS still to be offered (R28, R95). -/
def State.entered (s : State) (n : Position) : State :=
  ((s.setJc { s.jc with
      state := .run, number := some n, tentative := none, failed := [], listenTimer := .stopped, probeWait := .stopped,
      probeOwed := false }).removePeer n).setSg { s.sg with
    running := true, cadence := .single, slice := 0, renewed := .all s.now, notified := .all false,
    obligation := true, outstanding := none, interval := s.timerFor s.period }

theorem removePeer_others (s : State) (p : Position) :
    (s.removePeer p).sg = s.sg ∧ (s.removePeer p).ps = s.ps ∧ (s.removePeer p).fu = s.fu ∧ (s.removePeer p).rd = s.rd ∧
      (s.removePeer p).ct.slots = s.ct.slots ∧ (s.removePeer p).lc = s.lc ∧ (s.removePeer p).ks = s.ks ∧
      (s.removePeer p).cu = s.cu := by
  unfold State.removePeer
  split <;> exact ⟨rfl, rfl, rfl, rfl, rfl, rfl, rfl, rfl⟩

theorem enterRun_kept (s : State) (n : Position) : Kept (s.entered n) (s.enterRun n) := by
  have entered : s.enterRun n = (s.entered n).offerStatus := by
    obtain ⟨now, -⟩ := removePeer_frame (s.setJc { s.jc with
      state := .run, number := some n, tentative := none, failed := [], listenTimer := .stopped, probeWait := .stopped,
      probeOwed := false }) n
    obtain ⟨sg, ps, -⟩ := removePeer_others (s.setJc { s.jc with
      state := .run, number := some n, tentative := none, failed := [], listenTimer := .stopped, probeWait := .stopped,
      probeOwed := false }) n
    unfold State.enterRun State.startStatus State.entered
    simp only [sg, now, State.timerFor, State.period, State.timing, ps, State.setJc_sg, State.setJc_now, State.setJc_ps]
  rw [entered]
  exact (offerStatus_moves _).kept

/-- What RUN begins with, the reactions done (R28, R30, R60). -/
theorem commit_enterRun (heard : KeyHeard) (before s : State) (n : Position) :
    (commit heard before (s.enterRun n)).now = s.now ∧
    (commit heard before (s.enterRun n)).jc.state = .run ∧ (commit heard before (s.enterRun n)).jc.number = some n ∧
    (commit heard before (s.enterRun n)).jc.tentative = none ∧ (commit heard before (s.enterRun n)).jc.failed = [] ∧
    (commit heard before (s.enterRun n)).jc.listenTimer = .stopped ∧
    (commit heard before (s.enterRun n)).jc.probeWait = .stopped ∧
    (commit heard before (s.enterRun n)).sg.obligation = true ∧ (commit heard before (s.enterRun n)).sg.running = true ∧
    (commit heard before (s.enterRun n)).sg.renewed = .all s.now ∧
    (commit heard before (s.enterRun n)).pt.find n = none := by
  have kept := enterRun_kept s n
  obtain ⟨now, jc⟩ := removePeer_frame (s.setJc { s.jc with
    state := .run, number := some n, tentative := none, failed := [], listenTimer := .stopped, probeWait := .stopped,
    probeOwed := false }) n
  have start : (s.entered n).jc = { s.jc with
      state := .run, number := some n, tentative := none, failed := [], listenTimer := .stopped, probeWait := .stopped,
      probeOwed := false } := jc
  obtain ⟨owed, join⟩ : ∃ owed, (s.enterRun n).jc = { s.jc with
      state := .run, number := some n, tentative := none, failed := [], listenTimer := .stopped, probeWait := .stopped,
      probeOwed := owed } := ⟨_, kept.join.trans (by rw [start])⟩
  simp only [commit_now, commit_joinState, commit_number, commit_tentative, commit_failed, commit_listenTimer,
    commit_probeWait, commit_obligation, commit_running, commit_renewed, commit_find, join]
  refine ⟨kept.now.trans now, trivial, trivial, trivial, trivial, trivial, trivial, kept.obligation, kept.running,
    kept.renewed, ?_⟩
  unfold PeerTable.find
  rw [kept.records]
  exact find_removePeer_self _ _

/-! ### An attempt for a number (R29, R50) -/

theorem chooseFrom_congr {s t : State} (pt : t.pt.records = s.pt.records) (failed : t.jc.failed = s.jc.failed) (n : Position) :
    t.chooseFrom n = s.chooseFrom n := by
  unfold State.chooseFrom State.numberFree PeerTable.find
  rw [pt, failed]

/-- A PROBE stands in the queue where it has room, and is owed else (R29, R50). -/
theorem offerProbe_cases (s : State) (n : Position) :
    if s.lc.queue.length < 8 then
      (s.offerProbe n).jc = { s.jc with probeOwed := false } ∧
        (s.offerProbe n).lc.queue = enqueue ⟨s.probeFrame n, false, false⟩ s.lc.queue
    else (s.offerProbe n).jc = { s.jc with probeOwed := true } ∧ (s.offerProbe n).lc.queue = s.lc.queue := by
  have offered : s.lc.offer (s.probeFrame n) = s.lc.enter (s.probeFrame n) := rfl
  split
  next room =>
    have entered : s.lc.offer (s.probeFrame n) =
        ({ s.lc with queue := enqueue ⟨s.probeFrame n, false, false⟩ s.lc.queue }, .entered) := by
      rw [offered]
      exact if_pos room
    unfold State.offerProbe State.offer
    rw [entered]
    exact ⟨rfl, rfl⟩
  next full =>
    have refused : s.lc.offer (s.probeFrame n) = ({ s.lc with overflows := satSucc 255 s.lc.overflows }, .refused) := by
      rw [offered]
      unfold LinkCtl.enter
      rw [if_neg full]
      exact if_neg (by simp [State.probeFrame, FrameBody.classValue])
    unfold State.offerProbe State.offer
    rw [refused]
    exact ⟨rfl, rfl⟩

theorem offerProbe_kept (s : State) (n : Position) : Kept s (s.offerProbe n) := (offerProbe_moves s n).kept

theorem exec_listenTimerExpiry (s : State) :
    exec .listenTimerExpiry s = .next (commit .nothing s (s.onExpiry s.jc.listenTimer State.listenEnds)) := rfl

theorem exec_probeWaitExpiry (s : State) :
    exec .probeWaitExpiry s = .next (commit .nothing s (s.onExpiry s.jc.probeWait State.probeWaitEnds)) := rfl

theorem exec_leavingComplete (s : State) :
    exec .leavingComplete s = .next (commit .nothing s (if s.leavingDone then s.finishLeaving else s)) := rfl

theorem exec_rejoinSelf (s : State) :
    exec .rejoinSelf s = .next (commit .nothing s (s.panelKey .rejoinSelf true State.rejoinKey)) := rfl

/-- The part as LISTEN ends without a kept or fixed number: a free one is probed for, or none is (R28). -/
def State.listenOver (s : State) : State := s.setJc { s.jc with listenTimer := .stopped }

theorem listenEnds_kept_number {s : State} {n : Position} (h : s.jc.number = some n) :
    s.listenEnds = s.listenOver.enterRun n := by
  unfold State.listenEnds
  dsimp only
  rw [show (s.setJc { s.jc with listenTimer := .stopped }).jc.number = some n from h]
  rfl

theorem listenEnds_fixed {s : State} (h : s.jc.number = none) (fixed : s.ps.fixedNumber = true) :
    s.listenEnds = s.listenOver.enterRun s.ps.preferred := by
  unfold State.listenEnds
  dsimp only
  rw [show (s.setJc { s.jc with listenTimer := .stopped }).jc.number = none from h]
  exact if_pos fixed

theorem listenEnds_free {s : State} (h : s.jc.number = none) (free : s.ps.fixedNumber = false) :
    s.listenEnds = s.listenOver.attemptFrom s.ps.preferred := by
  unfold State.listenEnds
  dsimp only
  rw [show (s.setJc { s.jc with listenTimer := .stopped }).jc.number = none from h]
  exact if_neg (by simp [free])

theorem attemptFrom_some {s : State} {n p : Position} (h : s.chooseFrom n = some p) :
    s.attemptFrom n = (s.setJc { s.jc with
      state := .probe, tentative := some p, attempts := satSucc 255 s.jc.attempts }).offerProbe p := by
  unfold State.attemptFrom
  rw [h]

theorem attemptFrom_none {s : State} {n : Position} (h : s.chooseFrom n = none) :
    s.attemptFrom n = s.setJc { s.jc with state := .unnumbered, tentative := none } := by
  unfold State.attemptFrom
  rw [h]

/-! ### Leaving (R34, R36) -/

theorem withdrawGrow_moves (s : State) (i : Slot) : Moves s (s.withdrawGrow i) := by
  unfold State.withdrawGrow
  split
  · split
    · exact (Move.withdraw s _).one
    · exact .refl
  · exact .refl

theorem leaveSlot_moves (s : State) (i : Slot) : Moves s (s.leaveSlot i) :=
  ((withdrawGrow_moves s i).trans (dropCandidate_moves _ i _)).trans (freeHold_moves _ i _ _)

theorem withdrawGrow_slot (s : State) (i j : Slot) : (s.withdrawGrow i).slot j = s.slot j := by
  unfold State.withdrawGrow
  split
  · split <;> rfl
  · rfl

/-- A slot that the part leaves holds and claims nothing; the others stay (R34). -/
theorem leaveSlot_slot (s : State) (i : Slot) :
    ((s.leaveSlot i).slot i).held = none ∧ ((s.leaveSlot i).slot i).cand = none ∧
      ∀ j, j ≠ i → (s.leaveSlot i).slot j = s.slot j := by
  unfold State.leaveSlot
  refine ⟨?_, ?_, fun j hj => ?_⟩
  · rw [freeHold_slot_self]
  · rw [freeHold_slot_self, dropCandidate_slot_self]
  · rw [freeHold_slot_ne _ _ _ hj, dropCandidate_slot_ne _ _ hj, withdrawGrow_slot]

theorem leaveSlots_noClaims (s : State) (i : Slot) :
    ((allSlots.foldl State.leaveSlot s).slot i).held = none ∧ ((allSlots.foldl State.leaveSlot s).slot i).cand = none := by
  have leaves (l : List Slot) (s : State) (i : Slot) (h : i ∈ l ∨ (s.slot i).held = none ∧ (s.slot i).cand = none) :
      ((l.foldl State.leaveSlot s).slot i).held = none ∧ ((l.foldl State.leaveSlot s).slot i).cand = none := by
    induction l generalizing s with
    | nil => simpa using h
    | cons j l ih =>
      obtain ⟨held, cand, others⟩ := leaveSlot_slot s j
      refine ih _ ?_
      by_cases hij : i = j
      · subst hij
        exact .inr ⟨held, cand⟩
      · rw [others i hij]
        simpa [hij] using h
  exact leaves allSlots s i (.inl (by cases i <;> decide))

theorem leaveSlots_moves (l : List Slot) (s : State) : Moves s (l.foldl State.leaveSlot s) := foldl_moves _ leaveSlot_moves l s

/-- The part once it has begun to leave for REJOIN (R34, R36, R118, R187). -/
theorem enterLeaving_rejoin (s : State) :
    Kept (s.leavingBegun .rejoin) (allSlots.foldl State.leaveSlot (s.leavingBegun .rejoin)) ∧
      s.enterLeaving .rejoin = (allSlots.foldl State.leaveSlot (s.leavingBegun .rejoin)).claimsEmptied :=
  ⟨(leaveSlots_moves _ _).kept, rfl⟩

theorem slotLive_of_noClaims {s : State} {i : Slot} (h : (s.slot i).held = none ∧ (s.slot i).cand = none) :
    s.slotLive i = false := by
  unfold State.slotLive
  rw [h.1, h.2]
  rfl

theorem commit_ask_none {heard : KeyHeard} {before s : State} (h : s.hu.ask = .none) : (commit heard before s).hu.ask = .none :=
  (commit_ask heard before s).elim (·.trans h) id

theorem commit_latch_none {heard : KeyHeard} {before s : State} (h : s.hu.latch = none) :
    (commit heard before s).hu.latch = none := (commit_latch heard before s).elim (·.trans h) id

theorem commit_answer_none {heard : KeyHeard} {before s : State} (h : s.hu.answer = none) :
    (commit heard before s).hu.answer = none := (commit_answer heard before s).elim (·.trans h) And.left

/-- What a rejoin request begins, the reactions done (R36). -/
structure LeavesForRejoin (s t : State) : Prop where
  state : t.jc.state = .leaving
  case_ : t.jc.leaving = some .rejoin
  number : t.jc.number = s.jc.number
  tentative : t.jc.tentative = none
  listenTimer : t.jc.listenTimer = .stopped
  probeWait : t.jc.probeWait = .stopped
  waitList : t.ct.waitList = []
  reservations : t.ct.reservations = []
  ask : t.hu.ask = .none
  latch : t.hu.latch = none
  answer : t.hu.answer = none
  standby : t.cu.standby = false
  deferred : t.cu.deferred = false
  quiet : t.cu.quiet = s.cu.quiet
  held : ∀ i, (t.slot i).held = none
  ptt : t.ks.ptt = s.ks.ptt
  fu : t.fu = s.fu
  records : t.pt.records = s.pt.records

theorem enterLeaving_leaves (s u : State) (ct : u.ct = (s.enterLeaving .rejoin).ct) (jc : u.jc = (s.enterLeaving .rejoin).jc)
    (hu : u.hu = (s.enterLeaving .rejoin).hu) (cu : u.cu = (s.enterLeaving .rejoin).cu)
    (ks : u.ks = (s.enterLeaving .rejoin).ks) (fu : u.fu = (s.enterLeaving .rejoin).fu)
    (pt : u.pt = (s.enterLeaving .rejoin).pt) (sg : u.sg = (s.enterLeaving .rejoin).sg) {before : State}
    (band : before.fu.band = s.fu.band) (owed : before.sg.obligation = s.sg.obligation) (heard : KeyHeard) :
    LeavesForRejoin s (commit heard before u) := by
  obtain ⟨kept, e⟩ := enterLeaving_rejoin s
  have noClaims (i : Slot) : (u.slot i).held = none ∧ (u.slot i).cand = none := by
    have slots : u.slot i = (allSlots.foldl State.leaveSlot (s.leavingBegun .rejoin)).slot i := by
      unfold State.slot
      rw [ct, e]
      rfl
    rw [slots]
    exact leaveSlots_noClaims _ i
  have join : u.jc = { (s.leavingBegun .rejoin).jc with probeOwed := u.jc.probeOwed } := by
    rw [jc, e]
    exact kept.join
  have fu' : u.fu = s.fu := by
    rw [fu, e]
    exact kept.fu
  have obligation : u.sg.obligation = s.sg.obligation := by
    rw [sg, e]
    exact kept.obligation
  have waits : u.ct.waitList = [] := by rw [ct, e]; rfl
  have ask : u.hu.ask = .none := by
    rw [hu, e]
    exact kept.ask.elim id id
  have latch : u.hu.latch = none := by
    rw [hu, e]
    exact kept.latch.elim id id
  have answer : u.hu.answer = none := by
    rw [hu, e]
    exact kept.answer.elim id And.left
  have live (i : Slot) (_ : before.slotLive i = false) : u.slotLive i = false := slotLive_of_noClaims (noClaims i)
  have stays := commit_slotsStay heard (by rw [fu']; exact band.symm) (obligation.trans owed.symm) live
  exact {
    state := by rw [commit_joinState, join]; rfl
    case_ := by rw [commit_leaving, join]; rfl
    number := by rw [commit_number, join]; rfl
    tentative := by rw [commit_tentative, join]; rfl
    listenTimer := by rw [commit_listenTimer, join]; rfl
    probeWait := by rw [commit_probeWait, join]; rfl
    waitList := commit_noWait heard (by rw [fu']; exact band.symm) (obligation.trans owed.symm) live waits
    reservations := by rw [commit_reservations, ct, e]; rfl
    ask := commit_ask_none ask
    latch := commit_latch_none latch
    answer := commit_answer_none answer
    standby := by rw [commit_cu, cu, e]; rfl
    deferred := by rw [commit_cu, cu, e]; rfl
    quiet := by
      rw [commit_cu, cu, e]
      show (allSlots.foldl State.leaveSlot (s.leavingBegun .rejoin)).cu.quiet = s.cu.quiet
      exact congrArg CommandUnit.quiet kept.cu
    held := fun i => by
      cases h : ((commit heard before u).slot i).held with
      | none => rfl
      | some x =>
        obtain ⟨y, hy, -⟩ := (stays i).1.noHold x h
        rw [(noClaims i).1] at hy
        cases hy
    ptt := by
      rw [commit_ptt, ks, e]
      exact kept.ptt
    fu := (commit_fu ..).trans fu'
    records := by
      rw [commit_records, pt, e]
      exact kept.records }

/-! ### Leaving is complete (R35) -/

/-- What the withdrawal of every frame leaves: all but the queue, the slots, the Command Unit, the sequencer and the panel. -/
structure Outside (s t : State) : Prop where
  now : t.now = s.now
  fu : t.fu = s.fu
  ps : t.ps = s.ps
  jc : t.jc = s.jc
  pt : t.pt = s.pt
  sg : t.sg = s.sg
  hu : t.hu = s.hu
  rd : t.rd = s.rd
  reservations : t.ct.reservations = s.ct.reservations

theorem Outside.trans {s t u : State} (h : Outside s t) (k : Outside t u) : Outside s u :=
  ⟨k.now.trans h.now, k.fu.trans h.fu, k.ps.trans h.ps, k.jc.trans h.jc, k.pt.trans h.pt, k.sg.trans h.sg,
    k.hu.trans h.hu, k.rd.trans h.rd, k.reservations.trans h.reservations⟩

theorem keyWithdrawn_outside (s : State) (l : List LinkFrame) : Outside s (s.keyWithdrawn l) := by
  have locked (s : State) (r : Option LockReason) : Outside s (s.lockOut r) := by
    rw [lockOut_eq]
    exact ⟨rfl, rfl, rfl, rfl, rfl, rfl, rfl, rfl, rfl⟩
  have synced : Outside s s.syncKeyOn := ⟨rfl, rfl, rfl, rfl, rfl, rfl, rfl, rfl, rfl⟩
  unfold State.keyWithdrawn
  dsimp only
  split
  · exact synced.trans (locked _ _)
  · exact synced

theorem withdrawnNotices_outside (s : State) (l : List LinkFrame) : Outside s (s.withdrawnNotices l) := by
  have command : Outside s (s.forgetCommand l) := by
    unfold State.forgetCommand
    split <;> exact ⟨rfl, rfl, rfl, rfl, rfl, rfl, rfl, rfl, rfl⟩
  have slots (s : State) : Outside s (allSlots.foldl (State.forgetReleased l) s) :=
    List.foldlRecOn (motive := fun (t : State) => Outside s t) _ _ ⟨rfl, rfl, rfl, rfl, rfl, rfl, rfl, rfl, rfl⟩
      fun t ht i _ => ht.trans ⟨rfl, rfl, rfl, rfl, rfl, rfl, rfl, rfl, rfl⟩
  rw [withdrawnNotices_eq]
  exact (command.trans (slots _)).trans (keyWithdrawn_outside _ l)

theorem withdrawAll_outside (s : State) : Outside s s.withdrawAll := by
  have withdrawn : Outside s (s.withdraw anyFrame) := ⟨rfl, rfl, rfl, rfl, rfl, rfl, rfl, rfl, rfl⟩
  exact withdrawn.trans (withdrawnNotices_outside _ _)

/-- An emptied view (R80). -/
theorem emptyPeers_frame (s : State) :
    s.emptyPeers.pt = { s.pt with records := [], liveSeen := false, linkLost := false } ∧ s.emptyPeers.now = s.now ∧
      s.emptyPeers.jc = s.jc ∧ s.emptyPeers.sg = s.sg ∧ s.emptyPeers.ps = s.ps ∧ s.emptyPeers.fu = s.fu ∧
      s.emptyPeers.rd = s.rd ∧ s.emptyPeers.lc = s.lc ∧ s.emptyPeers.ct.slots = s.ct.slots := by
  have removes (l : List PeerRecord) (t : State) :
      (l.foldl (fun s r => s.removePeer r.pos) t).pt.records = t.pt.records.filter (fun q => !l.any (fun r => r.pos == q.pos)) := by
    induction l generalizing t with
    | nil => simp
    | cons r l ih =>
      rw [List.foldl_cons, ih, removePeer_records, List.filter_filter]
      congr 1
      funext q
      simp [Bool.and_comm, bne, Bool.beq_comm]
  have gone : (s.pt.records.foldl (fun s r => s.removePeer r.pos) s).pt.records = [] := by
    rw [removes, List.filter_eq_nil_iff]
    intro q hq
    simp only [Bool.not_eq_true', Bool.not_eq_false, List.any_eq_true]
    exact ⟨q, hq, by simp⟩
  have others : (s.pt.records.foldl (fun s r => s.removePeer r.pos) s).now = s.now ∧
      (s.pt.records.foldl (fun s r => s.removePeer r.pos) s).jc = s.jc ∧
      (s.pt.records.foldl (fun s r => s.removePeer r.pos) s).sg = s.sg ∧
      (s.pt.records.foldl (fun s r => s.removePeer r.pos) s).ps = s.ps ∧
      (s.pt.records.foldl (fun s r => s.removePeer r.pos) s).fu = s.fu ∧
      (s.pt.records.foldl (fun s r => s.removePeer r.pos) s).rd = s.rd ∧
      (s.pt.records.foldl (fun s r => s.removePeer r.pos) s).lc = s.lc ∧
      (s.pt.records.foldl (fun s r => s.removePeer r.pos) s).ct.slots = s.ct.slots :=
    List.foldlRecOn (motive := fun (t : State) => t.now = s.now ∧ t.jc = s.jc ∧ t.sg = s.sg ∧ t.ps = s.ps ∧ t.fu = s.fu ∧
        t.rd = s.rd ∧ t.lc = s.lc ∧ t.ct.slots = s.ct.slots)
      s.pt.records _ ⟨rfl, rfl, rfl, rfl, rfl, rfl, rfl, rfl⟩ fun t ht r _ => by
        obtain ⟨now, jc, sg, ps, fu, rd, lc, ct⟩ := ht
        obtain ⟨now', jc'⟩ := removePeer_frame t r.pos
        obtain ⟨sg', ps', fu', rd', ct', lc', -⟩ := removePeer_others t r.pos
        exact ⟨now'.trans now, jc'.trans jc, sg'.trans sg, ps'.trans ps, fu'.trans fu, rd'.trans rd, lc'.trans lc,
          ct'.trans ct⟩
  refine ⟨?_, others⟩
  show (⟨(s.pt.records.foldl (fun s r => s.removePeer r.pos) s).pt.records, false, false⟩ : PeerTable) = _
  rw [gone]

/-- The part as LEAVING leaves it, before the next join state is entered (R35). -/
theorem leftEmpty_frame (s : State) :
    s.leftEmpty.pt.records = [] ∧ s.leftEmpty.pt.linkLost = false ∧ s.leftEmpty.sg.running = false ∧
      s.leftEmpty.sg.obligation = s.sg.obligation ∧ s.leftEmpty.fu = s.fu ∧ s.leftEmpty.ps = s.ps ∧
      s.leftEmpty.now = s.now ∧ s.leftEmpty.jc = s.jc ∧
      s.leftEmpty.ct.slots = .all .empty ∧ s.leftEmpty.ct.waitList = [] ∧ s.leftEmpty.ct.reservations = [] := by
  have out := withdrawAll_outside s
  obtain ⟨pt, now, jc, sg, ps, fu, -⟩ := emptyPeers_frame s.withdrawAll.stopStatus
  have silent : s.leftEmpty = s.withdrawAll.stopStatus.emptyPeers.setCt
      { s.withdrawAll.stopStatus.emptyPeers.ct with slots := .all .empty, waitList := [], reservations := [] } := rfl
  rw [silent]
  simp only [State.setCt_pt, State.setCt_sg, State.setCt_fu, State.setCt_ps, State.setCt_now, State.setCt_jc,
    State.setCt_ct, pt, now, jc, sg, ps, fu]
  refine ⟨trivial, trivial, rfl, ?_, out.fu, out.ps, out.now, out.jc, trivial, trivial, trivial⟩
  show s.withdrawAll.sg.obligation = _
  rw [out.sg]

/-- With no slot in use there is nothing that the lines or AMP KEY could allow (R110, R123, R129). -/
theorem relayReact_ct_of_empty {s : State} (h : s.ct.slots = .all .empty) : s.relayReact.ct = s.ct := by
  have progress (s : State) (h : s.ct.slots = .all .empty) : s.ctProgress.ct = s.ct := by
    have slot (t : State) (ht : t.ct = s.ct) (i : Slot) : t.slot i = .empty := by
      unfold State.slot
      rw [ht, h]
      exact Slots.get_all _ _
    have drive : s.driveStep = s := by
      unfold State.driveStep
      rw [slot s rfl]
      rfl
    have one (t : State) (ht : t.ct = s.ct) (i : Slot) : (t.slotProgress i).ct = s.ct := by
      have shrink : t.shrinkStep i = t := by
        unfold State.shrinkStep
        rw [slot t ht]
        rfl
      have give : t.giveStep i = t := by
        unfold State.giveStep
        rw [slot t ht]
        rfl
      have same : t.ct.slots.set i (t.slot i) = t.ct.slots := by
        rw [slot t ht, ht, h]
        cases i <;> rfl
      have freeing : t.freeingStep i = t.setSlot i (t.slot i) := by
        unfold State.freeingStep
        rw [show (t.slot i).freeing = [] by rw [slot t ht]; rfl]
        show t.setSlot i { t.slot i with freeing := [] } = _
        rw [slot t ht]
        rfl
      unfold State.slotProgress
      rw [shrink, give, freeing]
      show ({ t.ct with slots := t.ct.slots.set i (t.slot i) } : ClaimTable) = _
      rw [same, ht]
    unfold State.ctProgress
    rw [drive]
    exact List.foldlRecOn (motive := fun (t : State) => t.ct = s.ct) _ _ rfl fun t ht i _ => one t ht i
  have round (s : State) (h : s.ct.slots = .all .empty) : s.relayRound.ct = s.ct := by
    unfold State.relayRound
    rw [rdSync_ct, progress s h]
  have first := round s h
  have second := round s.relayRound (by rw [first]; exact h)
  have third := round s.relayRound.relayRound (by rw [second, first]; exact h)
  have fourth := round s.relayRound.relayRound.relayRound (by rw [third, second, first]; exact h)
  unfold State.relayReact
  rw [fourth, third, second, first]

/-- An empty Claim Table stays empty over the reactions, b and the obligation as they were. -/
theorem commit_empty (heard : KeyHeard) {before s : State} (band : s.fu.band = before.fu.band)
    (owed : s.sg.obligation = before.sg.obligation) (slots : s.ct.slots = .all .empty) (waits : s.ct.waitList = []) :
    (commit heard before s).ct.slots = .all .empty := by
  have turned := turned_ct heard before s (Config.ieFirst before.choices)
  obtain ⟨fu, obligation⟩ := turned_kept heard before s (Config.ieFirst before.choices)
  have dead (i : Slot) (_ : before.slotLive i = false) :
      ((reactStart heard before s).turnIf (Config.ieFirst before.choices)).slotLive i = false := by
    refine slotLive_of_noClaims ?_
    unfold State.slot
    rw [turned, slots, Slots.get_all]
    exact ⟨rfl, rfl⟩
  obtain ⟨-, same⟩ := (ctReact_slotsStay (before := before)
    (s := (reactStart heard before s).turnIf (Config.ieFirst before.choices)) (by rw [fu]; exact band)
    (obligation.trans owed) dead).2 (by rw [turned]; exact waits)
  rw [turned, slots] at same
  rw [commit_ct_settled]
  unfold reactSettled
  rw [relayReact_ct_of_empty (by rw [turnIf_ct]; exact same), turnIf_ct, same]

end Sys2Proof.Machine

namespace Sys2Proof.Proofs

open Sys2Proof.Machine

/-- Settles O13: RUN entered, an attempt begun, or no number free. -/
theorem listenExpiryJoinsOrProbes : Obligations.ListenExpiryJoinsOrProbes := by
  intro s due running
  have ends : s.onExpiry s.jc.listenTimer State.listenEnds = (s.reach due).listenEnds := by rw [running]; rfl
  have choice (p : Position) : (s.reach due).listenOver.chooseFrom p = s.chooseFrom p := chooseFrom_congr rfl rfl p
  have probes {p : Position} (none : s.jc.number = none) (free : s.ps.fixedNumber = false)
      (chosen : s.chooseFrom s.ps.preferred = some p) :
      s.onExpiry s.jc.listenTimer State.listenEnds = ((s.reach due).listenOver.setJc { s.jc with
        listenTimer := .stopped, state := .probe, tentative := some p, attempts := satSucc 255 s.jc.attempts }).offerProbe p := by
    rw [ends, listenEnds_free (s := s.reach due) none free]
    exact attemptFrom_some ((choice _).trans chosen)
  refine ⟨⟨_, exec_listenTimerExpiry s, ?_⟩, fun p none free chosen => ⟨_, exec_listenTimerExpiry s, ?_⟩⟩
  · cases number : s.jc.number with
    | some n =>
      rw [ends, listenEnds_kept_number (s := s.reach due) number]
      obtain ⟨now, state, own, -, -, listen, -, owed, sending, -, gone⟩ :=
        commit_enterRun .nothing s (s.reach due).listenOver n
      exact ⟨now, listen, state, own, owed, sending, gone⟩
    | none =>
      cases fixed : s.ps.fixedNumber with
      | true =>
        rw [ends, listenEnds_fixed (s := s.reach due) number fixed]
        obtain ⟨now, state, own, -, -, listen, -, owed, sending, -, gone⟩ :=
          commit_enterRun .nothing s (s.reach due).listenOver s.ps.preferred
        exact ⟨now, listen, state, own, owed, sending, gone⟩
      | false =>
        cases chosen : s.chooseFrom s.ps.preferred with
        | some p =>
          rw [probes number fixed chosen]
          have kept := offerProbe_kept ((s.reach due).listenOver.setJc { s.jc with
            listenTimer := .stopped, state := .probe, tentative := some p, attempts := satSucc 255 s.jc.attempts }) p
          have join := kept.join
          generalize State.offerProbe _ p = u at kept join
          simp only [commit_now, commit_listenTimer, commit_joinState, commit_tentative, commit_number, commit_attempts,
            commit_records]
          rw [join]
          exact ⟨kept.now, rfl, rfl, rfl, number, rfl, kept.records⟩
        | none =>
          have noneLeft : (s.reach due).listenEnds =
              (s.reach due).listenOver.setJc { s.jc with listenTimer := .stopped, state := .unnumbered, tentative := none } := by
            rw [listenEnds_free (s := s.reach due) number fixed]
            exact attemptFrom_none ((choice _).trans chosen)
          rw [ends, noneLeft]
          simp only [commit_now, commit_listenTimer, commit_joinState, commit_tentative, commit_number, commit_records]
          exact ⟨rfl, rfl, rfl, rfl, number, rfl⟩
  · rw [probes none free chosen]
    have placed := offerProbe_cases ((s.reach due).listenOver.setJc { s.jc with
      listenTimer := .stopped, state := .probe, tentative := some p, attempts := satSucc 255 s.jc.attempts }) p
    by_cases room : s.lc.queue.length < 8
    · rw [if_pos room]
      obtain ⟨jc, queue⟩ := (if_pos (c := ((s.reach due).listenOver.setJc _).lc.queue.length < 8) room).mp placed
      rw [jc, queue]
      exact ⟨rfl, _, mem_enqueue.2 (.inl rfl), rfl, rfl⟩
    · rw [if_neg room]
      obtain ⟨jc, queue⟩ := (if_neg (c := ((s.reach due).listenOver.setJc _).lc.queue.length < 8) room).mp placed
      rw [jc, queue]
      exact ⟨rfl, rfl⟩

/-- Settles O14: the completion starts the wait, and the wait's end enters RUN. -/
theorem probeOutThenNumberTaken : Obligations.ProbeOutThenNumberTaken := by
  refine ⟨fun s f flight state tentative => ?_, fun s due p running tentative => ?_⟩
  · have out : s.completed (s.flight isProbe) s.probeOut =
        s.landed.setJc { s.jc with probeWait := .running (s.now + 2 * s.period) } := by
      rw [flight]
      exact if_pos ⟨state, tentative⟩
    refine ⟨_, exec_probeComplete s, ?_⟩
    rw [out]
    simp only [commit_probeWait, commit_joinState, commit_tentative, commit_flights, commit_receiver]
    refine ⟨rfl, state, tentative, ?_, fun frame => ?_⟩
    · show flights (s.lc.queue.filter (fun e => !e.inFlight)) = []
      simp [flights, List.filter_filter]
    · show s.lc.receiver.afterFrame = .idle
      rw [frame]
      rfl
  · have ends : s.onExpiry s.jc.probeWait State.probeWaitEnds = (s.reach due).enterRun p := by
      rw [running]
      show (s.reach due).probeWaitEnds = _
      unfold State.probeWaitEnds
      rw [show (s.reach due).jc.tentative = some p from tentative]
    refine ⟨_, exec_probeWaitExpiry s, ?_⟩
    rw [ends]
    obtain ⟨now, state, own, tent, failed, -, wait, owed, -, renewed, gone⟩ := commit_enterRun .nothing s (s.reach due) p
    exact ⟨now, state, own, tent, failed, wait, owed, renewed, gone⟩

/-- Settles O15: the view and the slots emptied, the next join state entered, and nothing taken up by the other blocks. -/
theorem leavingCompleteEmptiesPart : Obligations.LeavingCompleteEmptiesPart := by
  intro s leaving steady dark clear
  have done : s.leavingDone = true := by
    unfold State.leavingDone
    rw [leaving, steady, dark]
    cases hl : s.jc.leaving with
    | none => rfl
    | some c =>
      cases c with
      | duplicate => rfl
      | rejoin =>
        have none : s.lc.queue.any (fun e => isRelease e.frame || isKey e.frame || isCommand e.frame) = false := by
          rw [List.any_eq_false]
          intro e he
          obtain ⟨release, key, command⟩ := clear hl e he
          simp [release, key, command]
        rw [none]
        rfl
  obtain ⟨records, linkLost, running, obligation, fu, ps, now, jc, slots, waits, reservations⟩ := leftEmpty_frame s
  have ends : ∃ j, s.finishLeaving = s.leftEmpty.setJc j ∧ j.failed = [] ∧ j.leaving = none ∧
      (if s.jc.leaving = some .duplicate ∧ s.ps.fixedNumber = true then j.state = .duplicate ∧ j.number = s.jc.number
      else j.state = .listen ∧ j.attempts = 0 ∧ j.listenTimer = .running (s.now + 2 * s.period) ∧
        j.number = if s.jc.leaving = some .duplicate then none else s.jc.number) := by
    have timer : s.leftEmpty.timerFor (2 * s.leftEmpty.period) = .running (s.now + 2 * s.period) := by
      simp only [State.timerFor, State.period, State.timing, now, ps]
    rw [finishLeaving_eq, ps]
    by_cases dup : s.jc.leaving = some .duplicate
    · cases fixed : s.ps.fixedNumber with
      | true =>
        refine ⟨{ s.leftEmpty.jc with state := .duplicate, failed := [], leaving := none }, ?_, rfl, rfl, ?_⟩
        · simp [dup]
        · rw [if_pos ⟨dup, rfl⟩, jc]
          exact ⟨rfl, rfl⟩
      | false =>
        refine ⟨{ s.leftEmpty.jc with
          number := none, state := .listen, tentative := none, attempts := 0, leaving := none, failed := [],
          probeOwed := false, listenTimer := s.leftEmpty.timerFor (2 * s.leftEmpty.period), probeWait := .stopped }, ?_, rfl, rfl, ?_⟩
        · simp [dup]
          rfl
        · rw [if_neg (by simp), if_pos dup]
          exact ⟨rfl, rfl, timer, rfl⟩
    · refine ⟨{ s.leftEmpty.jc with
        state := .listen, tentative := none, attempts := 0, leaving := none, failed := [], probeOwed := false,
        listenTimer := s.leftEmpty.timerFor (2 * s.leftEmpty.period), probeWait := .stopped }, ?_, rfl, rfl, ?_⟩
      · simp [dup]
        rfl
      · rw [if_neg (fun h => dup h.1), if_neg dup]
        exact ⟨rfl, rfl, timer, by show s.leftEmpty.jc.number = _; rw [jc]⟩
  obtain ⟨j, ends, failed, noCase, next⟩ := ends
  refine ⟨_, exec_leavingComplete s, ?_⟩
  rw [if_pos done, ends]
  have empty := commit_empty .nothing (before := s) (s := s.leftEmpty.setJc j) (congrArg FreqUnit.band fu) obligation slots waits
  simp only [commit_records, commit_linkLost, commit_running, commit_failed, commit_leaving, commit_reservations,
    commit_joinState, commit_number, commit_attempts, commit_listenTimer, empty]
  exact ⟨records, linkLost, running, failed, noCase, trivial, reservations, next⟩

/-- Settles O16: where a rejoin request is taken LEAVING begins; else the key is refused. -/
theorem rejoinSelfStartsLeaving : Obligations.RejoinSelfStartsLeaving := by
  intro s
  refine ⟨fun open_ => ?_, fun closed => ?_⟩
  · have left : ∃ w, (w = s ∨ w = s.withdraw isProbe) ∧
        s.panelKey .rejoinSelf true State.rejoinKey = (w.enterLeaving .rejoin).answerKey .rejoinSelf .accepted := by
      unfold State.panelKey State.rejoinKey State.rejoinOpen State.rejoinRequest
      obtain h | h | h | h | h := open_
      all_goals rw [h]
      case inr.inr.inl => exact ⟨_, .inr rfl, rfl⟩
      all_goals exact ⟨_, .inl rfl, rfl⟩
    obtain ⟨w, hw, key⟩ := left
    refine ⟨_, exec_rejoinSelf s, ?_⟩
    rw [key]
    have same : w.fu = s.fu ∧ w.sg = s.sg ∧ w.jc = s.jc ∧ w.ks = s.ks ∧ w.pt = s.pt := by
      obtain rfl | rfl := hw <;> exact ⟨rfl, rfl, rfl, rfl, rfl⟩
    obtain ⟨fu, sg, jc, ks, pt⟩ := same
    have l := enterLeaving_leaves w ((w.enterLeaving .rejoin).answerKey .rejoinSelf .accepted) rfl rfl rfl rfl rfl rfl rfl rfl
      (before := s) (by rw [fu]) (by rw [sg]) .nothing
    exact ⟨l.state, l.case_, l.number.trans (by rw [jc]), l.tentative, l.listenTimer, l.probeWait, l.waitList,
      l.reservations, l.ask, l.latch, l.answer, l.standby, l.deferred, l.held, l.ptt.trans (by rw [ks]),
      l.fu.trans fu, l.records.trans (by rw [pt])⟩
  · have key : s.panelKey .rejoinSelf true State.rejoinKey = s.answerKey .rejoinSelf (.denied .notRunning) := by
      unfold State.panelKey State.rejoinKey State.rejoinOpen
      obtain h | h := closed <;> rw [h] <;> rfl
    refine ⟨?_, ?_⟩
    · rw [exec_rejoinSelf, key]
    · rw [commit_joinState]
      rfl

end Sys2Proof.Proofs

/-! SUPPORT. The link line's own events: flights begun, lost and faulty, and what the queue does with an offer (Chapter 3). -/

namespace Sys2Proof.Machine

/-! ### The frame in flight -/

/-- With one frame in flight, it is the frame of the entry in flight. -/
theorem flying_of_flights {q : List QueueEntry} {f : LinkFrame} (h : flights q = [f]) :
    ∃ e, flying q = some e ∧ e.frame = f := by
  unfold flights at h
  unfold flying
  rw [← List.head?_filter]
  cases hf : q.filter (fun e => e.inFlight) with
  | nil => simp [hf] at h
  | cons e rest =>
    rw [hf] at h
    simp only [List.map_cons, List.cons.injEq] at h
    exact ⟨e, rfl, h.1⟩

theorem flying_none_of_flights {q : List QueueEntry} (h : flights q = []) : flying q = none := by
  have none : ∀ e ∈ q, e.inFlight ≠ true := by simpa [flights] using h
  exact List.find?_eq_none.2 none

theorem flights_landing (e : QueueEntry) (q : List QueueEntry) : flights (e.landing q) = [] := by
  unfold QueueEntry.landing
  split
  · simp [flights, List.filter_filter]
  · simp [flights, List.filter_map, Function.comp_def]

/-- The head of an idle queue goes into flight (R40). -/
theorem flights_launchHead (e : QueueEntry) (rest : List QueueEntry) (h : flights (e :: rest) = []) :
    flights (launchHead (e :: rest)) = [e.frame] := by
  rw [flights_cons] at h
  cases idle : e.inFlight with
  | true => simp [idle] at h
  | false =>
    have none : flights rest = [] := by simpa [idle] using h
    simp [launchHead, idle, flights_cons, none]

/-! ### A lost flight (R41, R42) -/

theorem offerHeldKey_frame (s : State) :
    LinkKept s.lc s.offerHeldKey.lc ∧ s.offerHeldKey.pt = s.pt ∧ s.offerHeldKey.fu = s.fu ∧ s.offerHeldKey.ps = s.ps := by
  have lock (t : State) (r : Option LockReason) :
      (t.lockOut r).lc = t.lc ∧ (t.lockOut r).pt = t.pt ∧ (t.lockOut r).fu = t.fu ∧ (t.lockOut r).ps = t.ps := by
    rw [lockOut_eq]
    exact ⟨rfl, rfl, rfl, rfl⟩
  unfold State.offerHeldKey
  split
  · exact ⟨.refl _, rfl, rfl, rfl⟩
  next f _ =>
    obtain ⟨-, fu, ps, -, -, -, pt, link, -⟩ := offerKey_fields (s.setLc { s.lc with heldKey := none }) f
    have emptied : LinkKept s.lc (s.setLc { s.lc with heldKey := none }).lc := ⟨rfl, rfl, rfl, rfl, rfl, rfl⟩
    have link := emptied.trans link
    dsimp only
    split
    · obtain ⟨lc', pt', fu', ps'⟩ := lock ((s.setLc { s.lc with heldKey := none }).offerKey f).1 (some .queue)
      rw [lc', pt', fu', ps']
      exact ⟨link, pt, fu, ps⟩
    · exact ⟨link, pt, fu, ps⟩

theorem offer_frame (s : State) (f : LinkFrame) :
    LinkKept s.lc (s.offer f).1.lc ∧ (s.offer f).1.pt = s.pt ∧ (s.offer f).1.fu = s.fu ∧ (s.offer f).1.ps = s.ps := by
  have link := LinkCtl.offer_kept s.lc f
  unfold State.offer
  dsimp only
  split <;> exact ⟨link, rfl, rfl, rfl⟩

theorem offerHeldStatus_frame (s : State) :
    LinkKept s.lc s.offerHeldStatus.lc ∧ s.offerHeldStatus.pt = s.pt ∧ s.offerHeldStatus.fu = s.fu ∧
      s.offerHeldStatus.ps = s.ps := by
  unfold State.offerHeldStatus
  split
  · exact ⟨.refl _, rfl, rfl, rfl⟩
  next f _ =>
    obtain ⟨link, rest⟩ := offer_frame (s.setLc { s.lc with heldStatus := none }) f
    have emptied : LinkKept s.lc (s.setLc { s.lc with heldStatus := none }).lc := ⟨rfl, rfl, rfl, rfl, rfl, rfl⟩
    have link := emptied.trans link
    dsimp only
    split <;> exact ⟨link, rest⟩

theorem offerHeld_frame (s : State) (e : QueueEntry) :
    LinkKept s.lc (s.offerHeld e).lc ∧ (s.offerHeld e).pt = s.pt ∧ (s.offerHeld e).fu = s.fu ∧ (s.offerHeld e).ps = s.ps := by
  unfold State.offerHeld
  split
  · split
    · exact offerHeldStatus_frame (s.setSg { s.sg with outstanding := none })
    · exact offerHeldStatus_frame s
  · split
    · exact offerHeldKey_frame s
    · exact ⟨.refl _, rfl, rfl, rfl⟩

/-- The notices of withdrawn frames touch neither the queue nor the view nor F (R51). -/
theorem withdrawnNotices_frame (s : State) (l : List LinkFrame) :
    (s.withdrawnNotices l).lc = s.lc ∧ (s.withdrawnNotices l).pt = s.pt ∧ (s.withdrawnNotices l).fu = s.fu ∧
      (s.withdrawnNotices l).ps = s.ps := by
  have told : (s.forgetCommand l).lc = s.lc ∧ (s.forgetCommand l).pt = s.pt ∧ (s.forgetCommand l).fu = s.fu ∧
      (s.forgetCommand l).ps = s.ps := by
    unfold State.forgetCommand
    split <;> exact ⟨rfl, rfl, rfl, rfl⟩
  have slots (t : State) : (allSlots.foldl (State.forgetReleased l) t).lc = t.lc ∧
      (allSlots.foldl (State.forgetReleased l) t).pt = t.pt ∧ (allSlots.foldl (State.forgetReleased l) t).fu = t.fu ∧
      (allSlots.foldl (State.forgetReleased l) t).ps = t.ps := ⟨rfl, rfl, rfl, rfl⟩
  have key (t : State) : (t.keyWithdrawn l).lc = t.lc ∧ (t.keyWithdrawn l).pt = t.pt ∧ (t.keyWithdrawn l).fu = t.fu ∧
      (t.keyWithdrawn l).ps = t.ps := by
    unfold State.keyWithdrawn
    dsimp only
    split
    · rw [lockOut_eq]
      exact ⟨rfl, rfl, rfl, rfl⟩
    · exact ⟨rfl, rfl, rfl, rfl⟩
  rw [withdrawnNotices_eq]
  obtain ⟨lc, pt, fu, ps⟩ := key (allSlots.foldl (State.forgetReleased l) (s.forgetCommand l))
  obtain ⟨lc', pt', fu', ps'⟩ := slots (s.forgetCommand l)
  obtain ⟨lc'', pt'', fu'', ps''⟩ := told
  exact ⟨lc.trans (lc'.trans lc''), pt.trans (pt'.trans pt''), fu.trans (fu'.trans fu''), ps.trans (ps'.trans ps'')⟩

/-- A withdrawn CLAIM drops its candidate or grow, and touches neither the queue nor the view nor F (R102, R125). -/
theorem claimWithdrawn_frame (s : State) (f : LinkFrame) :
    (s.claimWithdrawn f).lc = s.lc ∧ (s.claimWithdrawn f).pt = s.pt ∧ (s.claimWithdrawn f).fu = s.fu ∧
      (s.claimWithdrawn f).ps = s.ps := by
  have cand (i : Slot) (c : Candidate) : (s.candidateWithdrawn i c).lc = s.lc ∧ (s.candidateWithdrawn i c).pt = s.pt ∧
      (s.candidateWithdrawn i c).fu = s.fu ∧ (s.candidateWithdrawn i c).ps = s.ps := by
    unfold State.candidateWithdrawn State.placeWait
    dsimp only
    split
    · split
      · split <;> exact ⟨rfl, rfl, rfl, rfl⟩
      · split <;> exact ⟨rfl, rfl, rfl, rfl⟩
    · exact ⟨rfl, rfl, rfl, rfl⟩
  unfold State.claimWithdrawn
  split
  · dsimp only
    split
    · exact ⟨rfl, rfl, rfl, rfl⟩
    · split
      · exact cand _ _
      · exact ⟨rfl, rfl, rfl, rfl⟩
      · exact ⟨rfl, rfl, rfl, rfl⟩
  · exact ⟨rfl, rfl, rfl, rfl⟩

/-- A lost flight leaves no frame in flight, and of the link, the view and F nothing else (R41). -/
theorem flightLost_frame (s : State) {e : QueueEntry} (h : flying s.lc.queue = some e) :
    LinkKept { s.lc with queue := e.landing s.lc.queue } s.flightLost.lc ∧ s.flightLost.pt = s.pt ∧
      s.flightLost.fu = s.fu ∧ s.flightLost.ps = s.ps := by
  obtain ⟨link, pt, fu, ps⟩ := offerHeld_frame (s.flightLanded e) e
  rw [flightLost_eq s h]
  split
  · obtain ⟨lc', pt', fu', ps'⟩ := withdrawnNotices_frame ((s.flightLanded e).offerHeld e) [e.frame]
    obtain ⟨lc'', pt'', fu'', ps''⟩ := claimWithdrawn_frame (((s.flightLanded e).offerHeld e).withdrawnNotices [e.frame]) e.frame
    rw [lc'', lc', pt'', pt', fu'', fu', ps'', ps']
    exact ⟨link, pt, fu, ps⟩
  · exact ⟨link, pt, fu, ps⟩

/-- With no held offer of its class, the queue alone shows a lost flight (R41, R49). -/
theorem flightLost_lc (s : State) {e : QueueEntry} (h : flying s.lc.queue = some e)
    (status : isStatus e.frame = true → s.lc.heldStatus = none) (key : isKey e.frame = true → s.lc.heldKey = none) :
    s.flightLost.lc = { s.lc with queue := e.landing s.lc.queue } := by
  have held : ((s.flightLanded e).offerHeld e).lc = { s.lc with queue := e.landing s.lc.queue } := by
    have none (t : State) (ht : t.lc.heldStatus = none) : t.offerHeldStatus = t := by
      unfold State.offerHeldStatus
      rw [ht]
    unfold State.offerHeld
    split
    next c =>
      split
      · rw [none ((s.flightLanded e).setSg _) (status c)]
        rfl
      · rw [none (s.flightLanded e) (status c)]
        rfl
    next =>
      split
      next c =>
        unfold State.offerHeldKey
        rw [show (s.flightLanded e).lc.heldKey = Option.none from key c]
        rfl
      next => rfl
  rw [flightLost_eq s h]
  split
  · rw [(claimWithdrawn_frame _ _).1, (withdrawnNotices_frame _ _).1, held]
  · exact held

/-! ### Line faults and adaptation (R42 to R44, R56, R57) -/

theorem satSucc_eq (cap n : Nat) : satSucc cap n = min cap (n + 1) := by
  rfl

/-- A line fault: SYNC, one error more, and the count that adaptation reads (R42 to R44, R56). -/
theorem lineFault_eq (s : State) :
    s.lineFault = s.setLc { s.lc with
      receiver := .sync, lineErrors := min 255 (s.lc.lineErrors + 1),
      level := if s.timing.atkImm ≤ s.lc.errorCount + 1 then min 15 (s.lc.level + 1) else s.lc.level,
      errorCount := if s.timing.atkImm ≤ s.lc.errorCount + 1 then 0 else s.lc.errorCount + 1 } := by
  unfold State.lineFault State.lineError
  dsimp only
  have timing : (s.setLc { s.lc with receiver := .sync }).timing = s.timing := rfl
  rw [timing]
  by_cases h : s.timing.atkImm ≤ s.lc.errorCount + 1
  · rw [if_pos h, if_pos h]
    exact if_pos h
  · rw [if_neg h, if_neg h]
    exact if_neg h

theorem lineFault_link (s : State) : s.lineFault.lc.adaptation = s.lc.adaptation ∧
    s.lineFault.lc.queue = s.lc.queue ∧ s.lineFault.pt = s.pt ∧ s.lineFault.fu = s.fu := by
  rw [lineFault_eq]
  exact ⟨rfl, rfl, rfl, rfl⟩

theorem exec_frameFault (k : FaultKind) (s : State) :
    exec (.frameFault k) s = .next (commit .nothing s (if s.gathering then s.lineFault else s)) := rfl

theorem exec_senderLineFault (s : State) : exec .senderLineFault s =
    .next (commit .nothing s (if (flying s.lc.queue).isSome then s.flightLost.lineFault else s)) := rfl

theorem exec_contentionLost (s : State) : exec .contentionLost s = .next (commit .nothing s s.flightLost) := rfl

theorem exec_frameStart (s : State) : exec .frameStart s = .next (commit .nothing s
    (if s.mayStart then s.setLc { s.lc with queue := launchHead s.lc.queue, receiver := .frame } else s)) := rfl

theorem exec_receiverSynced (s : State) : exec .receiverSynced s = .next (commit .nothing s
    (if s.lc.receiver = .sync then s.setLc { s.lc with receiver := .idle } else s)) := rfl

theorem exec_startMarkReceived (s : State) : exec .startMarkReceived s = .next (commit .nothing s
    (if s.lc.receiver = .idle then s.setLc { s.lc with receiver := .frame } else s)) := rfl

theorem exec_adaptationPeriodEnd (s : State) : exec .adaptationPeriodEnd s =
    .next (commit .nothing s (s.onExpiry s.lc.adaptation State.adaptationEnds)) := rfl

/-- What a line fault leaves, the reactions done (R42 to R44, R56). -/
theorem commit_lineFault (heard : KeyHeard) (before s : State) :
    (commit heard before s.lineFault).lc.receiver = .sync ∧
    (commit heard before s.lineFault).lc.lineErrors = min 255 (s.lc.lineErrors + 1) ∧
    (if s.timing.atkImm ≤ s.lc.errorCount + 1 then
      (commit heard before s.lineFault).lc.level = min 15 (s.lc.level + 1) ∧
        (commit heard before s.lineFault).lc.errorCount = 0
    else (commit heard before s.lineFault).lc.level = s.lc.level ∧
      (commit heard before s.lineFault).lc.errorCount = s.lc.errorCount + 1) := by
  simp only [commit_receiver, commit_lineErrors, commit_level, commit_errorCount, lineFault_eq, State.setLc_lc]
  split <;> exact ⟨trivial, trivial, rfl, rfl⟩

/-- A frame taken in SYNC or IDLE changes nothing (R38). -/
theorem takeGood_of_not_frame {s : State} (h : s.lc.receiver ≠ .frame) (b : FrameBody) (body : State → State) :
    s.takeGood b body = s := by
  have idle : s.gathering = false := by simpa [State.gathering] using h
  unfold State.takeGood
  rw [idle]
  rfl

/-! ### An offer at the queue (R48 to R50) -/

theorem perm_enqueue (e : QueueEntry) (q : List QueueEntry) : (enqueue e q).Perm (e :: q) := by
  induction q with
  | nil => exact .refl _
  | cons x xs ih =>
    unfold enqueue
    split
    · exact (ih.cons x).trans (.swap ..)
    · exact .refl _

/-- An offer that does not coalesce enters, displaces an unsent STATUS, or is refused and counted (R50). -/
theorem LinkCtl.enter_cases (lc : LinkCtl) (f : LinkFrame) :
    (lc.queue.length < 8 → (lc.enter f).2 = .entered ∧ (lc.enter f).1.queue.Perm (⟨f, false, false⟩ :: lc.queue)) ∧
    (8 ≤ lc.queue.length → f.body.classValue < 4 → (unsent isStatus lc.queue).isSome = true →
      (lc.enter f).2 = .displacing ∧ (lc.enter f).1.overflows = lc.overflows ∧
      (lc.enter f).1.queue.Perm (⟨f, false, false⟩ :: lc.queue.filter (fun e => e.inFlight || !isStatus e.frame))) ∧
    (8 ≤ lc.queue.length → (4 ≤ f.body.classValue ∨ (unsent isStatus lc.queue).isSome = false) →
      (lc.enter f).2 = .refused ∧ (lc.enter f).1.queue = lc.queue ∧
      (lc.enter f).1.overflows = min 255 (lc.overflows + 1)) := by
  unfold LinkCtl.enter
  refine ⟨fun room => ?_, fun full cls status => ?_, fun full blocked => ?_⟩
  · rw [if_pos room]
    exact ⟨rfl, perm_enqueue _ _⟩
  · rw [if_neg (by omega), if_pos (by simp [cls, status])]
    exact ⟨rfl, rfl, perm_enqueue _ _⟩
  · have shut : ¬ (f.body.classValue < 4 && (unsent isStatus lc.queue).isSome) = true := by
      obtain h | h := blocked
      · simp [Nat.not_lt.2 h]
      · simp [h]
    rw [if_neg (by omega), if_neg shut]
    exact ⟨rfl, rfl, satSucc_eq _ _⟩

/-- An offer that coalesces with nothing (R48, R49). -/
def LinkCtl.NoKin (lc : LinkCtl) (f : LinkFrame) : Prop :=
  isCommand f = true ∨ isProbe f = true ∨ (∃ p c, f = ⟨p, .claim c⟩) ∨
    (∃ p r, f = ⟨p, .release r⟩ ∧ (unsent (isClaimFor r.slot r.antenna.toNat) lc.queue).isSome = false) ∨
    (isStatus f = true ∧ flyingIs isStatus lc.queue = false ∧ (unsent isStatus lc.queue).isSome = false) ∨
    (isKey f = true ∧ flyingIs isKey lc.queue = false ∧ (unsent isKey lc.queue).isSome = false)

theorem LinkCtl.offer_of_noKin {lc : LinkCtl} {f : LinkFrame} (h : lc.NoKin f) : lc.offer f = lc.enter f := by
  obtain ⟨p, body⟩ := f
  cases body with
  | status x =>
    obtain h | h | ⟨p, c, h⟩ | ⟨p, r, h, -⟩ | ⟨-, idle, none⟩ | ⟨h, -⟩ := h
    case inr.inr.inr.inr.inl => simp [LinkCtl.offer, idle, none]
    all_goals cases h
  | key k =>
    obtain h | h | ⟨p, c, h⟩ | ⟨p, r, h, -⟩ | ⟨h, -⟩ | ⟨-, idle, none⟩ := h
    case inr.inr.inr.inr.inr =>
      have none : unsent isKey lc.queue = Option.none := by simpa using none
      simp [LinkCtl.offer, idle, none]
    all_goals cases h
  | release r =>
    obtain h | h | ⟨p, c, h⟩ | ⟨p, r, h, none⟩ | ⟨h, -⟩ | ⟨h, -⟩ := h
    case inr.inr.inr.inl =>
      cases h
      simp [LinkCtl.offer, none]
    all_goals cases h
  | claim | probe | command => rfl

theorem unsent_isSome {p : LinkFrame → Bool} {q : List QueueEntry} :
    (unsent p q).isSome = true ↔ ∃ e ∈ q, e.inFlight = false ∧ p e.frame = true := by
  simp [unsent]

/-- Where no frame of a class is in flight, every frame of it that is left has been replaced (R48). -/
theorem frame_of_mem_replaceUnsent {p : LinkFrame → Bool} {f : LinkFrame} {q : List QueueEntry}
    (idle : flyingIs p q = false) {e : QueueEntry} (he : e ∈ replaceUnsent p f q) (hp : p e.frame = true) :
    e.frame = f := by
  obtain ⟨x, hx, rfl⟩ := List.mem_map.1 he
  have still : p x.frame = true → x.inFlight = false := by
    simp only [flyingIs, List.any_eq_false, Bool.and_eq_true, not_and] at idle
    exact fun h => by simpa [h] using idle x hx
  split at hp
  · simp_all
  · simp_all

/-- Where no frame of a class is in flight, none is left once the unsent ones are dropped (R48). -/
theorem not_of_mem_dropUnsent {p : LinkFrame → Bool} {q : List QueueEntry} (idle : flyingIs p q = false) {e : QueueEntry}
    (he : e ∈ dropUnsent p q) : p e.frame = false := by
  simp only [dropUnsent, List.mem_filter] at he
  simp only [flyingIs, List.any_eq_false, Bool.and_eq_true, not_and] at idle
  obtain ⟨he, kept⟩ := he
  have := idle e he
  cases hp : p e.frame <;> simp_all

end Sys2Proof.Machine

namespace Sys2Proof.Proofs

open Sys2Proof.Machine

/-- Settles O17. -/
theorem receiverAndFlightMoves : Obligations.ReceiverAndFlightMoves := by
  intro s
  refine ⟨fun h => ⟨_, exec_receiverSynced s, ?_⟩, fun h => ⟨_, exec_startMarkReceived s, ?_⟩, fun c hc h => ?_,
    fun e rest idle queue none => ⟨_, exec_frameStart s, ?_⟩, fun f hf => ⟨_, exec_contentionLost s, ?_⟩,
    fun e he status key => ⟨_, exec_contentionLost s, flightLost_lc s he status key⟩⟩
  · rw [if_pos h]
    simp
  · rw [if_pos h]
    simp
  · have idle : s.gathering = false := by simpa [State.gathering] using h
    have good := takeGood_of_not_frame h
    cases c <;> simp only [comesIn, Bool.false_eq_true] at hc
    case statusReceived p f => exact congrArg (fun u => Host.Outcome.next (commit .nothing s u)) (good _ _)
    case claimReceived p f => exact congrArg (fun u => Host.Outcome.next (commit .nothing s u)) (good _ _)
    case releaseReceived p f => exact congrArg (fun u => Host.Outcome.next (commit .nothing s u)) (good _ _)
    case keyReceived p f =>
      show Host.Outcome.next (commit (if s.gathering then keyNews p f else .nothing) s (s.takeGood (.key f) (State.keyHeard p f))) = _
      rw [idle, good]
      rfl
    case probeReceived p f => exact congrArg (fun u => Host.Outcome.next (commit .nothing s u)) (good _ _)
    case quietCommand p f => exact congrArg (fun u => Host.Outcome.next (commit .nothing s u)) (good _ _)
    case quietEndCommand p f => exact congrArg (fun u => Host.Outcome.next (commit .nothing s u)) (good _ _)
    case rejoinCommand p f => exact congrArg (fun u => Host.Outcome.next (commit .nothing s u)) (good _ _)
    case relearnCommand p f => exact congrArg (fun u => Host.Outcome.next (commit .nothing s u)) (good _ _)
    case frameFault k =>
      rw [exec_frameFault, idle]
      rfl
  · have start : s.mayStart = true := by
      unfold State.mayStart
      rw [idle, flying_none_of_flights none, queue]
      rfl
    rw [if_pos start]
    simp only [commit_receiver, commit_flights, State.setLc_lc]
    refine ⟨trivial, ?_⟩
    rw [queue]
    exact flights_launchHead e rest (queue ▸ none)
  · obtain ⟨e, he, -⟩ := flying_of_flights hf
    obtain ⟨link, -⟩ := flightLost_frame s he
    simp only [commit_flights, commit_lineErrors, commit_errorCount, commit_level, commit_receiver]
    exact ⟨link.flights.trans (flights_landing _ _), link.lineErrors, link.errorCount, link.level, link.receiver⟩

/-- Settles O18: a fault in FRAME and a failing line under a sender come to one line fault. -/
theorem lineFaultsAreCounted : Obligations.LineFaultsAreCounted := by
  refine ⟨fun c s h => ?_, fun s e he status key => ⟨_, exec_senderLineFault s, ?_⟩⟩
  · obtain ⟨⟨k, rfl⟩, frame⟩ | ⟨rfl, f, hf⟩ := h
    · refine ⟨_, exec_frameFault k s, ?_⟩
      have gathering : s.gathering = true := by simp [State.gathering, frame]
      rw [if_pos gathering]
      obtain ⟨receiver, errors, level⟩ := commit_lineFault .nothing s s
      obtain ⟨adaptation, -, pt, fu⟩ := lineFault_link s
      exact ⟨receiver, errors, level, (commit_adaptation ..).trans adaptation, nofun,
        (commit_records ..).trans (congrArg PeerTable.records pt), (commit_fu ..).trans fu⟩
    · refine ⟨_, exec_senderLineFault s, ?_⟩
      obtain ⟨e, he, -⟩ := flying_of_flights hf
      rw [if_pos (by simp [he])]
      obtain ⟨link, pt, fu, ps⟩ := flightLost_frame s he
      obtain ⟨receiver, errors, level⟩ := commit_lineFault .nothing s s.flightLost
      obtain ⟨adaptation, queue, pt', fu'⟩ := lineFault_link s.flightLost
      have timing : s.flightLost.timing = s.timing := by simp only [State.timing, ps]
      rw [timing, link.errorCount, link.level] at level
      rw [link.lineErrors] at errors
      refine ⟨receiver, errors, level, ((commit_adaptation ..).trans adaptation).trans link.adaptation, fun _ => ?_,
        (commit_records ..).trans (congrArg PeerTable.records (pt'.trans pt)), (commit_fu ..).trans (fu'.trans fu)⟩
      rw [commit_flights, queue]
      exact link.flights.trans (flights_landing _ _)
  · rw [if_pos (by simp [he]), (lineFault_link _).2.1, flightLost_lc s he status key]
    rfl

/-- Settles O19. -/
theorem adaptationPeriodSetsLevel : Obligations.AdaptationPeriodSetsLevel := by
  intro s due running positive
  refine ⟨_, exec_adaptationPeriodEnd s, ?_⟩
  have ends : s.onExpiry s.lc.adaptation State.adaptationEnds = (s.reach due).adaptationEnds := by rw [running]; rfl
  have level : (s.reach due).adaptationEnds.lc.level =
      levelAtPeriodEnd s.timing.atkDly s.lc.errorCount s.lc.level := rfl
  rw [ends]
  simp only [commit_now, commit_level, commit_errorCount, commit_adaptation, commit_lineErrors, level]
  unfold levelAtPeriodEnd
  refine ⟨rfl, fun h => ?_, fun h => ?_, fun h k => ?_, rfl, rfl, rfl⟩
  · rw [if_pos h]
    exact satSucc_eq _ _
  · rw [if_neg (by omega), if_pos h]
  · rw [if_neg (by omega), if_neg (by omega)]

/-- Settles O20. -/
theorem offersCoalesceEnterOrAreRefused : Obligations.OffersCoalesceEnterOrAreRefused := by
  intro lc f
  refine ⟨fun kin => ?_, fun status flying => ?_, fun key flying => ?_, fun status idle waits => ?_, fun p r hf waits => ?_,
    fun p k old hf idle waits => ?_⟩
  · rw [LinkCtl.offer_of_noKin kin]
    exact lc.enter_cases f
  · obtain ⟨p, body⟩ := f
    cases body <;> cases status
    simp [LinkCtl.offer, flying]
  · obtain ⟨p, body⟩ := f
    cases body <;> cases key
    simp [LinkCtl.offer, flying]
  · obtain ⟨p, body⟩ := f
    cases body
    case status x =>
      rw [show lc.offer ⟨p, .status x⟩ = ({ lc with queue := replaceUnsent isStatus ⟨p, .status x⟩ lc.queue }, .replaced) by
        simp [LinkCtl.offer, idle, waits]]
      exact ⟨rfl, replaceUnsent_length .., fun e he => frame_of_mem_replaceUnsent idle he⟩
    all_goals cases status
  · subst hf
    rw [show lc.offer ⟨p, .release r⟩ =
        ({ lc with queue := dropUnsent (isClaimFor r.slot r.antenna.toNat) lc.queue }, .cancelled) by
      simp [LinkCtl.offer, waits]]
    refine ⟨rfl, fun e he => ?_⟩
    simp only [dropUnsent, List.mem_filter] at he
    obtain ⟨he, kept⟩ := he
    exact ⟨he, fun c => by simpa [c] using kept⟩
  · subst hf
    split
    next c =>
      rw [show lc.offer ⟨p, .key k⟩ = ({ lc with queue := dropUnsent isKey lc.queue }, .cancelled) by
        simp [LinkCtl.offer, idle, waits, c]]
      exact ⟨rfl, fun e he => not_of_mem_dropUnsent idle he⟩
    next c =>
      rw [show lc.offer ⟨p, .key k⟩ = ({ lc with queue := replaceUnsent isKey ⟨p, .key k⟩ lc.queue }, .replaced) by
        have c : ¬ (!k.on && isPlainKeyOn old) = true := by simpa using c
        simp only [LinkCtl.offer, idle, waits]
        rw [if_neg c]
        rfl]
      exact ⟨rfl, replaceUnsent_length .., fun e he => frame_of_mem_replaceUnsent idle he⟩

end Sys2Proof.Proofs

/-! SUPPORT. The encodings of Chapter 13: key codes decoded, and a frame received as it was sent. -/

namespace Sys2Proof.Machine

/-! ### Key codes (13.3) -/

/-- A code with an argument, decoded by its range. -/
theorem decodeKey_argument {n : Nat} (hn : n < 216) (h : definedKeyCode (BitVec.ofNat 8 n) = true) :
    decodeKey (BitVec.ofNat 8 n) false =
      if n < 48 then .selectMain n else if n < 96 then .selectAux (n - 48) else if n < 144 then .selectNext (n - 96)
      else if n < 192 then .ask (n - 144) else if n < 200 then .stackMask (BitVec.ofNat 3 (n - 192))
      else .rejoinPos (some (BitVec.ofNat 4 (n - 200))) := by
  have value : (BitVec.ofNat 8 n).toNat = n := by simp; omega
  unfold decodeKey
  simp only [value, h, hn, if_true, Bool.not_true, Bool.or_self, Bool.false_eq_true, if_false]

/-! ### Bits of a field -/

/-- The leading bits of a field spell its leading part. -/
theorem foldl_bits {n : Nat} (v : BitVec n) (k : Nat) (h : k ≤ n) :
    ((List.range k).map (fun i => v.getMsbD i)).foldl (fun acc b => 2 * acc + b.toNat) 0 = v.toNat / 2 ^ (n - k) := by
  induction k with
  | zero => simp [Nat.div_eq_of_lt v.isLt]
  | succ k ih =>
    have bit : (v.getMsbD k).toNat = v.toNat / 2 ^ (n - (k + 1)) % 2 := by
      have index : n - 1 - k = n - (k + 1) := by omega
      rw [BitVec.getMsbD_eq_getLsbD, decide_eq_true (show k < n by omega), Bool.true_and, index]
      exact Nat.toNat_testBit _ _
    have half : v.toNat / 2 ^ (n - k) = v.toNat / 2 ^ (n - (k + 1)) / 2 := by
      rw [Nat.div_div_eq_div_mul, ← Nat.pow_succ]
      congr 2
      omega
    rw [List.range_succ, List.map_append, List.foldl_append, ih (by omega)]
    simp only [List.map_cons, List.map_nil, List.foldl_cons, List.foldl_nil]
    rw [bit, half]
    omega

@[simp] theorem bitsOf_length {n : Nat} (v : BitVec n) : (bitsOf v).length = n := by simp [bitsOf]

@[simp] theorem ofBits_bitsOf {n : Nat} (v : BitVec n) : ofBits n (bitsOf v) = v := by
  unfold ofBits bitsOf
  rw [foldl_bits v n (le_refl n)]
  simp

@[simp] theorem readBits_bitsOf {n : Nat} (v : BitVec n) (l : List Bool) : readBits n (bitsOf v ++ l) = some (v, l) := by
  unfold readBits
  rw [if_neg (by simp), List.take_left' (bitsOf_length v), List.drop_left' (bitsOf_length v), ofBits_bitsOf]

/-- The last field of a body. -/
@[simp] theorem readBits_bitsOf_end {n : Nat} (v : BitVec n) : readBits n (bitsOf v) = some (v, []) := by
  have h := readBits_bitsOf v []
  rwa [List.append_nil] at h

@[simp] theorem readBit_bitOf (b : Bool) (l : List Bool) : readBit (bitOf b ++ l) = some (b, l) := rfl

@[simp] theorem readBit_bitOf_end (b : Bool) : readBit (bitOf b) = some (b, []) := rfl

@[simp] theorem slotOfCode_slotCode (i : Slot) : slotOfCode (slotCode i) = i := by cases i <;> rfl

@[simp] theorem commandOfCode_commandCode (n : CommandName) : commandOfCode (commandCode n) = some n := by cases n <;> rfl

@[simp] theorem readEntries_bits (es : List EntryCode) (l : List Bool) :
    readEntries es.length (es.flatMap EntryCode.bits ++ l) = some (es, l) := by
  induction es with
  | nil => rfl
  | cons e es ih => simp [readEntries, EntryCode.bits, ih]

/-- A SINGLE frame's label and token are read back, and another one has none (13.1). -/
theorem readIdent_bits {cadence : BitVec 2} {ident : Option (Label × BitVec 16)} (h : ident.isSome = (cadence == 0)) :
    readIdent cadence (identBits ident) = some ident := by
  unfold readIdent
  cases ident with
  | none => rw [← h]; rfl
  | some x => rw [← h]; simp [identBits, Label.bits]

/-! A reader goes on with what it has read. -/

theorem bind_of_eq {α β : Type} {x : Option α} {a : α} (h : x = some a) (k : α → Option β) : (x >>= k) = k a := by
  rw [h]
  rfl

theorem readBits_then {α : Type} {n : Nat} (v : BitVec n) (l : List Bool) (k : BitVec n × List Bool → Option α) :
    (readBits n (bitsOf v ++ l) >>= k) = k (v, l) := bind_of_eq (readBits_bitsOf v l) k

theorem readBit_then {α : Type} (b : Bool) (l : List Bool) (k : Bool × List Bool → Option α) :
    (readBit (bitOf b ++ l) >>= k) = k (b, l) := rfl

theorem status_of_no_fault {f : StatusFrame} (h : (FrameBody.status f).fault = none) :
    f.cadence ≠ 3 ∧ f.shapeOk = true := by
  unfold FrameBody.fault at h
  dsimp only at h
  split at h
  · cases h
  next cadence =>
    split at h
    · cases h
    next shape => exact ⟨by simpa using cadence, by simpa using shape⟩

/-- A body with no field at fault is read back as it was sent (13.1). -/
theorem readBody_bits {b : FrameBody} (h : b.fault = none) : readBody b.classValue b.bits = some b := by
  cases b with
  | command n f => simp [readBody, FrameBody.bits, FrameBody.classValue]
  | key f => simp [readBody, FrameBody.bits, FrameBody.classValue]
  | claim f => simp [readBody, FrameBody.bits, FrameBody.classValue]
  | release f => simp [readBody, FrameBody.bits, FrameBody.classValue]
  | probe f => simp [readBody, FrameBody.bits, FrameBody.classValue]
  | status f =>
    obtain ⟨-, shape⟩ := status_of_no_fault h
    simp only [StatusFrame.shapeOk, Bool.and_eq_true, beq_iff_eq] at shape
    have ident := readIdent_bits shape.2
    have entries := readEntries_bits f.entries (identBits f.ident)
    rw [shape.1] at entries
    exact (readBits_then _ _ _).trans <| (readBits_then _ _ _).trans <| (readBits_then _ _ _).trans <|
      (readBits_then _ _ _).trans <| (readBits_then _ _ _).trans <| (readBit_then _ _ _).trans <|
      (readBit_then _ _ _).trans <| (readBit_then _ _ _).trans <| (readBit_then _ _ _).trans <|
      (readBits_then _ _ _).trans <| (readBits_then _ _ _).trans <| (readBits_then _ _ _).trans <|
      (readBits_then _ _ _).trans <| (readBits_then _ _ _).trans <| (readBits_then _ _ _).trans <|
      (readBits_then _ _ _).trans <| (readBits_then _ _ _).trans <| (readBits_then _ _ _).trans <|
      (bind_of_eq entries _).trans (bind_of_eq ident _)

/-! ### Lengths (R39, 13.1) -/

theorem entries_length (es : List EntryCode) : (es.flatMap EntryCode.bits).length = 15 * es.length := by
  induction es with
  | nil => rfl
  | cons e es ih =>
    simp only [List.flatMap_cons, List.length_append, ih, EntryCode.bits, bitsOf_length, List.length_cons]
    omega

/-- The body of a frame with no field at fault has the length of its class, by its first two bits for a STATUS. -/
theorem body_length {b : FrameBody} (h : b.fault = none) :
    b.bits.length = bodyLength b.classValue (ofBits 2 (b.bits.take 2)) ∧
      (b.classValue = 4 → ofBits 2 (b.bits.take 2) ≠ 3) ∧ 2 ≤ b.bits.length := by
  cases b with
  | status f =>
    have front : (FrameBody.status f).bits.take 2 = bitsOf f.cadence := by
      simp only [FrameBody.bits]
      exact List.take_left' (bitsOf_length _)
    rw [front, ofBits_bitsOf]
    obtain ⟨cadence, shape⟩ := status_of_no_fault h
    simp only [StatusFrame.shapeOk, Bool.and_eq_true, beq_iff_eq] at shape
    obtain ⟨entries, ident⟩ := shape
    have tail : (identBits f.ident).length = if f.cadence = 0 then 34 else 0 := by
      cases hi : f.ident with
      | none =>
        rw [hi] at ident
        rw [if_neg (by simpa using ident.symm)]
        rfl
      | some x =>
        rw [hi] at ident
        rw [if_pos (by simpa using ident.symm)]
        simp [identBits, Label.bits]
    refine ⟨?_, fun _ => cadence, ?_⟩
    · simp only [FrameBody.bits, List.length_append, bitsOf_length, bitOf, List.length_singleton, entries_length, entries,
        tail, FrameBody.classValue, bodyLength]
      generalize f.cadence = c at cadence
      revert cadence
      revert c
      decide
    · simp only [FrameBody.bits, List.length_append, bitsOf_length]
      omega
  | command | key | claim | release | probe => simp [FrameBody.bits, FrameBody.classValue, bodyLength, bitOf]

/-! ### Fill bits (R38) -/

/-- The receiver stands before content bits that `tail` follows on the line. -/
def StandsBefore (p : LinePos) (content tail : List Bool) : Prop :=
  ∃ l r, r < 5 ∧ skipFill p = .ok ⟨l, r, fill l r content ++ tail⟩

/-- Content bits put on the line with fill bits are taken off it (R38). -/
theorem takeContent_fill (x content tail : List Bool) {p : LinePos} (h : StandsBefore p (x ++ content) tail) :
    ∃ q, takeContent x.length p = .ok (x, q) ∧ StandsBefore q content tail := by
  induction x generalizing p with
  | nil => exact ⟨p, rfl, h⟩
  | cons b bs ih =>
    obtain ⟨l, r, hr, skipped⟩ := h
    have next : ∃ rest, fill l r (b :: (bs ++ content)) ++ tail = b :: rest ∧
        StandsBefore ⟨b, if b == l then r + 1 else 1, rest⟩ (bs ++ content) tail := by
      have bound : (if b == l then r + 1 else 1) ≤ 5 := by split <;> omega
      rw [fill]
      generalize (if b == l then r + 1 else 1) = k at bound
      by_cases five : k = 5
      · refine ⟨(!b) :: fill (!b) 1 (bs ++ content) ++ tail, by rw [if_pos five]; rfl, !b, 1, by omega, ?_⟩
        unfold skipFill
        rw [if_pos five]
        cases b <;> rfl
      · refine ⟨fill b k (bs ++ content) ++ tail, by rw [if_neg five]; rfl, b, k, by omega, ?_⟩
        unfold skipFill
        rw [if_neg five]
    obtain ⟨rest, line, before⟩ := next
    obtain ⟨q, taken, after⟩ := ih before
    refine ⟨q, ?_, after⟩
    rw [List.length_cons, takeContent, skipped, List.cons_append, line]
    dsimp only
    rw [taken]

/-- The end mark follows the content (R39). -/
theorem endsWell_of_before {p : LinePos} {rest : List Bool} (h : StandsBefore p [] (List.replicate 7 true ++ rest)) :
    endsWell p = true := by
  obtain ⟨l, r, -, skipped⟩ := h
  unfold endsWell
  rw [skipped]
  simp [fill]

end Sys2Proof.Machine

namespace Sys2Proof.Proofs

open Sys2Proof.Machine

/-- Settles O59: the code names a key, and its range the argument. -/
theorem keyCodesDecodeToTheirKeys : Obligations.KeyCodesDecodeToTheirKeys := by
  intro c code ok e
  cases c
  case undefinedKeyCode other bad =>
    have same : other = code := Option.some.inj e
    have unknown : (bad || !definedKeyCode other) = true := ok
    show decodeKey code bad = .undefinedKeyCode other bad
    rw [← same]
    unfold decodeKey
    exact if_pos unknown
  case selectMain n =>
    simp only [Instr.wellFormed, antennaArgOk, Bool.and_eq_true, decide_eq_true_eq] at ok
    cases e
    have named := Laws.Family.selectMain n (by simp [Instr.wellFormed, antennaArgOk, ok]) _ rfl
    show decodeKey _ false = .selectMain n
    rw [decodeKey_argument (by omega) named, if_pos (by omega)]
  case selectAux n =>
    simp only [Instr.wellFormed, antennaArgOk, Bool.and_eq_true, decide_eq_true_eq] at ok
    cases e
    have named := Laws.Family.selectAux n (by simp [Instr.wellFormed, antennaArgOk, ok]) _ rfl
    show decodeKey _ false = .selectAux n
    rw [decodeKey_argument (by omega) named, if_neg (by omega), if_pos (by omega), Nat.add_sub_cancel_left]
  case selectNext n =>
    simp only [Instr.wellFormed, antennaArgOk, Bool.and_eq_true, decide_eq_true_eq] at ok
    cases e
    have named := Laws.Family.selectNext n (by simp [Instr.wellFormed, antennaArgOk, ok]) _ rfl
    show decodeKey _ false = .selectNext n
    rw [decodeKey_argument (by omega) named, if_neg (by omega), if_neg (by omega), if_pos (by omega), Nat.add_sub_cancel_left]
  case ask n =>
    have small : n ≤ 32 := by simpa [Instr.wellFormed] using ok
    cases e
    have named := Laws.Family.ask n ok _ rfl
    show decodeKey _ false = .ask n
    rw [decodeKey_argument (by omega) named, if_neg (by omega), if_neg (by omega), if_neg (by omega), if_pos (by omega),
      Nat.add_sub_cancel_left]
  case stackMask m =>
    have small := m.isLt
    cases e
    have named := Laws.Family.stackMask m ok _ rfl
    show decodeKey _ false = .stackMask m
    rw [decodeKey_argument (by omega) named, if_neg (by omega), if_neg (by omega), if_neg (by omega), if_neg (by omega),
      if_pos (by omega), Nat.add_sub_cancel_left, BitVec.ofNat_toNat, BitVec.setWidth_eq]
  case rejoinPos p =>
    cases p with
    | none =>
      cases e
      rfl
    | some p =>
      have small := p.isLt
      cases e
      have named := Laws.Family.rejoinPos (some p) ok _ rfl
      show decodeKey _ false = .rejoinPos (some p)
      rw [decodeKey_argument (by omega) named, if_neg (by omega), if_neg (by omega), if_neg (by omega), if_neg (by omega),
        if_neg (by omega), Nat.add_sub_cancel_left, BitVec.ofNat_toNat, BitVec.setWidth_eq]
  all_goals (cases e; try rfl)

/-- Settles O60: each part of the frame is taken off the line in turn. -/
theorem receivedFrameIsTheSentFrame : Obligations.ReceivedFrameIsTheSentFrame := by
  intro f rest good
  refine ⟨rfl, ?_⟩
  obtain ⟨length, cadence, two⟩ := body_length good
  have small : f.body.classValue < 6 := by cases f.body <;> simp [FrameBody.classValue]
  have code : (ofBits 3 (bitsOf (BitVec.ofNat 3 f.body.classValue))).toNat = f.body.classValue := by
    rw [ofBits_bitsOf]
    simp
    omega
  have start : StandsBefore ⟨false, 1, f.wireBits.drop 1 ++ rest⟩
      (bitsOf (BitVec.ofNat 3 f.body.classValue) ++ (bitsOf f.sender ++ (f.body.bits.take 2 ++ (f.body.bits.drop 2 ++
        (bitsOf (crc8 f.coveredBits) ++ []))))) (List.replicate 7 true ++ rest) := by
    have content : bitsOf (BitVec.ofNat 3 f.body.classValue) ++ (bitsOf f.sender ++ (f.body.bits.take 2 ++
        (f.body.bits.drop 2 ++ (bitsOf (crc8 f.coveredBits) ++ [])))) = f.contentBits := by
      rw [List.append_nil, ← List.append_assoc (f.body.bits.take 2), List.take_append_drop]
      simp [LinkFrame.contentBits, LinkFrame.coveredBits]
    rw [content]
    refine ⟨false, 1, by omega, ?_⟩
    show Except.ok (⟨false, 1, fill false 1 f.contentBits ++ List.replicate 7 true ++ rest⟩ : LinePos) = _
    rw [List.append_assoc]
  obtain ⟨p1, take1, start⟩ := takeContent_fill _ _ _ start
  obtain ⟨p2, take2, start⟩ := takeContent_fill _ _ _ start
  obtain ⟨p3, take3, start⟩ := takeContent_fill _ _ _ start
  obtain ⟨p4, take4, start⟩ := takeContent_fill _ _ _ start
  obtain ⟨p5, take5, start⟩ := takeContent_fill _ _ _ start
  rw [bitsOf_length] at take1 take2 take5
  rw [List.length_take, Nat.min_eq_left two] at take3
  rw [List.length_drop, length] at take4
  have whole : bitsOf (BitVec.ofNat 3 f.body.classValue) ++ (bitsOf f.sender ++ f.body.bits) = f.coveredBits := rfl
  have judged : judgeBody f.sender f.body.classValue f.body.bits = .ok f := by
    unfold judgeBody
    rw [readBody_bits good]
    dsimp only
    rw [good]
  unfold receiveBits
  simp only [take1, take2, take3, bind, Except.bind, code]
  rw [if_neg (by omega), if_neg (fun h => cadence h.1 h.2)]
  simp [take4, take5, whole, endsWell_of_before start, judged]

end Sys2Proof.Proofs

/-! SUPPORT. Peer ages, the status timers, a STATUS gone out and the self-drop limit (Chapters 4 and 5). -/

namespace Sys2Proof.Machine

/-! ### Offers, read at the queue -/

theorem offer_lc (s : State) (f : LinkFrame) : (s.offer f).1.lc = (s.lc.offer f).1 := by
  unfold State.offer
  dsimp only
  split <;> rfl

/-- An offer leaves the Status Generator as it was, the outstanding frame apart (R50). -/
theorem offer_sg (s : State) (f : LinkFrame) :
    (s.offer f).1.sg = { s.sg with outstanding := (s.offer f).1.sg.outstanding } := by
  unfold State.offer
  dsimp only
  split <;> rfl

/-- Where one of a class waits unsent, its place holds the newer frame (R48). -/
theorem mem_replaceUnsent {p : LinkFrame → Bool} {q : List QueueEntry} (f : LinkFrame) (h : (unsent p q).isSome = true) :
    ∃ e ∈ replaceUnsent p f q, e.inFlight = false ∧ e.frame = f := by
  obtain ⟨e, he, idle, hp⟩ := unsent_isSome.1 h
  refine ⟨{ e with frame := f }, List.mem_map.2 ⟨e, he, ?_⟩, idle, rfl⟩
  simp [idle, hp]

/-- An offered STATUS that finds room or an unsent one stands in the queue (R48, R50). -/
theorem offer_status_stands {lc : LinkCtl} {p : Position} {x : StatusFrame} (idle : flyingIs isStatus lc.queue = false)
    (room : lc.queue.length < 8 ∨ (unsent isStatus lc.queue).isSome = true) :
    (∃ e ∈ (lc.offer ⟨p, .status x⟩).1.queue, e.inFlight = false ∧ e.frame = ⟨p, .status x⟩) ∧
      (lc.offer ⟨p, .status x⟩).2 ≠ .refused := by
  by_cases waits : (unsent isStatus lc.queue).isSome = true
  · rw [show lc.offer ⟨p, .status x⟩ = ({ lc with queue := replaceUnsent isStatus ⟨p, .status x⟩ lc.queue }, .replaced) by
      simp [LinkCtl.offer, idle, waits]]
    exact ⟨mem_replaceUnsent _ waits, nofun⟩
  · have none : (unsent isStatus lc.queue).isSome = false := by simpa using waits
    have space := room.resolve_right waits
    rw [LinkCtl.offer_of_noKin (.inr (.inr (.inr (.inr (.inl ⟨rfl, idle, none⟩)))))]
    obtain ⟨entered, queue⟩ := (lc.enter_cases ⟨p, .status x⟩).1 space
    exact ⟨⟨_, queue.mem_iff.2 (List.mem_cons_self ..), rfl, rfl⟩, by rw [entered]; nofun⟩

/-- What `offerStatus` leaves (R86, R88). -/
theorem offerStatus_frame (s : State) :
    Kept s s.offerStatus ∧ s.offerStatus.ct = s.ct ∧
      s.offerStatus.sg = { s.sg with outstanding := s.offerStatus.sg.outstanding } := by
  refine ⟨(offerStatus_moves s).kept, (offerStatus_others s).1, ?_⟩
  unfold State.offerStatus
  split
  · dsimp only [State.setSg_sg]
    rw [offer_sg]
  · rfl

/-! ### Expiry in the view (R69 to R71, R75) -/

theorem putRecord_filter (r : PeerRecord) (l : List PeerRecord) :
    (putRecord r l).filter (fun q => q.pos != r.pos) = l.filter (fun q => q.pos != r.pos) := by
  induction l with
  | nil => simp [putRecord]
  | cons x xs ih =>
    unfold putRecord
    split
    · simp only [List.filter_cons, ih]
    · split
      next e => simp [e]
      next e => simp [List.filter_cons]

theorem attemptFrom_pt (s : State) (n : Position) : (s.attemptFrom n).pt = s.pt ∧ (s.attemptFrom n).now = s.now := by
  unfold State.attemptFrom
  split
  · unfold State.offerProbe
    exact ⟨(offer_frame _ _).2.1, (offer_kept _ _).now⟩
  · exact ⟨rfl, rfl⟩

/-- A record that goes by expiry: no other goes, and link lost follows the last LIVE one (R71, R75). -/
theorem recordExpires_view (s : State) (p : Position) :
    (s.recordExpires p).now = s.now ∧ (s.recordExpires p).pt.records = s.pt.records.filter (fun q => q.pos != p) ∧
      (s.recordExpires p).pt.linkLost =
        (s.pt.linkLost || (s.pt.liveSeen && s.pt.records.all (fun q => q.pos == p || !q.live))) := by
  have freed (t : State) : (t.numberFreed p).pt = t.pt ∧ (t.numberFreed p).now = t.now := by
    unfold State.numberFreed
    split
    · exact attemptFrom_pt _ _
    · exact ⟨rfl, rfl⟩
  obtain ⟨pt, now⟩ := freed (s.expirePeer p)
  have kept : (s.removePeer p).pt.linkLost = s.pt.linkLost ∧ (s.removePeer p).pt.liveSeen = s.pt.liveSeen := by
    unfold State.removePeer
    split <;> exact ⟨rfl, rfl⟩
  have live : (!(s.removePeer p).pt.anyLive) = s.pt.records.all (fun q => q.pos == p || !q.live) := by
    unfold PeerTable.anyLive
    rw [removePeer_records, List.any_filter, List.not_any_eq_all_not]
    congr 1
    funext q
    cases h : q.pos == p <;> simp [bne, h]
  unfold State.recordExpires
  rw [pt, now]
  refine ⟨(removePeer_frame s p).1, removePeer_records s p, ?_⟩
  show ((s.removePeer p).pt.linkLost || ((s.removePeer p).pt.liveSeen && !(s.removePeer p).pt.anyLive)) = _
  rw [live, kept.1, kept.2]

theorem noEntries_iff (r : PeerRecord) : r.noEntries = true ↔ ∀ i, r.entries.get i = none := by
  have slots : (∀ i, r.entries.get i = none) ↔
      r.entries.main = none ∧ r.entries.aux = none ∧ r.entries.nextA = none ∧ r.entries.nextB = none :=
    ⟨fun h => ⟨h .main, h .aux, h .nextA, h .nextB⟩, fun ⟨h0, h1, h2, h3⟩ i => by cases i <;> assumption⟩
  rw [slots]
  simp [PeerRecord.noEntries, PeerRecord.present]

theorem exec_peerEntryExpiry (p : Position) (i : Slot) (s : State) :
    exec (.peerEntryExpiry p i) s = .next (commit .nothing s (s.peerEntryLimit p i)) := rfl

theorem exec_peerRecordExpiry (p : Position) (s : State) :
    exec (.peerRecordExpiry p) s = .next (commit .nothing s (s.peerRecordLimit p)) := rfl

/-! ### Slot by slot -/

theorem get_foldl_set {α : Type} (l : List Slot) (x : Slots α) (v : α) (j : Slot) :
    (l.foldl (fun x i => x.set i v) x).get j = if j ∈ l then v else x.get j := by
  induction l generalizing x with
  | nil => rfl
  | cons i l ih =>
    rw [List.foldl_cons, ih]
    by_cases hj : j = i
    · subst hj
      simp
    · rw [Slots.get_set_ne _ _ hj]
      simp [hj]

theorem statusSlots_nodup (f : StatusFrame) : (statusSlots f).Nodup := by
  unfold statusSlots sliceSlots
  split <;> decide

theorem statusEntries_nodup (f : StatusFrame) : ((statusEntries f).map Prod.fst).Nodup := by
  have keys (l : List Slot) (k : List EntryCode) (h : l.Nodup) : ((l.zip k).map Prod.fst).Nodup := by
    induction l generalizing k with
    | nil => simp
    | cons i l ih =>
      cases k with
      | nil => simp
      | cons x k =>
        rw [List.nodup_cons] at h
        rw [List.zip_cons_cons, List.map_cons, List.nodup_cons]
        refine ⟨fun hi => ?_, ih k h.2⟩
        obtain ⟨⟨j, y⟩, hj, e⟩ := List.mem_map.1 hi
        cases e
        exact h.1 (List.of_mem_zip hj).1
  exact keys _ _ (statusSlots_nodup f)

/-- The tenures a completed STATUS puts on the link touch the slots alone (R106). -/
theorem takeTenures_eq (l : List (Slot × EntryCode)) (s : State) : ∃ x, s.takeTenures l = s.setCt x :=
  List.foldlRecOn (motive := fun (t : State) => ∃ x, t = s.setCt x) l _ ⟨s.ct, rfl⟩ fun t ht e _ => by
    obtain ⟨x, rfl⟩ := ht
    split
    · exact ⟨x, rfl⟩
    · exact ⟨_, rfl⟩

/-- The tenure of one entry of a completed STATUS, put on the link (R106; log 43). -/
def State.takeTenure (s : State) (e : Slot × EntryCode) : State :=
  if e.2.antenna = 0 then s else s.setSlot e.1 ((s.slot e.1).linked e.2.tenure.toNat)

theorem takeTenures_cons (s : State) (e : Slot × EntryCode) (l : List (Slot × EntryCode)) :
    s.takeTenures (e :: l) = (s.takeTenure e).takeTenures l := rfl

theorem takeTenure_slot_ne (s : State) (e : Slot × EntryCode) {i : Slot} (h : i ≠ e.1) : (s.takeTenure e).slot i = s.slot i := by
  unfold State.takeTenure
  split
  · rfl
  · exact slot_setSlot_ne _ _ h

/-- Each entry of a completed STATUS gives its slot's parts its tenure; an empty one gives none (R106; log 43). -/
theorem takeTenures_slot {l : List (Slot × EntryCode)} (nodup : (l.map Prod.fst).Nodup) (s : State) (i : Slot) :
    (∀ x, (i, x) ∈ l → x.antenna ≠ 0 → (s.takeTenures l).slot i = (s.slot i).linked x.tenure.toNat) ∧
      ((∀ x, (i, x) ∈ l → x.antenna = 0) → (s.takeTenures l).slot i = s.slot i) := by
  induction l generalizing s with
  | nil => exact ⟨nofun, fun _ => rfl⟩
  | cons e l ih =>
    obtain ⟨j, y⟩ := e
    rw [List.map_cons, List.nodup_cons] at nodup
    obtain ⟨fresh, nodup⟩ := nodup
    have rest := ih nodup (s.takeTenure (j, y))
    have alone (x : EntryCode) (hx : (j, x) ∈ l) : False := fresh (List.mem_map.2 ⟨_, hx, rfl⟩)
    rw [takeTenures_cons]
    refine ⟨fun x hx filled => ?_, fun empty => ?_⟩
    · obtain he | hx := List.mem_cons.1 hx
      · cases he
        rw [rest.2 fun x hx => (alone x hx).elim]
        unfold State.takeTenure
        rw [if_neg filled, slot_setSlot_self]
      · have hi : i ≠ j := fun hi => alone x (hi ▸ hx)
        rw [rest.1 x hx filled, takeTenure_slot_ne _ _ hi]
    · rw [rest.2 fun x hx => empty x (List.mem_cons_of_mem _ hx)]
      by_cases hi : i = j
      · subst hi
        unfold State.takeTenure
        rw [if_pos (empty y (List.mem_cons_self ..))]
      · exact takeTenure_slot_ne _ _ hi

/-! ### A STATUS gone out (R87, R91 to R93, R106) -/

/-- The part once a STATUS gone out has renewed its slots and cleared the obligation. -/
theorem statusCleared_frame (s : State) (f : StatusFrame) :
    (State.statusCleared f (s.statusRenewed f)).now = s.now ∧
    (State.statusCleared f (s.statusRenewed f)).ps = s.ps ∧ (State.statusCleared f (s.statusRenewed f)).cu = s.cu ∧
    (State.statusCleared f (s.statusRenewed f)).lc.queue = s.lc.queue.filter (fun e => !e.inFlight) ∧
    (State.statusCleared f (s.statusRenewed f)).ks = { s.ks with keyTenureLink := f.keyTenure.toNat } ∧
    (State.statusCleared f (s.statusRenewed f)).sg = { s.sg with
      renewed := (statusSlots f).foldl (fun x i => x.set i s.now) s.sg.renewed,
      notified := (statusSlots f).foldl (fun x i => x.set i false) s.sg.notified,
      obligation := s.sg.obligation && f.cadence != 0 } := by
  obtain ⟨x, renewed⟩ := takeTenures_eq (statusEntries f) ((s.statusLanded f).renewSlots (statusSlots f))
  have sg : ((s.statusLanded f).renewSlots (statusSlots f)).sg = { s.sg with
      renewed := (statusSlots f).foldl (fun x i => x.set i s.now) s.sg.renewed,
      notified := (statusSlots f).foldl (fun x i => x.set i false) s.sg.notified } := rfl
  have queue : ((s.statusLanded f).renewSlots (statusSlots f)).lc.queue = s.lc.queue.filter (fun e => !e.inFlight) := rfl
  have ks : ((s.statusLanded f).renewSlots (statusSlots f)).ks = { s.ks with keyTenureLink := f.keyTenure.toNat } := rfl
  have rest : ((s.statusLanded f).renewSlots (statusSlots f)).now = s.now ∧
      ((s.statusLanded f).renewSlots (statusSlots f)).ps = s.ps ∧
      ((s.statusLanded f).renewSlots (statusSlots f)).cu = s.cu := ⟨rfl, rfl, rfl⟩
  obtain ⟨now, ps, cu⟩ := rest
  unfold State.statusCleared State.statusRenewed
  rw [renewed]
  split
  next single =>
    have cleared : (s.sg.obligation && f.cadence != 0) = false := by simp [single]
    rw [cleared, State.setSg_now, State.setSg_ps, State.setSg_cu, State.setSg_lc, State.setSg_ks, State.setSg_sg,
      State.setCt_now, State.setCt_ps, State.setCt_cu, State.setCt_lc, State.setCt_ks, State.setCt_sg, sg]
    exact ⟨now, ps, cu, queue, ks, rfl⟩
  next other =>
    have stays : (s.sg.obligation && f.cadence != 0) = s.sg.obligation := by
      rw [bne_iff_ne.2 other, Bool.and_true]
    rw [stays, State.setCt_now, State.setCt_ps, State.setCt_cu, State.setCt_lc, State.setCt_ks, State.setCt_sg]
    exact ⟨now, ps, cu, queue, ks, sg⟩

/-- The round moves on in the Status Generator alone (R87, R91). -/
theorem statusAdvanced_eq (f : StatusFrame) (s : State) :
    ∃ g : StatusGen, State.statusAdvanced f s = s.setSg g ∧ g.renewed = s.sg.renewed ∧ g.notified = s.sg.notified ∧
      g.obligation = s.sg.obligation := by
  unfold State.statusAdvanced State.roundEnd
  split
  · split <;> exact ⟨_, rfl, rfl, rfl, rfl⟩
  · exact ⟨s.sg, rfl, rfl, rfl, rfl⟩

/-- What a STATUS gone out leaves, built after it or not (R87, R88). -/
theorem statusOut_frame (s : State) (f : StatusFrame) :
    Kept (s.statusDone f) (s.statusOut f) ∧ (s.statusOut f).ct = (s.statusDone f).ct ∧
      (s.statusOut f).sg.notified = (s.statusDone f).sg.notified := by
  rw [statusOut_eq]
  split
  · obtain ⟨kept, ct, sg⟩ := offerStatus_frame (s.statusDone f)
    exact ⟨kept, ct, by rw [sg]⟩
  · exact ⟨.refl _, rfl, rfl⟩

/-- What a completion takes is the frame in flight. -/
theorem completed_status {s : State} {p : Position} {f : StatusFrame} (h : s.flight isStatus = some ⟨p, .status f⟩) :
    s.completed ((s.flight isStatus).bind statusOf) s.statusOut = s.statusOut f := by
  rw [h]
  rfl

/-! ### The self-drop limit (R94, R109) -/

theorem handOversLapse_sg (s : State) (h : HeldPart) : (s.handOversLapse h).sg = s.sg := by
  have given (t : State) (p : Position) (l : List Antenna) : (t.givingDone p l).sg = t.sg := by
    unfold State.givingDone
    split
    · split <;> rfl
    · rfl
  unfold State.handOversLapse
  dsimp only
  split <;> split <;> simp [given]

theorem freeHold_sg (s : State) (i : Slot) (r : ReleaseReason) (y : Option Position) : (s.freeHold i r y).sg = s.sg := by
  unfold State.freeHold
  split
  · rfl
  · exact handOversLapse_sg _ _

theorem dropCandidate_notified (s : State) (i : Slot) (r : ReleaseReason) :
    (s.dropCandidate i r).sg.notified = s.sg.notified := by
  have released (t : State) (a : Antenna) : (t.offerRelease i a r none).1.sg.notified = t.sg.notified := by
    unfold State.offerRelease
    split
    · rfl
    · rw [offer_sg]
      rfl
  unfold State.dropCandidate
  split
  · rfl
  · dsimp only
    split
    · rfl
    · rw [released]
      rfl

/-- A slot that is dropped holds nothing and is live no more; the others stay (R94, R109). -/
theorem selfDrop_slot (s : State) (i : Slot) :
    ((s.selfDrop i).slot i).held = none ∧ (s.selfDrop i).slotLive i = false ∧
      ((s.selfDrop i).slot i).freeing = ((s.freeHold i .selfDrop none).slot i).freeing ∧
      (s.selfDrop i).sg.notified = s.sg.notified ∧ ∀ j, j ≠ i → (s.selfDrop i).slot j = s.slot j := by
  have freed : ((s.freeHold i .selfDrop none).slot i).held = none := by rw [freeHold_slot_self]
  have others (j : Slot) (hj : j ≠ i) := freeHold_slot_ne s .selfDrop none hj
  unfold State.selfDrop
  dsimp only
  split
  · refine ⟨?_, ?_, ?_, ?_, fun j hj => ?_⟩
    · rw [dropCandidate_slot_self]
      exact freed
    · refine slotLive_of_noClaims ⟨?_, ?_⟩ <;> rw [dropCandidate_slot_self]
      exact freed
    · rw [dropCandidate_slot_self]
    · rw [dropCandidate_notified, freeHold_sg]
    · rw [dropCandidate_slot_ne _ _ hj, others j hj]
  next noWindow =>
    refine ⟨freed, ?_, rfl, by rw [freeHold_sg], others⟩
    unfold State.slotLive
    rw [freed]
    split
    next h => exact (noWindow _ _ _ _ _ _ h).elim
    next => rfl

/-- The entry that a STATUS carries for a slot, its parts asked in turn (R84, R126). -/
theorem slotEntry_eq (r : SlotRecord) : slotEntry r =
    if r.cand.any (fun x => x.phase != .queued) then
      (r.cand.map (fun x => ⟨BitVec.ofNat 6 x.antenna, x.mask, 0⟩)).getD ⟨0, 0, 0⟩
    else match r.held with
      | some h =>
        (match h.grow with
          | some g => if g.phase = .queued then ⟨BitVec.ofNat 6 h.antenna, h.mask, BitVec.ofNat 6 h.tenure⟩
              else ⟨BitVec.ofNat 6 h.antenna, g.mask, 0⟩
          | none => ⟨BitVec.ofNat 6 h.antenna, h.mask, BitVec.ofNat 6 h.tenure⟩)
      | none =>
        match r.freeing.getLast? with
        | some x => ⟨BitVec.ofNat 6 x.antenna, x.mask, BitVec.ofNat 6 x.tenure⟩
        | none => ⟨0, 0, 0⟩ := by
  obtain ⟨held, freeing, cand⟩ := r
  cases hc : cand.any (fun x => x.phase != .queued) with
  | true =>
    cases cand with
    | none => cases hc
    | some c =>
      obtain ⟨a, m, phase, w, l, x⟩ := c
      cases phase with
      | queued => cases hc
      | window due => rfl
  | false =>
    have unseen : slotEntry ⟨held, freeing, cand⟩ = slotEntry ⟨held, freeing, none⟩ := by
      cases cand with
      | none => rfl
      | some c =>
        obtain ⟨a, m, phase, w, l, x⟩ := c
        cases phase with
        | queued => rfl
        | window due => cases hc
    rw [unseen, if_neg (by decide)]
    cases held with
    | none => cases e : freeing.getLast? <;> simp [slotEntry, e, antennaCode, tenureCode]
    | some h =>
      obtain ⟨a, m, d, t, l, p, sh, grow, gv, la⟩ := h
      cases grow with
      | none => rfl
      | some g =>
        obtain ⟨gm, phase, x⟩ := g
        cases phase <;> rfl

theorem exec_selfDropLimit (i : Slot) (s : State) :
    exec (.selfDropLimit i) s = .next (commit .nothing s (s.renewalLimit i)) := rfl

theorem exec_statusIntervalExpiry (s : State) : exec .statusIntervalExpiry s =
    .next (commit .nothing s (s.onExpiry s.sg.interval State.intervalEnds)) := rfl

theorem exec_recentChangeExpiry (s : State) : exec .recentChangeExpiry s =
    .next (commit .nothing s (s.onExpiry s.sg.recent (fun s => s.setSg { s.sg with recent := .expired }))) := rfl

end Sys2Proof.Machine

namespace Sys2Proof.Proofs

open Sys2Proof.Machine

/-- Settles O26. -/
theorem peerAgesRunOut : Obligations.PeerAgesRunOut := by
  refine ⟨fun p i s r e found entry => ⟨_, exec_peerEntryExpiry p i s, ?_⟩,
    fun p s r found empty => ⟨_, exec_peerRecordExpiry p s, ?_⟩⟩
  · have pos := pos_of_find found
    have limit : s.peerEntryLimit p i = (s.reach (e.since + s.peerLimit r)).entryExpires r i := by
      unfold State.peerEntryLimit
      rw [found]
      dsimp only
      rw [entry]
    simp only [commit_now, commit_find, commit_linkLost, limit]
    generalize hu : s.reach (e.since + s.peerLimit r) = u
    generalize hr : { r with entries := r.entries.set i none } = r'
    have now : u.now = max s.now (e.since + 9 * periodOf (r.periodCode.getD s.timing.periodCode)) := by rw [← hu]; rfl
    have pt : u.pt = s.pt := by rw [← hu]; rfl
    have pos' : r'.pos = p := by rw [← hr]; exact pos
    have bare : r'.noEntries = true ↔ allSlots.all (fun j => j == i || (r.entries.get j).isNone) = true := by
      rw [noEntries_iff, ← hr, List.all_eq_true]
      refine ⟨fun h j _ => ?_, fun h j => ?_⟩
      · by_cases hj : j = i
        · simp [hj]
        · have gone := h j
          rw [Slots.get_set_ne _ _ hj] at gone
          simp [gone]
      · by_cases hj : j = i
        · rw [hj, Slots.get_set_self]
        · have gone := h j (by cases j <;> decide)
          rw [Slots.get_set_ne _ _ hj]
          simpa [hj] using gone
    have old : r'.headSince + (u.putPeer r').peerLimit r' =
        r.headSince + 9 * periodOf (r.periodCode.getD s.timing.periodCode) := by rw [← hr, ← hu]; rfl
    have expires : u.entryExpires r i =
        if r'.noEntries && decide (r'.headSince + (u.putPeer r').peerLimit r' ≤ (u.putPeer r').now) then
          (u.putPeer r').recordExpires r'.pos else u.putPeer r' := by rw [← hr]; rfl
    have clock : (u.putPeer r').now = u.now := rfl
    rw [expires, old, clock]
    by_cases gone : allSlots.all (fun j => j == i || (r.entries.get j).isNone) = true ∧
        r.headSince + 9 * periodOf (r.periodCode.getD s.timing.periodCode) ≤ u.now
    · obtain ⟨now', records, lost⟩ := recordExpires_view (u.putPeer r') r'.pos
      rw [if_pos (by simp [bare.2 gone.1, gone.2]), now', clock, if_pos gone]
      have rest : (u.putPeer r').pt.records.filter (fun q => q.pos != p) = s.pt.records.filter (fun q => q.pos != p) := by
        rw [← pos', ← pt]
        exact putRecord_filter r' u.pt.records
      rw [pos'] at records lost ⊢
      refine ⟨now, ⟨?_, ?_⟩, fun q hq => ?_⟩
      · unfold PeerTable.find
        rw [records]
        simp
      · rw [lost]
        have live (l : List PeerRecord) : l.all (fun q => q.pos == p || !q.live) =
            (l.filter (fun q => q.pos != p)).all (fun q => !q.live) := by
          rw [List.all_filter]
          congr 1
          funext q
          cases h : q.pos == p <;> simp [bne, h]
        rw [live, rest, ← live]
        show (u.pt.linkLost || (u.pt.liveSeen && _)) = _
        rw [pt]
      · have seen := find_removePeer_ne (u.putPeer r') hq
        unfold PeerTable.find at seen ⊢
        rw [removePeer_records] at seen
        rw [records, seen]
        show (u.putPeer r').pt.find q = s.pt.find q
        rw [find_putPeer_ne _ _ (by rw [pos']; exact hq), pt]
    · have stays : ¬ (r'.noEntries &&
          decide (r.headSince + 9 * periodOf (r.periodCode.getD s.timing.periodCode) ≤ u.now)) = true := by
        simpa [bare] using gone
      rw [if_neg stays, clock, if_neg gone]
      refine ⟨now, ⟨?_, ?_⟩, fun q hq => ?_⟩
      · rw [← pos']
        exact find_putPeer_self u r'
      · show u.pt.linkLost = _
        rw [pt]
      · rw [find_putPeer_ne _ _ (by rw [pos']; exact hq), pt]
  · have limit : s.peerRecordLimit p = (s.reach (r.headSince + s.peerLimit r)).recordExpires p := by
      unfold State.peerRecordLimit
      rw [found]
      exact if_pos ((noEntries_iff r).2 empty)
    obtain ⟨now, records, lost⟩ := recordExpires_view (s.reach (r.headSince + s.peerLimit r)) p
    simp only [commit_now, commit_find, commit_linkLost, limit]
    refine ⟨now, ?_, lost, fun q hq => ?_⟩
    · unfold PeerTable.find
      rw [records]
      simp
    · have seen := find_removePeer_ne (s.reach (r.headSince + s.peerLimit r)) hq
      unfold PeerTable.find at seen ⊢
      rw [removePeer_records] at seen
      rw [records, seen]
      rfl

/-- Settles O29. -/
theorem selfDropLimitFreesSlot : Obligations.SelfDropLimitFreesSlot := by
  intro i s live clear
  refine ⟨_, exec_selfDropLimit i s, ?_⟩
  have limit : s.renewalLimit i = (s.reach (s.sg.renewed.get i + 8 * s.period)).selfDropNotice i := by
    unfold State.renewalLimit
    rw [live, clear]
    rfl
  rw [limit]
  generalize hu : s.reach (s.sg.renewed.get i + 8 * s.period) = u
  have slots (j : Slot) : (u.setSg { u.sg with notified := u.sg.notified.set i true }).slot j = s.slot j := by rw [← hu]; rfl
  obtain ⟨held, dead, freeing, notified, others⟩ := selfDrop_slot (u.setSg { u.sg with notified := u.sg.notified.set i true }) i
  refine ⟨?_, ?_, held, dead, fun h hold => ?_, fun j hj => (others j hj).trans (slots j)⟩
  · rw [(selfDropNotice_moves u i).kept.now, ← hu]
    rfl
  · show (State.selfDrop _ i).sg.notified.get i = true
    rw [notified]
    exact Slots.get_set_self ..
  · show ((State.selfDrop _ i).slot i).freeing = _
    rw [freeing, freeHold_slot_self, slots, hold]
    rfl

/-- Settles O27: the interval's end, the recent-change timer's, and what a STATUS carries, field by field. -/
theorem statusTimersRun : Obligations.StatusTimersRun := by
  refine ⟨fun s due => ⟨fun running => ?_, fun running => ?_⟩, fun s c slice f built => ?_⟩
  · have ends : s.onExpiry s.sg.interval State.intervalEnds = (s.reach due).intervalEnds := by rw [running]; rfl
    generalize started : (s.reach due).setSg
      { (s.reach due).sg with interval := (s.reach due).timerFor ((s.reach due).frameInterval s.sg.cadence) } = w at ends
    have offered : (s.reach due).intervalEnds = w.offerStatus := by rw [← started]; rfl
    have frame : w.statusFrame = ⟨s.self, .status (s.statusBody s.sg.cadence s.sg.slice)⟩ := by rw [← started]; rfl
    have lc : w.lc = s.lc := by rw [← started]; rfl
    have on : w.sg.running = s.sg.running := by rw [← started]; rfl
    have current : w.sg.cadence = s.sg.cadence ∧ w.sg.slice = s.sg.slice := by rw [← started]; exact ⟨rfl, rfl⟩
    refine ⟨⟨_, exec_statusIntervalExpiry s, ?_⟩, _, exec_statusIntervalExpiry s, ?_, ?_, ?_⟩
    · rw [ends, offered]
      obtain ⟨kept, -⟩ := offerStatus_frame w
      simp only [commit_now, commit_slice, commit_cadence, commit_renewed, commit_interval, kept.now, kept.slice,
        kept.cadence, kept.renewed, kept.interval]
      rw [← started]
      refine ⟨rfl, rfl, rfl, rfl, ?_⟩
      cases s.sg.cadence <;> rfl
    · intro sending flying
      have held : w.lc.offer w.statusFrame = ({ w.lc with heldStatus := some w.statusFrame }, .heldOffer) := by
        rw [frame, lc]
        simp [LinkCtl.offer, flying]
      rw [ends, offered]
      unfold State.offerStatus State.offer
      rw [if_pos (on.trans sending), held, frame, current.1, current.2]
      exact ⟨rfl, rfl⟩
    · intro sending idle room
      obtain ⟨stands, taken⟩ := offer_status_stands (p := s.self) (x := s.statusBody s.sg.cadence s.sg.slice) idle room
      rw [ends, offered]
      unfold State.offerStatus
      rw [if_pos (on.trans sending), frame, current.1, current.2]
      dsimp only [State.setSg_lc, State.setSg_sg]
      rw [offer_lc, lc, if_neg]
      · exact ⟨stands, rfl⟩
      · show (w.lc.offer _).2 ≠ .refused
        rw [lc]
        exact taken
    · intro stopped
      rw [ends, offered]
      unfold State.offerStatus
      rw [if_neg (by rw [on, stopped]; decide)]
      exact lc
  · have ends : s.onExpiry s.sg.recent (fun s => s.setSg { s.sg with recent := .expired }) =
        (s.reach due).setSg { s.sg with recent := .expired } := by rw [running]; rfl
    refine ⟨_, exec_recentChangeExpiry s, ?_⟩
    have still : ((s.reach due).setSg { s.sg with recent := .expired }).fu.freq = s.fu.freq := rfl
    rw [ends, commit_now, commit_interval, commit_recent_of_same .nothing still]
    exact ⟨rfl, rfl, rfl⟩
  · subst built
    refine ⟨by cases c <;> rfl, by unfold State.statusBody freqCode; cases s.fu.freq <;> rfl, rfl, ?_, rfl, rfl, rfl, rfl,
      rfl, rfl, rfl, rfl, rfl, ?_, ?_, rfl, by simp [State.statusBody], fun k i hk => ?_⟩
    · show s.ampKey = true ↔ _
      unfold State.ampKey
      cases s.ks.state <;> simp
    · show (match s.hu.ask with
        | .standing target a _ _ _ => (askFields s.hu.ask).1 = target ∧ (askFields s.hu.ask).2 = BitVec.ofNat 6 a
        | _ => (askFields s.hu.ask).1 = 0 ∧ (askFields s.hu.ask).2 = 0)
      cases s.hu.ask <;> exact ⟨rfl, rfl⟩
    · show (match s.hu.answer with
        | some x => (answerFields s.hu.answer).1 = x.asker ∧ (answerFields s.hu.answer).2.1 = BitVec.ofNat 6 x.antenna ∧
            (answerFields s.hu.answer).2.2 = if x.kind = .keep then 1 else 2
        | none => (answerFields s.hu.answer).1 = 0 ∧ (answerFields s.hu.answer).2.1 = 0 ∧ (answerFields s.hu.answer).2.2 = 0)
      cases s.hu.answer with
      | none => exact ⟨rfl, rfl, rfl⟩
      | some x =>
        obtain ⟨p, a, kind⟩ := x
        cases kind <;> exact ⟨rfl, rfl, rfl⟩
    · show ((sliceSlots c slice).map (fun i => slotEntry (s.slot i)))[k]? = _
      rw [List.getElem?_map, hk, Option.map_some]
      generalize s.slot i = r
      exact congrArg some (slotEntry_eq r)

/-- Settles O28: the part once the STATUS has gone out, then what the reactions leave of it. -/
theorem statusCompleteRenewsSlots : Obligations.StatusCompleteRenewsSlots := by
  intro s p f flight
  have out := completed_status flight
  obtain ⟨kept, ct, notified⟩ := statusOut_frame s f
  obtain ⟨now, ps, cu, queue, ks, sg⟩ := statusCleared_frame s f
  obtain ⟨g, advanced, renewed, marks, obligation⟩ := statusAdvanced_eq f (State.statusCleared f (s.statusRenewed f))
  have done : s.statusDone f = (State.statusAdvanced f (State.statusCleared f (s.statusRenewed f))).setSg
      { (State.statusAdvanced f (State.statusCleared f (s.statusRenewed f))).sg with outstanding := none } := rfl
  have slots (i : Slot) : (s.statusOut f).slot i = ((s.statusLanded f).renewSlots (statusSlots f) |>.takeTenures (statusEntries f)).slot i := by
    refine slot_congr ?_ i
    rw [ct, done, advanced]
    show (State.statusCleared f (s.statusRenewed f)).ct.slots = _
    unfold State.statusCleared
    split <;> rfl
  refine ⟨⟨_, exec_statusComplete s, ?_, ?_, ?_⟩, _, exec_statusComplete s, ?_⟩
  · intro i
    rw [out, notified, done, advanced]
    show g.notified.get i = _
    rw [marks, sg, get_foldl_set]
    by_cases hi : i ∈ statusSlots f <;> simp [hi]
  · intro i x hx filled
    rw [out, slots, (takeTenures_slot (statusEntries_nodup f) _ i).1 x hx filled]
    exact ⟨rfl, rfl, rfl⟩
  · intro i empty
    rw [out, slots, (takeTenures_slot (statusEntries_nodup f) _ i).2 empty]
    rfl
  · rw [out]
    simp only [commit_flights, commit_renewed, commit_obligation, commit_keyTenureLink, commit_slice, commit_cadence,
      commit_interval, kept.link.flights, kept.renewed, kept.obligation, kept.keyTenureLink, kept.slice, kept.cadence,
      kept.interval]
    have whole : s.statusDone f = (State.statusCleared f (s.statusRenewed f)).setSg { g with outstanding := none } := by
      rw [done, advanced]
      rfl
    rw [whole]
    refine ⟨?_, fun i hi => ?_, fun i hi => ?_, ?_, ?_, fun running more => ?_, fun running last => ?_⟩
    · show flights (State.statusCleared f (s.statusRenewed f)).lc.queue = []
      rw [queue]
      simp [flights, List.filter_filter]
    · show g.renewed.get i = _
      rw [renewed, sg, get_foldl_set, if_pos hi]
    · show g.renewed.get i = _
      rw [renewed, sg, get_foldl_set, if_neg hi]
    · show g.obligation = _
      rw [obligation, sg]
    · show (State.statusCleared f (s.statusRenewed f)).ks.keyTenureLink = _
      rw [ks]
    · have moved : g = { (State.statusCleared f (s.statusRenewed f)).sg with
          slice := (State.statusCleared f (s.statusRenewed f)).sg.slice + 1 } := by
        have next := congrArg State.sg advanced
        unfold State.statusAdvanced at next
        rw [if_pos (by rw [sg]; exact running), if_neg (by simpa [lastSlice] using more)] at next
        exact next.symm
      rw [moved, sg]
      exact ⟨rfl, rfl, rfl⟩
    · have moved : g = (State.statusCleared f (s.statusRenewed f)).roundEnd.sg := by
        have next := congrArg State.sg advanced
        unfold State.statusAdvanced at next
        rw [if_pos (by rw [sg]; exact running), if_pos (by simpa [lastSlice] using last)] at next
        exact next.symm
      have wanted : (State.statusCleared f (s.statusRenewed f)).wantedCadence = match s.ks.state with
          | .announce | .ampOn | .transmit | .tail => .quad
          | _ => if s.sg.recent.isRunning then .double else .single := by
        cases hs : s.ks.state <;> simp [State.wantedCadence, ks, sg, hs]
      have choice : (State.statusCleared f (s.statusRenewed f)).roundCadence =
          if 4 ≤ (s.lc.queue.filter (fun e => !e.inFlight)).length ∨ s.cu.standby = true ∨
            (s.sg.obligation = true ∧ f.cadence ≠ 0) then .single
          else match s.ks.state with
            | .announce | .ampOn | .transmit | .tail => .quad
            | _ => if s.sg.recent.isRunning then .double else .single := by
        unfold State.roundCadence
        rw [wanted, queue, cu, sg]
        simp only [Bool.or_eq_true, decide_eq_true_eq, Bool.and_eq_true, bne_iff_ne, or_assoc]
      rw [moved]
      refine ⟨rfl, choice, ?_⟩
      show (if (State.statusCleared f (s.statusRenewed f)).roundCadence = (State.statusCleared f (s.statusRenewed f)).sg.cadence
        then (State.statusCleared f (s.statusRenewed f)).sg.interval
        else .running ((State.statusCleared f (s.statusRenewed f)).now +
          (State.statusCleared f (s.statusRenewed f)).frameInterval (State.statusCleared f (s.statusRenewed f)).roundCadence)) =
        if (State.statusCleared f (s.statusRenewed f)).roundCadence = s.sg.cadence then s.sg.interval
        else .running (s.now + s.frameInterval (State.statusCleared f (s.statusRenewed f)).roundCadence)
      simp only [State.frameInterval, State.period, State.timing, ps, now, sg]

end Sys2Proof.Proofs

/-! SUPPORT. Claims: requests, service of the wait list, auto-select, promotion and drops (Chapter 6). -/

namespace Sys2Proof.Machine

/-! ### Offers that coalesce with nothing (R50) -/

/-- With room, such a frame enters unsent. -/
theorem offer_enters {s : State} {f : LinkFrame} (kin : s.lc.NoKin f) (room : s.lc.queue.length < 8) :
    s.offer f = (s.setLc { s.lc with queue := enqueue ⟨f, false, false⟩ s.lc.queue }, .entered) := by
  have entered : s.lc.offer f = ({ s.lc with queue := enqueue ⟨f, false, false⟩ s.lc.queue }, .entered) := by
    rw [LinkCtl.offer_of_noKin kin]
    exact if_pos room
  unfold State.offer
  rw [entered]
  rfl

/-- With the queue full and no STATUS to displace, it is refused. -/
theorem offer_refused {s : State} {f : LinkFrame} (kin : s.lc.NoKin f) (full : 8 ≤ s.lc.queue.length)
    (blocked : 4 ≤ f.body.classValue ∨ (unsent isStatus s.lc.queue).isSome = false) :
    s.offer f = (s.setLc { s.lc with overflows := satSucc 255 s.lc.overflows }, .refused) := by
  have refused : s.lc.offer f = ({ s.lc with overflows := satSucc 255 s.lc.overflows }, .refused) := by
    rw [LinkCtl.offer_of_noKin kin]
    unfold LinkCtl.enter
    rw [if_neg (by omega), if_neg]
    obtain h | h := blocked
    · simp [Nat.not_lt.2 h]
    · simp [h]
  unfold State.offer
  rw [refused]
  rfl

theorem claimFrame_noKin (lc : LinkCtl) (s : State) (i : Slot) (a : Antenna) (m : Mask) (b : Bool) (t : Nat) :
    lc.NoKin (s.claimFrame i a m b t) := .inr (.inr (.inl ⟨_, _, rfl⟩))

/-- An offer enters one frame at most. -/
theorem LinkCtl.offer_length_succ (lc : LinkCtl) (f : LinkFrame) : (lc.offer f).1.queue.length ≤ lc.queue.length + 1 := by
  have enter : (lc.enter f).1.queue.length ≤ lc.queue.length + 1 := by
    unfold LinkCtl.enter
    split
    · simp
    · split
      · simpa using dropUnsent_length_le isStatus lc.queue
      · simp
  unfold LinkCtl.offer
  split <;> repeat' split
  all_goals first
    | exact enter
    | exact Nat.le_succ _
    | exact (dropUnsent_length_le _ _).trans (Nat.le_succ _)
    | simp

/-- A frame that stands in the queue. -/
def LinkCtl.Stands (lc : LinkCtl) (f : LinkFrame) : Prop := ∃ e ∈ lc.queue, e.inFlight = false ∧ e.frame = f

theorem stands_enqueue (f : LinkFrame) (lc : LinkCtl) :
    LinkCtl.Stands { lc with queue := enqueue ⟨f, false, false⟩ lc.queue } f := ⟨_, mem_enqueue.2 (.inl rfl), rfl, rfl⟩

/-! ### What dropping a candidate leaves (R98, R109) -/

theorem offerRelease_frame (s : State) (i : Slot) (a : Antenna) (r : ReleaseReason) (y : Option Position) :
    (s.offerRelease i a r y).1.jc = s.jc ∧ (s.offerRelease i a r y).1.ps = s.ps ∧ (s.offerRelease i a r y).1.pi = s.pi ∧
      (s.offerRelease i a r y).1.fu = s.fu ∧ (s.offerRelease i a r y).1.lc.queue.length ≤ s.lc.queue.length + 1 := by
  unfold State.offerRelease
  split
  · exact ⟨rfl, rfl, rfl, rfl, Nat.le_succ _⟩
  · have length : ((s.withdrawUnsent (isClaimFor i a)).offer (s.releaseFrame i a r y)).1.lc.queue.length ≤
        s.lc.queue.length + 1 := by
      rw [offer_lc]
      exact (LinkCtl.offer_length_succ _ _).trans (Nat.succ_le_succ (dropUnsent_length_le _ _))
    refine ⟨?_, ?_, ?_, ?_, length⟩ <;> (unfold State.offer; dsimp only; split <;> rfl)

theorem dropCandidate_frame (s : State) (i : Slot) (r : ReleaseReason) :
    (s.dropCandidate i r).jc = s.jc ∧ (s.dropCandidate i r).ps = s.ps ∧ (s.dropCandidate i r).pi = s.pi ∧
      (s.dropCandidate i r).fu = s.fu ∧ (s.dropCandidate i r).lc.queue.length ≤ s.lc.queue.length + 1 ∧
      (s.dropCandidate i r).ct.waitList = s.ct.waitList ∧ (s.dropCandidate i r).ct.panelMask = s.ct.panelMask := by
  unfold State.dropCandidate
  split
  · exact ⟨rfl, rfl, rfl, rfl, Nat.le_succ _, rfl, rfl⟩
  next c _ =>
    dsimp only
    split
    · refine ⟨rfl, rfl, rfl, rfl, ?_, rfl, rfl⟩
      show (markFlying _ (dropUnsent _ s.lc.queue)).length ≤ _
      rw [markFlying_length]
      exact (dropUnsent_length_le _ _).trans (Nat.le_succ _)
    · obtain ⟨jc, ps, pi, fu, length⟩ := offerRelease_frame (s.setSlot i { s.slot i with cand := none }) i c.antenna r none
      exact ⟨jc, ps, pi, fu, length, by rw [offerRelease_ct]; rfl, by rw [offerRelease_ct]; rfl⟩

theorem dropCandidate_of_none {s : State} {i : Slot} (r : ReleaseReason) (h : (s.slot i).cand = none) :
    s.dropCandidate i r = s := by
  unfold State.dropCandidate
  rw [h]

theorem consumeMask_frame (s : State) (i : Slot) (a : Antenna) :
    (s.consumeMask i a).lc = s.lc ∧ (s.consumeMask i a).jc = s.jc ∧ (s.consumeMask i a).ps = s.ps ∧
      (s.consumeMask i a).pi = s.pi ∧ (s.consumeMask i a).fu = s.fu ∧
      (s.consumeMask i a).ct.waitList = s.ct.waitList ∧ (s.consumeMask i a).ct.slots = s.ct.slots := by
  unfold State.consumeMask
  split <;> exact ⟨rfl, rfl, rfl, rfl, rfl, rfl, rfl⟩

theorem localCheck_consumeMask (s : State) (j : Slot) (b : Antenna) (i : Slot) (a : Antenna) (m : Mask) :
    (s.consumeMask j b).localCheck i a m = s.localCheck i a m := by
  unfold State.consumeMask
  split <;> rfl

theorem claimFrame_congr {s t : State} (jc : t.jc = s.jc) (ps : t.ps = s.ps) (i : Slot) (a : Antenna) (m : Mask) (b : Bool)
    (n : Nat) : t.claimFrame i a m b n = s.claimFrame i a m b n := by
  have row : t.row = s.row := by
    funext p
    simp only [State.row, ps]
  simp only [State.claimFrame, State.self, State.ownPriority, State.ownRow, row, jc]

/-! ### A claim started (R98, R100) -/

/-- The part as a new claim's CLAIM is offered: the antenna waits no more, and what the slot claimed is dropped. -/
def State.claimCleared (s : State) (i : Slot) (a : Antenna) : State := (s.unwait a).dropCandidate i .voluntary

/-- The claim recorded, its CLAIM still to be offered (R98, R100). -/
def State.claimMade (s : State) (i : Slot) (a : Antenna) (m : Mask) (w : Bool) : State :=
  (s.claimCleared i a).setSlot i { (s.claimCleared i a).slot i with cand := some ⟨a, m, .queued, w, none, false⟩ }

/-- A refused CLAIM takes the claim out again, and a service pass is due (R100, R112). -/
theorem startClaim_eq (s : State) (i : Slot) (a : Antenna) (m : Mask) (w : Bool) :
    s.startClaim i a m w =
      if ((s.claimMade i a m w).offer ((s.claimMade i a m w).claimFrame i a m false 0)).2 = .refused then
        ((((s.claimMade i a m w).offer ((s.claimMade i a m w).claimFrame i a m false 0)).1.setSlot i
          { ((s.claimMade i a m w).offer ((s.claimMade i a m w).claimFrame i a m false 0)).1.slot i with
            cand := none }).owePass true, .denied .queue)
      else (((s.claimMade i a m w).offer ((s.claimMade i a m w).claimFrame i a m false 0)).1, .accepted) := rfl

theorem claimMade_frame (s : State) (i : Slot) (a : Antenna) (m : Mask) (w : Bool) :
    (s.claimMade i a m w).claimFrame i a m false 0 = s.claimFrame i a m false 0 := by
  obtain ⟨jc, ps, -⟩ := dropCandidate_frame (s.unwait a) i .voluntary
  exact claimFrame_congr jc ps i a m false 0

/-- With room in the queue the claim is QUEUED and its CLAIM stands in the queue (R100). -/
theorem startClaim_room {s : State} {i : Slot} {a : Antenna} (m : Mask) (w : Bool)
    (room : (s.claimCleared i a).lc.queue.length < 8) :
    s.startClaim i a m w = ((s.claimMade i a m w).setLc { (s.claimCleared i a).lc with
      queue := enqueue ⟨s.claimFrame i a m false 0, false, false⟩ (s.claimCleared i a).lc.queue }, .accepted) := by
  rw [startClaim_eq, claimMade_frame, offer_enters (s := s.claimMade i a m w) (claimFrame_noKin _ _ i a m false 0) room]
  rfl

/-- With the queue full and no STATUS to displace, the claim is taken out again (R100). -/
theorem startClaim_full {s : State} {i : Slot} {a : Antenna} (m : Mask) (w : Bool)
    (full : 8 ≤ (s.claimCleared i a).lc.queue.length) (blocked : (unsent isStatus (s.claimCleared i a).lc.queue).isSome = false) :
    (s.startClaim i a m w).2 = .denied .queue ∧ ((s.startClaim i a m w).1.slot i).cand = none ∧
      ((s.startClaim i a m w).1.slot i).held = ((s.claimCleared i a).slot i).held ∧
      (s.startClaim i a m w).1.lc.queue = (s.claimCleared i a).lc.queue := by
  rw [startClaim_eq, claimMade_frame,
    offer_refused (s := s.claimMade i a m w) (claimFrame_noKin _ _ i a m false 0) full (.inr blocked)]
  refine ⟨rfl, ?_, ?_, rfl⟩
  · show (State.slot (State.setSlot _ i _) i).cand = none
    rw [slot_setSlot_self]
  · show (State.slot (State.setSlot _ i _) i).held = _
    rw [slot_setSlot_self]
    show ((s.claimMade i a m w).slot i).held = _
    unfold State.claimMade
    rw [slot_setSlot_self]

/-- The slot after such a claim (R100). -/
theorem startClaim_room_slot {s : State} {i : Slot} {a : Antenna} (m : Mask) (w : Bool)
    (room : (s.claimCleared i a).lc.queue.length < 8) :
    (s.startClaim i a m w).2 = .accepted ∧
      ((s.startClaim i a m w).1.slot i).cand = some ⟨a, m, .queued, w, none, false⟩ ∧
      ((s.startClaim i a m w).1.slot i).held = (s.slot i).held ∧
      (s.startClaim i a m w).1.lc.Stands (s.claimFrame i a m false 0) ∧
      (s.startClaim i a m w).1.ct.waitList = s.ct.waitList.filter (fun e => e.antenna != a) ∧
      (s.startClaim i a m w).1.lc.queue.length ≤ (s.claimCleared i a).lc.queue.length + 1 := by
  obtain ⟨-, -, -, -, -, waits, -⟩ := dropCandidate_frame (s.unwait a) i .voluntary
  have held : ((s.claimCleared i a).slot i).held = (s.slot i).held := by
    unfold State.claimCleared
    rw [dropCandidate_slot_self]
    rfl
  rw [startClaim_room m w room]
  refine ⟨rfl, ?_, ?_, stands_enqueue _ _, waits, by simp⟩
  · show ((s.claimMade i a m w).slot i).cand = _
    unfold State.claimMade
    rw [slot_setSlot_self]
  · show ((s.claimMade i a m w).slot i).held = _
    unfold State.claimMade
    rw [slot_setSlot_self]
    exact held

theorem claimCleared_of_none {s : State} {i : Slot} (a : Antenna) (none : (s.slot i).cand = none) :
    s.claimCleared i a = s.unwait a := dropCandidate_of_none .voluntary none

theorem claimCleared_length (s : State) (i : Slot) (a : Antenna) :
    (s.claimCleared i a).lc.queue.length ≤ s.lc.queue.length + 1 := (dropCandidate_frame (s.unwait a) i .voluntary).2.2.2.2.1

/-! ### Service (R112) -/

theorem serveEntry_passed {s : State} {e : WaitEntry}
    (h : (s.slot e.slot).cand.isSome = true ∨ (s.pt.disagreement = true ∧ s.privateHere e.antenna = false) ∨
      ∃ d ∈ [Denial.busy, .full, .notCovered, .reserved], s.localCheck e.slot e.antenna e.mask = some d) :
    s.serveEntry e = (s, false) := by
  unfold State.serveEntry
  split
  · rfl
  next free =>
    split
    · rfl
    next agreed =>
      obtain taken | ⟨apart, shared⟩ | ⟨d, hd, check⟩ := h
      · exact absurd taken free
      · simp [apart, shared] at agreed
      · rw [check]
        simp only [List.mem_cons, List.not_mem_nil, or_false] at hd
        obtain rfl | rfl | rfl | rfl := hd <;> rfl

/-- The entry is not passed over for a candidate or for plan disagreement (R112). -/
def State.maybeServed (s : State) (e : WaitEntry) : Prop :=
  (s.slot e.slot).cand = none ∧ (s.pt.disagreement = false ∨ s.privateHere e.antenna = true)

theorem serveEntry_refused {s : State} {e : WaitEntry} (open_ : s.maybeServed e) {d : Denial}
    (check : s.localCheck e.slot e.antenna e.mask = some d) (fails : d ∉ [Denial.busy, .full, .notCovered, .reserved]) :
    s.serveEntry e = ((s.unwait e.antenna).report .ct (.denied d), false) := by
  obtain ⟨none, agreed⟩ := open_
  have final : (d.waitable || d == .notCovered || d == .reserved) = false := by
    cases d <;> first | rfl | exact absurd (by decide) fails
  unfold State.serveEntry
  rw [if_neg (by simp [none]), if_neg (by obtain h | h := agreed <;> simp [h]), check]
  dsimp only
  rw [final]
  rfl

theorem serveEntry_served {s : State} {e : WaitEntry} (open_ : s.maybeServed e)
    (check : s.localCheck e.slot e.antenna e.mask = none) (room : s.lc.queue.length < 8) :
    s.serveEntry e = (((s.consumeMask e.slot e.antenna).startClaim e.slot e.antenna e.mask e.waits).1, false) := by
  obtain ⟨none, agreed⟩ := open_
  have none' : ((s.consumeMask e.slot e.antenna).slot e.slot).cand = Option.none := by rw [consumeMask_slot]; exact none
  have taken := (startClaim_room_slot (s := s.consumeMask e.slot e.antenna) (i := e.slot) (a := e.antenna) e.mask e.waits
    (by rw [claimCleared_of_none _ none', State.unwait, State.setCt_lc, (consumeMask_frame ..).1]; exact room)).1
  unfold State.serveEntry
  rw [if_neg (by simp [none]), if_neg (by obtain h | h := agreed <;> simp [h]), check]
  dsimp only
  rw [if_pos taken]

/-- An entry served: its slot's QUEUED candidate, its CLAIM in the queue, and it waits no more (R112). -/
theorem serveEntry_served_slot {s : State} {e : WaitEntry} (open_ : s.maybeServed e)
    (check : s.localCheck e.slot e.antenna e.mask = none) (room : s.lc.queue.length < 8) :
    ((s.serveEntry e).1.slot e.slot).cand = some ⟨e.antenna, e.mask, .queued, e.waits, none, false⟩ ∧
      ((s.serveEntry e).1.slot e.slot).held = (s.slot e.slot).held ∧
      (s.serveEntry e).1.ct.waitList = s.ct.waitList.filter (fun x => x.antenna != e.antenna) ∧
      (s.serveEntry e).1.lc.Stands (s.claimFrame e.slot e.antenna e.mask false 0) ∧
      (s.serveEntry e).1.lc.queue.length ≤ s.lc.queue.length + 1 := by
  obtain ⟨lc, jc, ps, -, -, waits, slots⟩ := consumeMask_frame s e.slot e.antenna
  have none : ((s.consumeMask e.slot e.antenna).slot e.slot).cand = Option.none := by rw [consumeMask_slot]; exact open_.1
  have cleared : ((s.consumeMask e.slot e.antenna).claimCleared e.slot e.antenna).lc = s.lc := by
    rw [claimCleared_of_none _ none]
    exact lc
  obtain ⟨-, cand, held, stands, list, length⟩ := startClaim_room_slot (s := s.consumeMask e.slot e.antenna) (i := e.slot)
    (a := e.antenna) e.mask e.waits (by rw [cleared]; exact room)
  rw [serveEntry_served open_ check room]
  rw [claimFrame_congr jc ps] at stands
  rw [cleared] at length
  exact ⟨cand, held.trans (by rw [consumeMask_slot]), list.trans (by rw [waits]), stands, length⟩

/-- With room, an entry's service refuses nothing and enters one CLAIM at most. -/
theorem serveEntry_room {s : State} (e : WaitEntry) (room : s.lc.queue.length < 8) :
    (s.serveEntry e).2 = false ∧ (s.serveEntry e).1.lc.queue.length ≤ s.lc.queue.length + 1 := by
  by_cases open_ : s.maybeServed e
  · cases check : s.localCheck e.slot e.antenna e.mask with
    | none =>
      refine ⟨by rw [serveEntry_served open_ check room], (serveEntry_served_slot open_ check room).2.2.2.2⟩
    | some d =>
      by_cases waits : d ∈ [Denial.busy, .full, .notCovered, .reserved]
      · rw [serveEntry_passed (.inr (.inr ⟨d, waits, check⟩))]
        exact ⟨rfl, Nat.le_succ _⟩
      · rw [serveEntry_refused open_ check waits]
        exact ⟨rfl, Nat.le_succ _⟩
  · have passed : s.serveEntry e = (s, false) := by
      refine serveEntry_passed ?_
      by_contra h
      simp only [not_or, not_and, Bool.not_eq_true] at h
      refine open_ ⟨by simpa using h.1, ?_⟩
      cases agreed : s.pt.disagreement with
      | false => exact .inl rfl
      | true => exact .inr (by simpa using h.2.1 agreed)
    rw [passed]
    exact ⟨rfl, Nat.le_succ _⟩

/-- With room for every entry's CLAIM the entries are taken in turn, and none is refused (R112). -/
theorem serveEntries_room (l : List WaitEntry) {s : State} (room : s.lc.queue.length + l.length ≤ 8) :
    s.serveEntries l = (l.foldl (fun x e => (x.serveEntry e).1) s, false) := by
  induction l generalizing s with
  | nil => rfl
  | cons e es ih =>
    rw [List.length_cons] at room
    obtain ⟨taken, length⟩ := serveEntry_room e (s := s) (by omega)
    unfold State.serveEntries
    dsimp only
    rw [ih (s := (s.serveEntry e).1) (by omega), taken]
    rfl

theorem serviceOpen_iff (s : State) : s.serviceOpen = true ↔
    s.jc.state = .run ∧ s.sg.obligation = false ∧ s.ct.relearn.isRunning = false ∧ s.pt.linkLost = false := by
  simp [State.serviceOpen, State.claimsClosed, and_assoc]

theorem servicePass_of_closed {s : State} (h : s.serviceOpen = false) : s.servicePass = s := by
  unfold State.servicePass servicePasses
  rw [h]
  rfl

theorem servicePass_of_room {s : State} (open_ : s.serviceOpen = true)
    (room : s.lc.queue.length + s.ct.waitList.length ≤ 8) :
    s.servicePass = s.ct.waitList.foldl (fun x e => (x.serveEntry e).1) s := by
  unfold State.servicePass servicePasses
  rw [open_, serveEntries_room _ room]
  rfl

/-! ### Requests (R98) -/

/-- A request for an antenna that the slot neither holds nor claims, nor a NEXT slot holds for MAIN, is a new claim. -/
theorem request_newClaim {s : State} {i : Slot} {a : Antenna} (w al : Bool) (next : i = .main → s.nextHolding a = none)
    (held : ∀ h, (s.slot i).held = some h → h.antenna ≠ a) (cand : ∀ x, (s.slot i).cand = some x → x.antenna ≠ a) :
    s.request i a w al = (s.consumeMask i a).newClaim i a (s.claimMask i a) w al := by
  have none : (if i = .main then s.nextHolding a else Option.none) = Option.none := by
    split
    next h => exact next h
    next => rfl
  unfold State.request
  rw [none]
  dsimp only
  rw [consumeMask_slot, if_neg]
  · cases hc : (s.slot i).cand with
    | none => rfl
    | some c =>
      dsimp only
      rw [if_neg (cand c hc)]
  · intro h
    obtain ⟨x, hx, e⟩ := Option.map_eq_some_iff.1 h
    exact held x hx e

theorem fullDenial_waitable (s : State) (a : Antenna) : (s.fullDenial a).waitable = true := by
  unfold State.fullDenial
  split <;> rfl

/-- QUEUE is no local check's refusal (R99, R100). -/
theorem localCheck_ne_queue (s : State) (i : Slot) (a : Antenna) (m : Mask) : s.localCheck i a m ≠ some .queue := by
  have full (x : Antenna) : s.fullDenial x ≠ .queue := fun h => by
    have waits := fullDenial_waitable s x
    rw [h] at waits
    cases waits
  unfold State.localCheck
  repeat' split
  all_goals simp [full]

/-! ### Keys in RUN (R191, R195, R196) -/

theorem panelKey_run {s : State} (c : Instr) (body : State → State × PanelOutcome) (run : s.jc.state = .run) :
    s.panelKey c true (State.inRun body) = (body s).1.answerRequest c (body s).2 := by
  unfold State.panelKey State.inRun
  rw [if_neg (by rw [run]; decide), if_pos rfl, if_pos run]

theorem answerRequest_pi {s : State} {c : Instr} {code : Byte} (hc : encodeKey c = some code) {o : PanelOutcome}
    (h : o ≠ .denied .queue) : (s.answerRequest c o).pi.answer = some ⟨.key code, o⟩ := by
  unfold State.answerRequest State.answerKey
  rw [if_neg h, hc]
  rfl

theorem answerRequest_queue (s : State) (c : Instr) :
    (s.answerRequest c (.denied .queue)).pi.answer = some ⟨.block (offeringBlock c), .denied .queue⟩ := rfl

/-- An answer touches the Panel Interface alone (R195). -/
theorem answerRequest_frame (s : State) (c : Instr) (o : PanelOutcome) :
    (s.answerRequest c o).ct = s.ct ∧ (s.answerRequest c o).lc = s.lc ∧ (s.answerRequest c o).hu = s.hu ∧
      (s.answerRequest c o).jc = s.jc ∧ (s.answerRequest c o).sg = s.sg ∧ (s.answerRequest c o).cu = s.cu ∧
      (s.answerRequest c o).fu = s.fu ∧ (s.answerRequest c o).pt = s.pt ∧ (s.answerRequest c o).ks = s.ks := by
  unfold State.answerRequest
  split <;> exact ⟨rfl, rfl, rfl, rfl, rfl, rfl, rfl, rfl, rfl⟩

theorem answerRequest_slot (s : State) (c : Instr) (o : PanelOutcome) (i : Slot) : (s.answerRequest c o).slot i = s.slot i :=
  slot_congr (congrArg _ (answerRequest_frame s c o).1) i

/-- A SELECT key, its antenna and the slot its request goes to (R98). -/
def Selects (s : State) (c : Instr) (i : Slot) (n : Nat) : Prop :=
  c = .selectMain n ∧ i = .main ∨ c = .selectAux n ∧ i = .aux ∨ c = .selectNext n ∧ i = s.nextSlot

theorem exec_select {s : State} {c : Instr} {i : Slot} {n : Nat} (key : Selects s c i n) (run : s.jc.state = .run)
    (low : 1 ≤ n) (high : n ≤ 32) : exec c s = .next (commit .nothing s
      ((s.request i n s.pi.waitMode false).1.answerRequest c (s.request i n s.pi.waitMode false).2)) := by
  have range : antennaArgOk n = true := by simp [antennaArgOk, low, high]
  obtain ⟨rfl, rfl⟩ | ⟨rfl, rfl⟩ | ⟨rfl, rfl⟩ := key
  · show Host.Outcome.next (commit .nothing s (s.panelKey _ (antennaArgOk n) _)) = _
    rw [range, panelKey_run _ _ run]
    rfl
  · show Host.Outcome.next (commit .nothing s (s.panelKey _ (antennaArgOk n) _)) = _
    rw [range, panelKey_run _ _ run]
    rfl
  · show Host.Outcome.next (commit .nothing s (s.panelKey _ (antennaArgOk n) _)) = _
    rw [range, panelKey_run _ _ run]
    rfl

theorem offeringBlock_select {s : State} {c : Instr} {i : Slot} {n : Nat} (key : Selects s c i n) : offeringBlock c = .ct := by
  obtain ⟨rfl, -⟩ | ⟨rfl, -⟩ | ⟨rfl, -⟩ := key <;> rfl

end Sys2Proof.Machine

namespace Sys2Proof.Proofs

open Sys2Proof.Machine

/-- Settles O31: the request is a new claim, started, refused by the queue, or refused by a check. -/
theorem selectQueuesCandidateOrRefuses : Obligations.SelectQueuesCandidateOrRefuses := by
  intro c i n code s key encoded run low high next held cand
  have request := request_newClaim s.pi.waitMode false next held cand
  obtain ⟨lc, jc, ps, pi, fu, waits, slots⟩ := consumeMask_frame s i n
  have checked := localCheck_consumeMask s i n i n (s.claimMask i n)
  refine ⟨fun check room => ⟨_, exec_select key run low high, ?_⟩,
    fun check full noStatus none => ⟨_, exec_select key run low high, ?_⟩,
    fun d check => ⟨_, exec_select key run low high, ?_⟩⟩
  · have claimed : s.request i n s.pi.waitMode false = (s.consumeMask i n).startClaim i n (s.claimMask i n) false := by
      rw [request]
      unfold State.newClaim
      rw [checked, check]
    obtain ⟨taken, cand', held', stands, list, -⟩ := startClaim_room_slot (s := s.consumeMask i n) (i := i) (a := n)
      (s.claimMask i n) false (by have := claimCleared_length (s.consumeMask i n) i n; rw [lc] at this; omega)
    rw [claimed, taken]
    rw [claimFrame_congr jc ps] at stands
    rw [answerRequest_slot, (answerRequest_frame _ c _).1, (answerRequest_frame _ c _).2.1]
    refine ⟨cand', held'.trans (by rw [consumeMask_slot]), stands, fun e he => ?_, answerRequest_pi encoded nofun⟩
    rw [list] at he
    simpa using (List.mem_filter.1 he).2
  · have claimed : s.request i n s.pi.waitMode false = (s.consumeMask i n).startClaim i n (s.claimMask i n) false := by
      rw [request]
      unfold State.newClaim
      rw [checked, check]
    have cleared : (s.consumeMask i n).claimCleared i n = (s.consumeMask i n).unwait n :=
      claimCleared_of_none n (by rw [consumeMask_slot]; exact none)
    have queue : ((s.consumeMask i n).claimCleared i n).lc = s.lc := by rw [cleared]; exact lc
    obtain ⟨refused, cand', held', same⟩ := startClaim_full (s := s.consumeMask i n) (i := i) (a := n) (s.claimMask i n) false
      (by rw [queue]; exact full) (by rw [queue, noStatus]; rfl)
    rw [claimed, refused, answerRequest_slot, (answerRequest_frame _ c _).2.1]
    refine ⟨cand', held'.trans ?_, same.trans (by rw [queue]), ?_⟩
    · rw [cleared]
      show ((s.consumeMask i n).slot i).held = _
      rw [consumeMask_slot]
    · rw [answerRequest_queue, offeringBlock_select key]
  · have claimed : s.request i n s.pi.waitMode false =
        if d.waitable && s.pi.waitMode then
          if ((s.consumeMask i n).waitEntry n).isSome then (s.consumeMask i n, .waiting)
          else (s.consumeMask i n).placeWait ⟨n, i, s.claimMask i n, false⟩
        else (s.consumeMask i n, .denied d) := by
      rw [request]
      unfold State.newClaim
      rw [checked, check]
    have kept : (s.request i n s.pi.waitMode false).1.ct.slots = s.ct.slots ∧
        (s.request i n s.pi.waitMode false).1.lc = s.lc := by
      rw [claimed]
      split
      · split
        · exact ⟨slots, lc⟩
        · unfold State.placeWait
          split <;> exact ⟨slots, lc⟩
      · exact ⟨slots, lc⟩
    rw [(answerRequest_frame _ c _).1, (answerRequest_frame _ c _).2.1]
    refine ⟨kept.1, kept.2, fun refused => ?_, fun waitable mode fresh space => ?_⟩
    · have no : ¬ (d.waitable && s.pi.waitMode) = true := by obtain h | h := refused <;> simp [h]
      rw [claimed, if_neg no]
      refine ⟨answerRequest_pi encoded ?_, waits⟩
      intro h
      cases h
      exact localCheck_ne_queue _ _ _ _ check
    · have entry : (s.consumeMask i n).waitEntry n = Option.none := by
        unfold State.waitEntry
        rw [waits]
        exact fresh
      rw [claimed, if_pos (by simp [waitable, mode]), entry]
      unfold State.placeWait
      rw [waits]
      simp only [Option.isSome_none, Bool.false_eq_true, if_false, if_pos space]
      exact ⟨answerRequest_pi encoded nofun, by rw [State.setCt_ct]⟩

end Sys2Proof.Proofs

/-! SUPPORT. Service, auto-select, promotion and drops at the slots (R98, R109, R112, R114, R115). -/

namespace Sys2Proof.Machine

/-! ### Promotion (R115) -/

/-- An assert CLAIM leaves its slot but for the pacing mark, and the other slots (R107). -/
theorem offerAssert_slot (s : State) (i : Slot) (a : Antenna) (m : Mask) (t : Nat) :
    ((s.offerAssert i a m t).slot i = s.slot i ∨ ∃ n, (s.offerAssert i a m t).slot i = (s.slot i).paced a n) ∧
      ∀ j, j ≠ i → (s.offerAssert i a m t).slot j = s.slot j := by
  unfold State.offerAssert
  dsimp only
  split
  · exact ⟨.inl (offer_slot ..), fun j _ => offer_slot ..⟩
  · refine ⟨.inr ⟨(s.offer (s.claimFrame i a m true t)).1.now, ?_⟩, fun j hj => ?_⟩
    · rw [slot_setSlot_self, offer_slot]
    · rw [slot_setSlot_ne _ _ hj, offer_slot]

theorem paced_held {r : SlotRecord} {h : HeldPart} (a : Antenna) (n : Nat) (held : r.held = some h) :
    ∃ h', (r.paced a n).held = some h' ∧ h' = { h with lastAssert := h'.lastAssert } := by
  refine ⟨if h.antenna = a then { h with lastAssert := some n } else h, by simp [SlotRecord.paced, held], ?_⟩
  split <;> rfl

/-- The hold of a NEXT slot moves into MAIN, and what MAIN held is FREEING (R115). -/
theorem promote_slots {s : State} {n : Slot} {h : HeldPart} (apart : n ≠ .main) (held : (s.slot n).held = some h) :
    (∃ h', ((s.promote n).slot .main).held = some h' ∧ h' = { h with drive := h.mask, lastAssert := h'.lastAssert }) ∧
      ((s.promote n).slot .main).cand = none ∧
      ((s.promote n).slot .main).freeing = (s.slot .main).freeing ++ (match (s.slot .main).held with
        | some old => [⟨old.antenna, old.mask, old.drive, old.tenure, old.tenureLink, .voluntary, none, false⟩]
        | none => []) ∧
      ((s.promote n).slot n).held = none ∧ ((s.promote n).slot n).cand = (s.slot n).cand ∧
      ((s.promote n).slot n).freeing = (s.slot n).freeing := by
  generalize freed : (s.dropCandidate .main .voluntary).freeHold .main .voluntary none = u
  have main : u.slot .main = { s.slot .main with
      cand := none, held := none,
      freeing := (s.slot .main).freeing ++ (match (s.slot .main).held with
        | some old => [old.freed .voluntary none]
        | none => []) } := by
    rw [← freed, freeHold_slot_self, dropCandidate_slot_self] <;> rfl
  have next : u.slot n = s.slot n := by
    rw [← freed, freeHold_slot_ne _ _ _ apart, dropCandidate_slot_ne _ _ apart]
  generalize moved : (u.setSlot n { u.slot n with held := none }).setSlot .main
    { (u.setSlot n { u.slot n with held := none }).slot .main with held := some { h with drive := h.mask } } = v
  have promoted : s.promote n = v.offerAssert .main h.antenna h.mask h.tenure := by
    rw [← moved, ← freed]
    unfold State.promote
    rw [held]
  have vMain : v.slot .main = { u.slot .main with held := some { h with drive := h.mask } } := by
    rw [← moved, slot_setSlot_self, slot_setSlot_ne _ _ (Ne.symm apart)]
  have vNext : v.slot n = { u.slot n with held := none } := by
    rw [← moved, slot_setSlot_ne _ _ apart, slot_setSlot_self]
  obtain ⟨self, others⟩ := offerAssert_slot v .main h.antenna h.mask h.tenure
  rw [promoted, others n apart, vNext, next]
  refine ⟨?_, ?_, ?_, rfl, rfl, rfl⟩
  · obtain e | ⟨k, e⟩ := self
    · rw [e, vMain]
      exact ⟨_, rfl, rfl⟩
    · obtain ⟨h', eh, same⟩ := paced_held (r := v.slot .main) h.antenna k (by rw [vMain])
      rw [e]
      exact ⟨h', eh, by rw [same]⟩
  · obtain e | ⟨k, e⟩ := self
    · rw [e, vMain, main]
    · rw [e, vMain, main]
      rfl
  · have freeing : (v.slot .main).freeing = (u.slot .main).freeing := by rw [vMain]
    have whole := freeing.trans (congrArg SlotRecord.freeing main)
    obtain e | ⟨k, e⟩ := self
    · rw [e]
      exact whole
    · rw [e]
      exact whole

/-! ### Auto-select (R114) -/

theorem mainCovers_eq_false {s : State} (cand : ∀ c, (s.slot .main).cand = some c → (s.antenna c.antenna).covers s.fu.band = false)
    (held : ∀ h, (s.slot .main).held = some h → (s.antenna h.antenna).covers s.fu.band = false) : s.mainCovers = false := by
  unfold State.mainCovers
  cases hc : (s.slot .main).cand with
  | none =>
    cases hh : (s.slot .main).held with
    | none => rfl
    | some h => simp [held h hh]
  | some c =>
    cases hh : (s.slot .main).held with
    | none => simp [cand c hc]
    | some h => simp [cand c hc, held h hh]

/-- With MAIN uncovered, auto-select drops the candidate and goes on (R114). -/
theorem autoSelect_open {s : State} (band : s.fu.band ≠ 0) (closed : s.claimsClosed = false) (uncovered : s.mainCovers = false) :
    s.autoSelect = match (s.dropCandidate .main .voluntary).nextCovering with
      | some n => (s.dropCandidate .main .voluntary).promote n
      | none => if (s.dropCandidate .main .voluntary).defaultMain = 0 then s.dropCandidate .main .voluntary
          else State.showRefusal ((s.dropCandidate .main .voluntary).request .main
            (s.dropCandidate .main .voluntary).defaultMain true true) := by
  unfold State.autoSelect
  exact if_neg (by simp [band, closed, uncovered])

theorem dropMain_next (s : State) (j : Slot) (h : j ≠ .main) : (s.dropCandidate .main .voluntary).slot j = s.slot j :=
  dropCandidate_slot_ne s .voluntary h

theorem dropMain_held (s : State) (j : Slot) : ((s.dropCandidate .main .voluntary).slot j).held = (s.slot j).held := by
  by_cases hj : j = .main
  · rw [hj, dropCandidate_slot_self]
  · rw [dropMain_next s j hj]

theorem antenna_congr {s t : State} (ps : t.ps = s.ps) (a : Antenna) : t.antenna a = s.antenna a := by
  simp only [State.antenna, ps]

theorem dropMain_nextCovering (s : State) : (s.dropCandidate .main .voluntary).nextCovering = s.nextCovering := by
  obtain ⟨-, ps, -, fu, -⟩ := dropCandidate_frame s .main .voluntary
  unfold State.nextCovering
  simp only [dropMain_held, antenna_congr ps, fu]

theorem dropMain_defaultMain (s : State) : (s.dropCandidate .main .voluntary).defaultMain = s.defaultMain := by
  obtain ⟨jc, ps, -, fu, -⟩ := dropCandidate_frame s .main .voluntary
  have row : (s.dropCandidate .main .voluntary).row = s.row := by
    funext p
    simp only [State.row, ps]
  simp only [State.defaultMain, State.ownRow, row, jc, fu]

theorem dropMain_nextHolding (s : State) (a : Antenna) : (s.dropCandidate .main .voluntary).nextHolding a = s.nextHolding a := by
  unfold State.nextHolding
  simp only [dropMain_held]

theorem dropMain_claimMask (s : State) (i : Slot) (a : Antenna) :
    (s.dropCandidate .main .voluntary).claimMask i a = s.claimMask i a := by
  obtain ⟨-, ps, -, -, -, -, mask⟩ := dropCandidate_frame s .main .voluntary
  have group : (s.dropCandidate .main .voluntary).groupOf a = s.groupOf a := by
    simp only [State.groupOf, ps]
  unfold State.claimMask
  rw [group, mask]

theorem defaultMain_eq {s : State} {r : PositionRow} (band : s.fu.band ≠ 0) (own : s.ownRow = some r) :
    s.defaultMain = r.defaults.getD (s.fu.band - 1) 0 := by
  unfold State.defaultMain
  rw [own]
  exact if_neg band

theorem claimsClosed_eq_false {s : State} (run : s.jc.state = .run) (owed : s.sg.obligation = false) : s.claimsClosed = false := by
  simp [State.claimsClosed, run, owed]

/-! ### Drops (R109) -/

/-- A dropped slot holds and claims nothing, and its hold is FREEING (R109). -/
theorem dropSlot_slot (s : State) (i : Slot) :
    ((s.dropSlot i).slot i).held = none ∧ ((s.dropSlot i).slot i).cand = none ∧
      ((s.dropSlot i).slot i).freeing = (s.slot i).freeing ++ (match (s.slot i).held with
        | some h => [h.freed .voluntary none]
        | none => []) ∧ ∀ j, j ≠ i → (s.dropSlot i).slot j = s.slot j := by
  unfold State.dropSlot
  rw [dropCandidate_slot_self, freeHold_slot_self]
  exact ⟨rfl, rfl, rfl, fun j hj => by rw [dropCandidate_slot_ne _ _ hj, freeHold_slot_ne _ _ _ hj]⟩

theorem dropSlot_waitList (s : State) (i : Slot) : (s.dropSlot i).ct.waitList = s.ct.waitList := by
  unfold State.dropSlot
  rw [(dropCandidate_frame ..).2.2.2.2.2.1, freeHold_waitList]

theorem unsent_dropUnsent (p : LinkFrame → Bool) (q : List QueueEntry) : unsent p (dropUnsent p q) = none := by
  rw [← Option.not_isSome_iff_eq_none, unsent_isSome]
  rintro ⟨e, he, idle, hp⟩
  simp [dropUnsent, idle, hp] at he

theorem unsent_withdraw (p : LinkFrame → Bool) (lc : LinkCtl) : unsent p (lc.withdraw p).queue = none := by
  rw [← Option.not_isSome_iff_eq_none, unsent_isSome]
  rintro ⟨e, he, idle, hp⟩
  obtain ⟨x, hx, rfl⟩ := List.mem_map.1 he
  by_cases flown : (x.inFlight && p x.frame) = true
  · rw [if_pos flown] at idle
    rw [show x.inFlight = false from idle] at flown
    cases flown
  · rw [if_neg flown] at idle hp
    simp [dropUnsent, idle, hp] at hx

/-- A dropped QUEUED candidate's CLAIM is gone from the unsent frames (R98, R109). -/
theorem dropSlot_claim {s : State} {i : Slot} {x : Candidate} (cand : (s.slot i).cand = some x) (queued : x.phase = .queued) :
    unsent (isPlainClaimFor i x.antenna) (s.dropSlot i).lc.queue = none := by
  have same : ((s.freeHold i .voluntary none).slot i).cand = some x := by
    rw [freeHold_slot_self]
    exact cand
  unfold State.dropSlot State.dropCandidate
  rw [same]
  dsimp only
  rw [queued]
  exact unsent_withdraw _ _

/-- A drop key and its slot (R192). -/
def Drops (s : State) (c : Instr) (i : Slot) : Prop :=
  c = .dropMain ∧ i = .main ∨ c = .dropAux ∧ i = .aux ∨
    c = .dropNext ∧ i = (if (s.slot .nextB).held.isSome ∨ (s.slot .nextB).cand.isSome then .nextB else .nextA)

theorem exec_drop {s : State} {c : Instr} {i : Slot} (key : Drops s c i) (run : s.jc.state = .run) :
    exec c s = .next (commit .nothing s ((s.dropSlot i).answerRequest c .accepted)) := by
  obtain ⟨rfl, rfl⟩ | ⟨rfl, rfl⟩ | ⟨rfl, rfl⟩ := key
  · show Host.Outcome.next (commit .nothing s (s.panelKey _ true _)) = _
    rw [panelKey_run _ _ run]
    rfl
  · show Host.Outcome.next (commit .nothing s (s.panelKey _ true _)) = _
    rw [panelKey_run _ _ run]
    rfl
  · have slot : s.dropNextSlot = if (s.slot .nextB).held.isSome ∨ (s.slot .nextB).cand.isSome then .nextB else .nextA := by
      unfold State.dropNextSlot State.slotOpen
      cases (s.slot .nextB).held <;> cases (s.slot .nextB).cand <;> rfl
    show Host.Outcome.next (commit .nothing s (s.panelKey _ true _)) = _
    rw [panelKey_run _ _ run, ← slot]
    rfl

end Sys2Proof.Machine

namespace Sys2Proof.Proofs

open Sys2Proof.Machine

/-- Settles O30: the reactions by `commit_slotsStay`; service and auto-select by their cases. -/
theorem reactionsKeepSlots : Obligations.ReactionsKeepSlots := by
  refine ⟨fun heard before s band owed live i => ?_, fun s => ⟨fun closed => ?_, fun run owed quiet linked room => ?_, fun e => ⟨fun h => ?_,
    fun none agreed => ⟨fun d check fails => ?_, fun check room => ?_⟩⟩⟩, fun s => ⟨fun covered => ?_,
    fun band run owed cand held => ⟨fun n h next holds => ?_, fun next r own zero => ?_, fun next r a own row some_ apart other room check => ?_⟩⟩⟩
  · obtain ⟨record, hold⟩ := commit_slotsStay heard band owed live i
    refine ⟨fun none => ?_, fun h e shrink give => ?_, fun c e => ?_⟩
    · cases after : ((commit heard before s).slot i).held with
      | none => rfl
      | some h' =>
        obtain ⟨h, eh, -⟩ := record.noHold h' after
        rw [none] at eh
        cases eh
    · obtain ⟨h', e', same⟩ := hold h e shrink give
      refine ⟨h', e', ?_⟩
      rw [same]
      exact ⟨rfl, rfl, rfl, rfl, rfl, rfl, shrink, give⟩
    · obtain ⟨c', e', same, -⟩ := record.cand c e
      refine ⟨c', e', ?_⟩
      rw [same]
      exact ⟨rfl, rfl, rfl, rfl⟩
  · refine servicePass_of_closed (Bool.eq_false_iff.2 fun open_ => ?_)
    obtain ⟨run, owed, quiet, linked⟩ := (serviceOpen_iff s).1 open_
    simp [run, owed, quiet, linked] at closed
  · exact servicePass_of_room ((serviceOpen_iff s).2 ⟨run, owed, quiet, linked⟩) room
  · rw [serveEntry_passed h]
  · rw [serveEntry_refused ⟨none, agreed⟩ check fails]
    exact ⟨rfl, rfl, rfl, rfl⟩
  · obtain ⟨cand, held, list, stands, -⟩ := serveEntry_served_slot ⟨none, agreed⟩ check room
    exact ⟨cand, held, list, stands⟩
  · unfold State.autoSelect
    refine if_pos ?_
    obtain h | h | h | ⟨c, hc, h⟩ | ⟨x, hx, h⟩ := covered
    · exact .inl h
    · exact .inr (.inl (by simp [State.claimsClosed, h]))
    · exact .inr (.inl (by simp [State.claimsClosed, h]))
    · exact .inr (.inr (by simp [State.mainCovers, hc, h]))
    · exact .inr (.inr (by simp [State.mainCovers, hx, h]))
  all_goals rw [autoSelect_open band (claimsClosed_eq_false run owed) (mainCovers_eq_false cand held), dropMain_nextCovering, next]
  · have hn := nextCovering_ne_main next
    obtain ⟨⟨h', e', same⟩, noCand, -, gone, -⟩ := promote_slots hn (s := s.dropCandidate .main .voluntary) (h := h)
      (by rw [dropMain_held]; exact holds)
    refine ⟨⟨h', e', ?_⟩, gone, noCand⟩
    rw [same]
    exact ⟨rfl, rfl, rfl, rfl⟩
  · dsimp only
    rw [dropMain_defaultMain, defaultMain_eq band own, if_pos zero]
    exact ⟨by rw [dropCandidate_slot_self], by rw [dropMain_held]⟩
  · dsimp only
    rw [dropMain_defaultMain, defaultMain_eq band own, row, if_neg some_]
    have noCand : ((s.dropCandidate .main .voluntary).slot .main).cand = none := by rw [dropCandidate_slot_self]
    have request : (s.dropCandidate .main .voluntary).request .main a true true =
        ((s.dropCandidate .main .voluntary).consumeMask .main a).startClaim .main a (s.claimMask .main a) true := by
      rw [request_newClaim true true (fun _ => by rw [dropMain_nextHolding]; exact apart)
        (fun h e => other h (by rw [← dropMain_held]; exact e)) (fun x e => by rw [noCand] at e; cases e)]
      unfold State.newClaim
      rw [localCheck_consumeMask, dropMain_claimMask, check]
    have length := (dropCandidate_frame s .main .voluntary).2.2.2.2.1
    obtain ⟨taken, cand', held', -⟩ := startClaim_room_slot (s := (s.dropCandidate .main .voluntary).consumeMask .main a)
      (i := .main) (a := a) (s.claimMask .main a) true (by
        rw [claimCleared_of_none a (by rw [consumeMask_slot]; exact noCand), State.unwait, State.setCt_lc, (consumeMask_frame ..).1]
        omega)
    have shown : State.showRefusal ((s.dropCandidate .main .voluntary).request .main a true true) =
        (((s.dropCandidate .main .voluntary).consumeMask .main a).startClaim .main a (s.claimMask .main a) true).1 := by
      rw [request]
      unfold State.showRefusal
      rw [taken]
    rw [shown]
    exact ⟨cand', held'.trans (by rw [consumeMask_slot, dropMain_held])⟩

/-- Settles O32. -/
theorem selectOfOwnAntennaPromotesOrRepeats : Obligations.SelectOfOwnAntennaPromotesOrRepeats := by
  refine ⟨fun n k h s run low high next held => ⟨_, exec_select (i := .main) (.inl ⟨rfl, rfl⟩) run low high, ?_⟩,
    fun c i n code h s key encoded run low high held antenna noPort => ?_⟩
  · have request : s.request .main n s.pi.waitMode false = s.requestPromotion k n := by
      unfold State.request
      rw [if_pos rfl, next]
    have code : encodeKey (.selectMain n) = some (BitVec.ofNat 8 n) := rfl
    rw [request]
    refine ⟨fun owed covers => ?_, fun owed => ?_, fun owed band uncovered => ?_⟩
    · have promoted : s.requestPromotion k n = (s.promote k, .accepted) := by
        unfold State.requestPromotion
        rw [claimsClosed_eq_false run owed, if_neg (by decide), if_neg]
        obtain h | h := covers <;> simp [h]
      rw [promoted]
      simp only [answerRequest_slot]
      obtain ⟨moved, cand, freeing, gone, cand', freeing'⟩ := promote_slots (nextHolding_ne_main next) held
      exact ⟨moved, cand, freeing, gone, cand', freeing', answerRequest_pi code nofun⟩
    · have refused : s.requestPromotion k n = (s, .denied .notRunning) := by
        unfold State.requestPromotion
        rw [if_pos (by simp [State.claimsClosed, owed])]
      rw [refused]
      exact ⟨(answerRequest_frame ..).1, answerRequest_pi (o := .denied .notRunning) code (by decide)⟩
    · have refused : s.requestPromotion k n = (s, .denied .notCovered) := by
        unfold State.requestPromotion
        rw [claimsClosed_eq_false run owed, if_neg (by decide), if_pos (by simp [band, uncovered])]
      rw [refused]
      exact ⟨(answerRequest_frame ..).1, answerRequest_pi (o := .denied .notCovered) code (by decide)⟩
  · have selects : Selects s c i n := by
      obtain ⟨h1, h2, -⟩ | h | h := key
      · exact .inl ⟨h1, h2⟩
      · exact .inr (.inl h)
      · exact .inr (.inr h)
    have none : (if i = .main then s.nextHolding n else Option.none) = Option.none := by
      split
      next hi =>
        obtain ⟨-, -, e⟩ | ⟨-, e⟩ | ⟨-, e⟩ := key
        · exact e
        · rw [hi] at e
          cases e
        · rw [hi] at e
          unfold State.nextSlot at e
          split at e <;> cases e
      next => rfl
    have port : s.isPort n = false := by simp [State.isPort, noPort]
    have mask : s.consumeMask i n = s := by
      unfold State.consumeMask
      rw [if_neg (by simp [port])]
    have request : s.request i n s.pi.waitMode false = (s, .accepted) := by
      unfold State.request
      rw [none]
      dsimp only
      rw [mask, held, if_pos (by rw [← antenna]; rfl), noPort]
      cases i <;> rfl
    rw [exec_select selects run low high, request]
    rfl

/-- Settles O36. -/
theorem dropKeysFreeSlot : Obligations.DropKeysFreeSlot := by
  intro c i code s key encoded run
  obtain ⟨held, cand, freeing, others⟩ := dropSlot_slot s i
  refine ⟨_, exec_drop key run, ?_⟩
  simp only [answerRequest_slot, (answerRequest_frame _ c _).1, (answerRequest_frame _ c _).2.1]
  exact ⟨held, cand, freeing, fun x hx queued => dropSlot_claim hx queued, answerRequest_pi encoded nofun, others,
    dropSlot_waitList s i⟩

/-- Settles O34. -/
theorem windowExpiryMakesHold : Obligations.WindowExpiryMakesHold := by
  intro i s c due cand phase
  have ends : s.slotWindowEnds i = (s.reach due).windowEnds i c := by
    unfold State.slotWindowEnds
    rw [cand]
    dsimp only
    rw [phase]
  have freed := freeHold_slot_self (s.reach due) i .voluntary none
  have kept := (freeHold_moves (s.reach due) i .voluntary none).kept
  refine ⟨_, (rfl : exec (.claimWindowExpiry i) s = .next (commit .nothing s (s.slotWindowEnds i))), ?_⟩
  rw [ends]
  have self : ((s.reach due).windowEnds i c).slot i = { ((s.reach due).freeHold i .voluntary none).slot i with
      held := some (c.hold i (((s.reach due).freeHold i .voluntary none).timerFor
        ((s.reach due).freeHold i .voluntary none).period)), cand := none } := slot_setSlot_self ..
  have period : ((s.reach due).freeHold i .voluntary none).period = s.period := by
    simp only [State.period, State.timing, kept.ps]
    rfl
  have now : ((s.reach due).freeHold i .voluntary none).now = max s.now due := kept.now
  refine ⟨now, by rw [self], ⟨_, by rw [self], rfl, rfl, rfl, rfl, ?_, rfl, rfl, rfl, fun hi => ?_⟩, ?_, fun j hj => ?_,
    commit_relaysOk _ _ _⟩
  · show Timer.running (((s.reach due).freeHold i .voluntary none).now + _) = _
    rw [now, period]
  · show (if i = .main then c.mask else 0) = c.mask
    rw [if_pos hi]
  · rw [self, freed]
    rfl
  · show (State.setSlot _ i _).slot j = _
    rw [slot_setSlot_ne _ _ hj, freeHold_slot_ne _ _ _ hj]
    rfl

end Sys2Proof.Proofs

/-! SUPPORT. KEY frames at the queue, and the Key Sequencer's and the Relay Driver's own commands (3.5, 10.1, 10.2). -/

namespace Sys2Proof.Machine

/-! ### The queue once a frame has gone out (R46) -/

/-- The queue of a part whose frame in flight has gone out holds its unsent frames alone. -/
def landedQueue (q : List QueueEntry) : List QueueEntry := q.filter (fun e => !e.inFlight)

theorem flights_landedQueue (q : List QueueEntry) : flights (landedQueue q) = [] := by
  simp [flights, landedQueue, List.filter_filter]

theorem flyingIs_landedQueue (p : LinkFrame → Bool) (q : List QueueEntry) : flyingIs p (landedQueue q) = false := by
  simp +contextual [flyingIs, landedQueue]

theorem unsent_landedQueue (p : LinkFrame → Bool) (q : List QueueEntry) : unsent p (landedQueue q) = unsent p q := by
  unfold unsent landedQueue
  rw [List.find?_filter]
  refine congrArg (Option.map _) (congrArg (fun r => List.find? r q) (funext fun e => ?_))
  cases e.inFlight <;> simp

/-- The frame in flight is one of the queue's. -/
theorem exists_of_flight {s : State} {p : LinkFrame → Bool} {f : LinkFrame} (h : s.flight p = some f) :
    ∃ e ∈ s.lc.queue, e.inFlight = true ∧ e.frame = f ∧ p f = true := by
  unfold State.flight at h
  cases hf : flying s.lc.queue with
  | none => simp [hf] at h
  | some e =>
    obtain ⟨hp, rfl⟩ : p e.frame = true ∧ e.frame = f := by simpa [hf] using h
    unfold flying at hf
    exact ⟨e, List.mem_of_find?_eq_some hf, by simpa using List.find?_some hf, rfl, hp⟩

/-- A frame that has gone out makes room. -/
theorem landedQueue_length_lt {s : State} {p : LinkFrame → Bool} {f : LinkFrame} (h : s.flight p = some f) :
    (landedQueue s.lc.queue).length < s.lc.queue.length := by
  obtain ⟨e, he, flown, -⟩ := exists_of_flight h
  exact List.length_filter_lt_length_iff_exists.2 ⟨e, he, by simp [flown]⟩

/-! ### A KEY offered (R48 to R50) -/

theorem offer_key_held {s : State} {p : Position} (k : KeyFrame) (flown : flyingIs isKey s.lc.queue = true) :
    s.offer ⟨p, .key k⟩ = (s.setLc { s.lc with heldKey := some ⟨p, .key k⟩ }, .heldOffer) := by
  simp [State.offer, LinkCtl.offer, flown]

theorem offer_key_cancels {s : State} {p : Position} {k : KeyFrame} {old : LinkFrame}
    (idle : flyingIs isKey s.lc.queue = false) (h : unsent isKey s.lc.queue = some old) (off : k.on = false)
    (plain : isPlainKeyOn old = true) :
    s.offer ⟨p, .key k⟩ = (s.setLc { s.lc with queue := dropUnsent isKey s.lc.queue }, .cancelled) := by
  simp [State.offer, LinkCtl.offer, idle, h, off, plain]

theorem offer_key_replaces {s : State} {p : Position} {k : KeyFrame} {old : LinkFrame}
    (idle : flyingIs isKey s.lc.queue = false) (h : unsent isKey s.lc.queue = some old)
    (stays : k.on = true ∨ isPlainKeyOn old = false) :
    s.offer ⟨p, .key k⟩ =
      (s.setLc { s.lc with queue := replaceUnsent isKey ⟨p, .key k⟩ s.lc.queue }, .replaced) := by
  have shut : (!k.on && isPlainKeyOn old) = false := by
    obtain on | old := stays
    · simp [on]
    · simp [old]
  simp [State.offer, LinkCtl.offer, idle, h, shut]

theorem key_noKin {lc : LinkCtl} {p : Position} (k : KeyFrame) (idle : flyingIs isKey lc.queue = false)
    (none : unsent isKey lc.queue = none) : lc.NoKin ⟨p, .key k⟩ :=
  .inr (.inr (.inr (.inr (.inr ⟨rfl, idle, by simp [none]⟩))))

/-- With a STATUS to displace a KEY enters a full queue (R50). -/
theorem offer_key_displaces {s : State} {p : Position} (k : KeyFrame) (idle : flyingIs isKey s.lc.queue = false)
    (none : unsent isKey s.lc.queue = none) (full : 8 ≤ s.lc.queue.length)
    (status : (unsent isStatus s.lc.queue).isSome = true) :
    (s.offer ⟨p, .key k⟩).2 = .displacing ∧
      ∃ e ∈ (s.offer ⟨p, .key k⟩).1.lc.queue, e.inFlight = false ∧ e.frame = ⟨p, .key k⟩ := by
  have entered : s.lc.offer ⟨p, .key k⟩ =
      ({ s.lc with queue := enqueue ⟨⟨p, .key k⟩, false, false⟩ (dropUnsent isStatus s.lc.queue) }, .displacing) := by
    rw [LinkCtl.offer_of_noKin (key_noKin k idle none)]
    unfold LinkCtl.enter
    rw [if_neg (by omega), if_pos (by simp [status, FrameBody.classValue])]
  unfold State.offer
  rw [entered]
  exact ⟨rfl, ⟨⟨p, .key k⟩, false, false⟩, mem_enqueue.2 (.inl rfl), rfl, rfl⟩

/-- The queue takes a KEY on: it has room, a STATUS to displace, or a KEY that the new one follows or replaces. -/
def LinkCtl.TakesKey (lc : LinkCtl) : Prop :=
  lc.queue.length < 8 ∨ flyingIs isKey lc.queue = true ∨ (unsent isKey lc.queue).isSome ∨ (unsent isStatus lc.queue).isSome

/-- Where a taken KEY on stands: it is the held offer while a KEY is in flight, and unsent in the queue else (R49). -/
def LinkCtl.KeyTaken (before after : LinkCtl) (f : LinkFrame) : Prop :=
  if flyingIs isKey before.queue = true then after.heldKey = some f
  else ∃ e ∈ after.queue, e.inFlight = false ∧ e.frame = f

theorem exists_replaced {p : LinkFrame → Bool} {q : List QueueEntry} {old : LinkFrame} (h : unsent p q = some old)
    (f : LinkFrame) : ∃ e ∈ replaceUnsent p f q, e.inFlight = false ∧ e.frame = f := by
  obtain ⟨e, he, idle, hp⟩ := unsent_isSome.1 (show (unsent p q).isSome = true by rw [h]; rfl)
  exact ⟨{ e with frame := f }, List.mem_map.2 ⟨e, he, by simp [idle, hp]⟩, idle, rfl⟩

/-- A KEY on offered to a queue that takes it stands there. -/
theorem offer_keyOn {s : State} {p : Position} {k : KeyFrame} (on : k.on = true) (takes : s.lc.TakesKey) :
    (s.offer ⟨p, .key k⟩).2 ≠ .refused ∧ s.lc.KeyTaken (s.offer ⟨p, .key k⟩).1.lc ⟨p, .key k⟩ := by
  unfold LinkCtl.KeyTaken
  cases flown : flyingIs isKey s.lc.queue with
  | true =>
    rw [offer_key_held k flown]
    exact ⟨nofun, rfl⟩
  | false =>
    rw [if_neg nofun]
    cases old : unsent isKey s.lc.queue with
    | some x =>
      rw [offer_key_replaces flown old (.inl on)]
      exact ⟨nofun, exists_replaced old _⟩
    | none =>
      by_cases room : s.lc.queue.length < 8
      · rw [offer_enters (key_noKin k flown old) room]
        exact ⟨nofun, ⟨⟨p, .key k⟩, false, false⟩, mem_enqueue.2 (.inl rfl), rfl, rfl⟩
      · have status : (unsent isStatus s.lc.queue).isSome = true := by
          obtain h | h | h | h := takes
          · exact absurd h room
          · rw [flown] at h; cases h
          · rw [old] at h; cases h
          · exact h
        obtain ⟨result, stands⟩ := offer_key_displaces (p := p) k flown old (by omega) status
        exact ⟨by rw [result]; nofun, stands⟩

/-- A queue that does not take a KEY on refuses it. -/
theorem offer_keyOn_refused {s : State} {p : Position} (k : KeyFrame) (full : ¬ s.lc.TakesKey) :
    s.offer ⟨p, .key k⟩ = (s.setLc { s.lc with overflows := satSucc 255 s.lc.overflows }, .refused) := by
  unfold LinkCtl.TakesKey at full
  simp only [not_or, Bool.not_eq_true] at full
  obtain ⟨len, flown, key, status⟩ := full
  exact offer_refused (key_noKin k flown (by simpa using key)) (by omega) (.inr status)

/-- Where a KEY off stands once offered: held while a KEY is in flight, gone with the KEY on it cancels, else unsent in the
queue, where that has room (R48, R49). -/
def LinkCtl.KeyOffTaken (before after : LinkCtl) (f : LinkFrame) : Prop :=
  if flyingIs isKey before.queue = true then after.heldKey = some f ∧ after.queue = before.queue
  else match unsent isKey before.queue with
    | some k => if isPlainKeyOn k = true then unsent isKey after.queue = none
        else ∃ e ∈ after.queue, e.inFlight = false ∧ e.frame = f
    | none => (before.queue.length < 8 ∨ (unsent isStatus before.queue).isSome = true) →
        ∃ e ∈ after.queue, e.inFlight = false ∧ e.frame = f

theorem offer_keyOff {s : State} {p : Position} {k : KeyFrame} (off : k.on = false) :
    s.lc.KeyOffTaken (s.offer ⟨p, .key k⟩).1.lc ⟨p, .key k⟩ := by
  unfold LinkCtl.KeyOffTaken
  cases flown : flyingIs isKey s.lc.queue with
  | true =>
    rw [offer_key_held k flown]
    exact ⟨rfl, rfl⟩
  | false =>
    rw [if_neg nofun]
    cases old : unsent isKey s.lc.queue with
    | some x =>
      cases plain : isPlainKeyOn x with
      | true =>
        rw [offer_key_cancels flown old off plain]
        exact (if_pos plain).mpr (unsent_dropUnsent _ _)
      | false =>
        rw [offer_key_replaces flown old (.inr plain)]
        exact (if_neg (by simp [plain])).mpr (exists_replaced old _)
    | none =>
      intro room
      by_cases len : s.lc.queue.length < 8
      · rw [offer_enters (key_noKin k flown old) len]
        exact ⟨⟨⟨p, .key k⟩, false, false⟩, mem_enqueue.2 (.inl rfl), rfl, rfl⟩
      · exact (offer_key_displaces k flown old (by omega) (room.resolve_left len)).2

/-! ### The sequencer's operations -/

/-- A KEY on announced sets the outstanding mark where the queue has taken it (R162). -/
theorem hasKeyOn_of_taken {before lc : LinkCtl} {f : LinkFrame} (plain : isPlainKeyOn f = true)
    (h : before.KeyTaken lc f) : lc.hasKeyOn = true := by
  unfold LinkCtl.KeyTaken at h
  unfold LinkCtl.hasKeyOn
  split at h
  · simp [h, plain]
  · obtain ⟨e, he, -, rfl⟩ := h
    simp only [Bool.or_eq_true, List.any_eq_true]
    exact .inl ⟨e, he, plain⟩

theorem announceKey_taken {s : State} (takes : s.lc.TakesKey) :
    s.announceKey.ks = { s.ks with state := .announce, keyOnOutstanding := true } ∧
      s.lc.KeyTaken s.announceKey.lc (s.keyFrame true false 0) := by
  obtain ⟨result, taken⟩ := offer_keyOn (s := s.setKs { s.ks with state := .announce }) (p := s.self)
    (k := ⟨true, false, bandCode s.fu.band, freqCode s.fu.freq, tenureCode 0⟩) rfl takes
  have eq : s.announceKey = ((s.setKs { s.ks with state := .announce }).offerKey (s.keyFrame true false 0)).1 :=
    if_neg result
  obtain ⟨-, -, -, -, -, -, -, -, -, -, -, -, -, ks⟩ :=
    offerKey_fields (s.setKs { s.ks with state := .announce }) (s.keyFrame true false 0)
  rw [eq]
  refine ⟨?_, taken⟩
  rw [ks]
  have mark : ((s.setKs { s.ks with state := .announce }).offerKey (s.keyFrame true false 0)).1.ks.keyOnOutstanding =
      true := hasKeyOn_of_taken rfl taken
  rw [mark]
  rfl

/-- A refused KEY on takes the sequencer to LOCKOUT with QUEUE, one refusal counted (R163). -/
theorem announceKey_refused {s : State} (full : ¬ s.lc.TakesKey) :
    s.announceKey.ks.state = .lockout ∧ s.announceKey.ks.lockout = some .queue ∧
      s.announceKey.ks.refusals = (if 9999 ≤ s.ks.refusals then 0 else s.ks.refusals + 1) := by
  have result : ((s.setKs { s.ks with state := .announce }).offerKey (s.keyFrame true false 0)).2 = .refused :=
    congrArg Prod.snd (offer_keyOn_refused (s := s.setKs { s.ks with state := .announce }) _ full)
  have eq : s.announceKey =
      ((s.setKs { s.ks with state := .announce }).offerKey (s.keyFrame true false 0)).1.lockOut (some .queue) := if_pos result
  obtain ⟨-, -, -, -, -, -, -, -, -, -, -, -, -, ks⟩ :=
    offerKey_fields (s.setKs { s.ks with state := .announce }) (s.keyFrame true false 0)
  have refusals : ((s.setKs { s.ks with state := .announce }).offerKey (s.keyFrame true false 0)).1.ks.refusals =
      s.ks.refusals := by rw [ks]; rfl
  rw [eq, lockOut_eq, refusals]
  exact ⟨rfl, rfl, rfl⟩

/-- What a press sets beside the queue: the tenures, the PTT level and the clock stay (R163). -/
theorem judgePress_fields (s : State) :
    (s.judgePress.ks.state = .announce ∨ s.judgePress.ks.state = .keyWait ∨ s.judgePress.ks.state = .lockout) ∧
      s.judgePress.ks.keyTenure = s.ks.keyTenure ∧ s.judgePress.ks.keyTenureLink = s.ks.keyTenureLink ∧
      s.judgePress.ks.tenurePeriod = s.ks.tenurePeriod ∧ s.judgePress.ks.ptt = s.ks.ptt ∧ s.judgePress.now = s.now := by
  have lock (t : State) (r : Option LockReason) : (t.lockOut r).ks.state = .lockout ∧
      (t.lockOut r).ks.keyTenure = t.ks.keyTenure ∧ (t.lockOut r).ks.keyTenureLink = t.ks.keyTenureLink ∧
      (t.lockOut r).ks.tenurePeriod = t.ks.tenurePeriod ∧ (t.lockOut r).ks.ptt = t.ks.ptt ∧ (t.lockOut r).now = t.now := by
    rw [lockOut_eq]
    exact ⟨rfl, rfl, rfl, rfl, rfl, rfl⟩
  have locked (r : Option LockReason) := lock s r
  unfold State.judgePress
  split
  · split
    · exact ⟨.inr (.inl rfl), rfl, rfl, rfl, rfl, rfl⟩
    · unfold State.announceKey
      obtain ⟨now, -, -, -, -, -, -, -, -, -, -, -, -, ks⟩ :=
        offerKey_fields (s.setKs { s.ks with state := .announce }) (s.keyFrame true false 0)
      dsimp only
      split
      · obtain ⟨state, tenure, link, period, ptt, still⟩ :=
          lock ((s.setKs { s.ks with state := .announce }).offerKey (s.keyFrame true false 0)).1 (some .queue)
        rw [tenure, link, period, ptt, still, ks]
        exact ⟨.inr (.inr state), rfl, rfl, rfl, rfl, now⟩
      · rw [ks]
        exact ⟨.inl rfl, rfl, rfl, rfl, rfl, now⟩
  · split
    · exact ⟨.inr (.inl rfl), rfl, rfl, rfl, rfl, rfl⟩
    · exact ⟨.inr (.inr (locked _).1), (locked _).2⟩
    · exact ⟨.inr (.inr (locked _).1), (locked _).2⟩

/-- A KEY off offered stands where R47 to R49 put it, unless the part leaves silently. -/
theorem offerKeyOff_taken {s : State} (h : s.leavingSilently = false) :
    s.lc.KeyOffTaken s.offerKeyOff.lc (s.keyFrame false false s.ks.keyTenure) := by
  have eq : s.offerKeyOff = (s.offerKey (s.keyFrame false false s.ks.keyTenure)).1 := if_neg (by simp [h])
  rw [eq]
  exact offer_keyOff rfl

theorem offerKeyOff_of_silent {s : State} (h : s.leavingSilently = true) : s.offerKeyOff = s := if_pos h

theorem leavingSilently_iff (s : State) :
    s.leavingSilently = true ↔ s.jc.state = .leaving ∧ s.jc.leaving = some .duplicate := by
  simp [State.leavingSilently]

/-- The sequencer once the tail has begun, before its KEY off (R167). -/
def State.inTail (s : State) (cause : TailCause) (lockout : Option LockReason) : State :=
  s.setKs { s.ks with
    state := .tail, timer := s.timerFor (Config.ms s.timing.tSeq), tailCause := some cause, lockout := lockout }

theorem startTail_eq (s : State) (cause : TailCause) (lockout : Option LockReason) :
    s.startTail cause lockout = (s.inTail cause lockout).offerKeyOff := rfl

theorem startTail_ks (s : State) (cause : TailCause) (lockout : Option LockReason) :
    (s.startTail cause lockout).ks =
      { (s.inTail cause lockout).ks with keyOnOutstanding := (s.startTail cause lockout).ks.keyOnOutstanding } := by
  obtain ⟨-, -, -, -, -, -, -, -, -, -, -, -, -, ks⟩ := offerKeyOff_fields (s.inTail cause lockout)
  exact ks

theorem startTail_state (s : State) (cause : TailCause) (lockout : Option LockReason) :
    (s.startTail cause lockout).ks.state = .tail :=
  (congrArg KeySeq.state (startTail_ks s cause lockout)).trans rfl

/-! ### RECEIVE reported (R168, R188) -/

/-- Two states that differ at most in the Claim Table's and the Hand-over Unit's records. -/
def ClaimsOnly (s t : State) : Prop := t = (s.setCt t.ct).setHu t.hu

theorem ClaimsOnly.trans {s t u : State} (h : ClaimsOnly s t) (k : ClaimsOnly t u) : ClaimsOnly s u := by
  unfold ClaimsOnly at *
  rw [k, h]
  rfl

section
variable {s t : State} (h : ClaimsOnly s t)
include h

theorem ClaimsOnly.eq : t = (s.setCt t.ct).setHu t.hu := h

theorem ClaimsOnly.now : t.now = s.now := (congrArg State.now h.eq).trans rfl
theorem ClaimsOnly.fu : t.fu = s.fu := (congrArg State.fu h.eq).trans rfl
theorem ClaimsOnly.ps : t.ps = s.ps := (congrArg State.ps h.eq).trans rfl
theorem ClaimsOnly.jc : t.jc = s.jc := (congrArg State.jc h.eq).trans rfl
theorem ClaimsOnly.lc : t.lc = s.lc := (congrArg State.lc h.eq).trans rfl
theorem ClaimsOnly.pt : t.pt = s.pt := (congrArg State.pt h.eq).trans rfl
theorem ClaimsOnly.sg : t.sg = s.sg := (congrArg State.sg h.eq).trans rfl
theorem ClaimsOnly.ks : t.ks = s.ks := (congrArg State.ks h.eq).trans rfl
theorem ClaimsOnly.cu : t.cu = s.cu := (congrArg State.cu h.eq).trans rfl
theorem ClaimsOnly.pi : t.pi = s.pi := (congrArg State.pi h.eq).trans rfl

end

theorem setSlot_claimsOnly (s : State) (i : Slot) (r : SlotRecord) : ClaimsOnly s (s.setSlot i r) := rfl

theorem setHu_claimsOnly (s : State) (h : HandOver) : ClaimsOnly s (s.setHu h) := rfl

theorem givingDone_claimsOnly (s : State) (p : Position) (l : List Antenna) : ClaimsOnly s (s.givingDone p l) := by
  unfold State.givingDone
  repeat' split
  all_goals rfl

theorem handOversLapse_claimsOnly (s : State) (h : HeldPart) : ClaimsOnly s (s.handOversLapse h) := by
  unfold State.handOversLapse
  dsimp only
  repeat' split
  all_goals first
    | rfl
    | exact givingDone_claimsOnly _ _ _
    | exact (givingDone_claimsOnly _ _ _).trans (givingDone_claimsOnly _ _ _)

theorem freeHold_claimsOnly (s : State) (i : Slot) (r : ReleaseReason) (y : Option Position) :
    ClaimsOnly s (s.freeHold i r y) := by
  unfold State.freeHold
  split
  · rfl
  · exact (setSlot_claimsOnly s i _).trans (handOversLapse_claimsOnly _ _)

theorem giveMember_claimsOnly (s : State) (i : Slot) (a : Antenna) (y : Position) : ClaimsOnly s (s.giveMember i a y) := by
  unfold State.giveMember
  split
  · rfl
  · dsimp only
    repeat' split
    · exact givingDone_claimsOnly _ _ _
    · exact freeHold_claimsOnly _ _ _ _
    · rfl
    · rfl

theorem giveAntenna_claimsOnly (s : State) (a : Antenna) (y : Position) : ClaimsOnly s (s.giveAntenna a y) := by
  unfold State.giveAntenna
  repeat' split
  · exact freeHold_claimsOnly _ _ _ _
  · exact giveMember_claimsOnly _ _ _ _
  · exact givingDone_claimsOnly _ _ _

theorem give_claimsOnly (s : State) (l : Latch) : ClaimsOnly s (s.give l) :=
  (setHu_claimsOnly s _).trans (giveAntenna_claimsOnly _ _ _)

/-- Auto-give touches the Claim Table and the Hand-over Unit alone (R143). -/
theorem autoGive_claimsOnly (s : State) : ClaimsOnly s s.autoGive := by
  unfold State.autoGive
  repeat' split
  · exact give_claimsOnly s _
  · rfl
  · rfl

/-- Standby entered (R188). -/
theorem enterStandby_fields (s : State) :
    s.enterStandby.ks = s.ks ∧ s.enterStandby.cu = { s.cu with standby := true, deferred := false } ∧
      s.enterStandby.lc = s.lc ∧ s.enterStandby.now = s.now :=
  let only := autoGive_claimsOnly (s.setCu { s.cu with standby := true, deferred := false })
  ⟨only.ks, only.cu, only.lc, only.now⟩

/-- What an entry to RECEIVE sets beside what auto-give touches (R168, R188). -/
theorem enterReceive_fields (s : State) :
    s.enterReceive.ks = { s.ks with state := .receive, lockout := none } ∧
      s.enterReceive.cu.standby = (s.cu.standby || s.cu.deferred) ∧ s.enterReceive.cu.deferred = false ∧
      s.enterReceive.lc = s.lc ∧ s.enterReceive.now = s.now := by
  cases deferred : s.cu.deferred with
  | false =>
    have eq : s.enterReceive = s.setKs { s.ks with state := .receive, lockout := none } := if_neg (by simp [deferred])
    simp [eq, deferred]
  | true =>
    have eq : s.enterReceive = (s.setKs { s.ks with state := .receive, lockout := none }).enterStandby :=
      if_pos (by simp [deferred])
    obtain ⟨ks, cu, lc, now⟩ := enterStandby_fields (s.setKs { s.ks with state := .receive, lockout := none })
    rw [eq, ks, cu, lc, now]
    simp

/-! ### Presses and tails (R163, R167) -/

theorem judgePress_of_permit {s : State} (permit : s.ie.permit = true) (clear : s.sg.obligation = false) :
    s.judgePress = s.announceKey :=
  (if_pos permit).trans (if_neg (by simp [clear]))

/-- A press with the obligation set, or with SWITCHING the reason, waits (R163). -/
theorem judgePress_of_wait {s : State}
    (h : s.ie.permit = true ∧ s.sg.obligation = true ∨ s.ie.permit = false ∧ s.ie.reason = some .switching) :
    s.judgePress = s.setKs { s.ks with state := .keyWait } := by
  unfold State.judgePress
  obtain ⟨permit, owed⟩ | ⟨permit, reason⟩ := h
  · simp [permit, owed]
  · simp [permit, reason]

theorem judgePress_of_reason {s : State} {r : Reason} (permit : s.ie.permit = false) (reason : s.ie.reason = some r)
    (h : r ≠ .switching) : s.judgePress = s.lockOut (some (.inhibit r)) := by
  unfold State.judgePress
  rw [if_neg (by simp [permit]), reason]
  cases r <;> first | exact absurd rfl h | rfl

/-- What a tail begun sets: the sequencer, AMP KEY and RADIO INHIBIT, and the KEY off where it stands (R167). -/
theorem startTail_begins (s : State) (cause : TailCause) (lockout : Option LockReason) :
    (s.startTail cause lockout).ampKey = true ∧ (s.startTail cause lockout).radioInhibit = true ∧
      ((s.jc.state = .leaving ∧ s.jc.leaving = some .duplicate) → (s.startTail cause lockout).lc = s.lc) ∧
      (¬ (s.jc.state = .leaving ∧ s.jc.leaving = some .duplicate) →
        s.lc.KeyOffTaken (s.startTail cause lockout).lc (s.keyFrame false false s.ks.keyTenure)) := by
  have state := startTail_state s cause lockout
  refine ⟨by simp [State.ampKey, state], by simp [State.radioInhibit, state], fun silent => ?_, fun loud => ?_⟩
  · rw [startTail_eq, offerKeyOff_of_silent ((leavingSilently_iff (s.inTail cause lockout)).2 silent)]
    exact State.setKs_lc s _
  · exact offerKeyOff_taken (s := s.inTail cause lockout)
      (Bool.eq_false_iff.2 fun silent => loud ((leavingSilently_iff s).1 silent))

theorem release_of_keyed {s : State} (ptt : s.ks.ptt = true) (on : s.ks.state = .ampOn ∨ s.ks.state = .transmit) :
    s.release = (s.setKs { s.ks with ptt := false }).startTail .release none := by
  refine (if_pos ptt).trans ?_
  dsimp only
  obtain h | h := on <;> simp [h]

theorem release_of_waiting {s : State} (ptt : s.ks.ptt = true) (h : s.ks.state = .keyWait ∨ s.ks.state = .lockout) :
    s.release = (s.setKs { s.ks with ptt := false }).enterReceive := by
  refine (if_pos ptt).trans ?_
  dsimp only
  obtain h | h := h <;> simp [h]

theorem release_of_announce {s : State} (ptt : s.ks.ptt = true) (h : s.ks.state = .announce) :
    s.release = ((s.setKs { s.ks with ptt := false }).enterReceive.withdraw isPlainKeyOn).syncKeyOn := by
  refine (if_pos ptt).trans ?_
  simp [h]

theorem release_of_idle {s : State} (ptt : s.ks.ptt = true) (h : s.ks.state = .receive ∨ s.ks.state = .tail) :
    s.release = s.setKs { s.ks with ptt := false } := by
  refine (if_pos ptt).trans ?_
  dsimp only
  obtain h | h := h <;> simp [h]

theorem release_ptt {s : State} (ptt : s.ks.ptt = true) : s.release.ks.ptt = false := by
  have received : (s.setKs { s.ks with ptt := false }).enterReceive.ks.ptt = false := by
    obtain ⟨ks, -⟩ := enterReceive_fields (s.setKs { s.ks with ptt := false })
    rw [ks]
    rfl
  cases h : s.ks.state with
  | keyWait => rw [release_of_waiting ptt (.inl h)]; exact received
  | lockout => rw [release_of_waiting ptt (.inr h)]; exact received
  | announce => rw [release_of_announce ptt h]; exact received
  | ampOn => rw [release_of_keyed ptt (.inl h), startTail_ks]; rfl
  | transmit => rw [release_of_keyed ptt (.inr h), startTail_ks]; rfl
  | receive => rw [release_of_idle ptt (.inl h)]; rfl
  | tail => rw [release_of_idle ptt (.inr h)]; rfl

/-- A release that ends a wait, a lockout or an announcement reports RECEIVE (R166, R168, R188). -/
theorem release_receives {s : State} (ptt : s.ks.ptt = true)
    (h : s.ks.state = .keyWait ∨ s.ks.state = .lockout ∨ s.ks.state = .announce) :
    s.release.ks.state = .receive ∧ s.release.ks.lockout = none ∧ s.release.ks.refusals = s.ks.refusals ∧
      s.release.cu.standby = (s.cu.standby || s.cu.deferred) ∧ s.release.cu.deferred = false := by
  obtain ⟨ks, standby, deferred, -⟩ := enterReceive_fields (s.setKs { s.ks with ptt := false })
  have received : (s.setKs { s.ks with ptt := false }).enterReceive.ks.state = .receive ∧
      (s.setKs { s.ks with ptt := false }).enterReceive.ks.lockout = none ∧
      (s.setKs { s.ks with ptt := false }).enterReceive.ks.refusals = s.ks.refusals := by
    rw [ks]
    exact ⟨rfl, rfl, rfl⟩
  obtain ⟨state, lockout, refusals⟩ := received
  obtain h | h | h := h
  · rw [release_of_waiting ptt (.inl h)]
    exact ⟨state, lockout, refusals, standby, deferred⟩
  · rw [release_of_waiting ptt (.inr h)]
    exact ⟨state, lockout, refusals, standby, deferred⟩
  · rw [release_of_announce ptt h]
    exact ⟨state, lockout, refusals, standby, deferred⟩

theorem noKeyOn_of_unsent {q : List QueueEntry} (h : unsent isPlainKeyOn q = none) : NoKeyOn q := by
  rw [← Option.not_isSome_iff_eq_none, unsent_isSome] at h
  exact fun e he idle => Bool.eq_false_iff.2 fun plain => h ⟨e, he, idle, plain⟩

theorem unsent_of_noKeyOn {q : List QueueEntry} (h : NoKeyOn q) : unsent isPlainKeyOn q = none := by
  rw [← Option.not_isSome_iff_eq_none, unsent_isSome]
  rintro ⟨e, he, idle, plain⟩
  exact absurd plain (by simp [h e he idle])

theorem sequencerTold_of_keyed {s : State} (on : s.ks.state = .ampOn ∨ s.ks.state = .transmit) :
    s.sequencerTold = if s.ie.permit then s else s.startTail .drop (s.ie.reason.map .inhibit) := by
  unfold State.sequencerTold
  obtain h | h := on <;> simp [h]

/-- A sequencer still in AMP-ON or TRANSMIT once told has been told of a permit (R167). -/
theorem permit_of_sequencerTold {s : State} (on : s.sequencerTold.ks.state = .ampOn ∨ s.sequencerTold.ks.state = .transmit) :
    s.sequencerTold.ie.permit = true := by
  have before : s.ks.state = .ampOn ∨ s.ks.state = .transmit := by
    obtain still | ⟨-, moved⟩ | ⟨before, -⟩ := (sequencerTold_kept s).seqState
    · rwa [still] at on
    · rcases moved with moved | moved <;> simp [moved] at on
    · exact before
  rw [sequencerTold_of_keyed before] at on ⊢
  cases permit : s.ie.permit with
  | true => simp [permit]
  | false => simp [permit, startTail_state] at on

theorem permit_of_interlockTurn {s : State} (on : s.interlockTurn.ks.state = .ampOn ∨ s.interlockTurn.ks.state = .transmit) :
    s.interlockTurn.ie.permit = true := by
  unfold State.interlockTurn at on ⊢
  exact permit_of_sequencerTold on

theorem offer_ks (s : State) (f : LinkFrame) : (s.offer f).1.ks = s.ks := by
  unfold State.offer
  dsimp only
  split <;> rfl

theorem offerStatus_ks (s : State) : s.offerStatus.ks = s.ks := by
  unfold State.offerStatus
  split
  · exact offer_ks s _
  · rfl

/-- After every command a sequencer in AMP-ON or TRANSMIT has the permit (R167). -/
theorem permit_of_commit {heard : KeyHeard} {before s : State}
    (on : (commit heard before s).ks.state = .ampOn ∨ (commit heard before s).ks.state = .transmit) :
    (commit heard before s).ie.permit = true := by
  have ks : (commit heard before s).ks = (reactJudged heard before s).ks := by
    rw [commit_eq]
    have sg : (State.sgReact before (reactJudged heard before s)).ks = (reactJudged heard before s).ks := by
      unfold State.sgReact
      split
      · rfl
      · exact offerStatus_ks _
    refine Eq.trans ?_ sg
    show (State.piReact before _).ks = _
    unfold State.piReact
    repeat' split
    all_goals rfl
  rw [ks] at on
  rw [(reactJudged_inputs heard before s).ie]
  unfold reactJudged at on ⊢
  exact permit_of_interlockTurn on

end Sys2Proof.Machine

namespace Sys2Proof.Proofs

open Sys2Proof.Machine

/-- Settles O42: a press finds the permit, SWITCHING or the obligation, or another reason. -/
theorem pressIsJudgedByPermit : Obligations.PressIsJudgedByPermit := by
  intro s up receive
  have press : s.press = (s.setKs { s.ks with ptt := true }).judgePress := by
    unfold State.press
    simp [up, receive]
  refine ⟨s.press, rfl, ?_, fun permit clear => ?_, fun h => ?_, fun r permit reason h => ?_⟩
  · obtain ⟨-, -, -, -, ptt, -⟩ := judgePress_fields (s.setKs { s.ks with ptt := true })
    rw [press, ptt]
    rfl
  · rw [press, judgePress_of_permit (s := s.setKs { s.ks with ptt := true }) permit clear]
    split
    next takes =>
      obtain ⟨ks, taken⟩ := announceKey_taken (s := s.setKs { s.ks with ptt := true }) takes
      refine ⟨by rw [ks], by rw [ks], commit_ks .nothing s (by rw [ks]; rfl), fun f hf => ?_⟩
      subst hf
      exact taken
    next full =>
      obtain ⟨state, lockout, refusals⟩ := announceKey_refused (s := s.setKs { s.ks with ptt := true }) full
      exact ⟨state, lockout, commit_ks .nothing s (by rw [state]; rfl), refusals⟩
  · rw [press, judgePress_of_wait (s := s.setKs { s.ks with ptt := true }) h]
    exact ⟨rfl, rfl, rfl⟩
  · rw [press, judgePress_of_reason (s := s.setKs { s.ks with ptt := true }) permit reason h, lockOut_eq]
    exact ⟨rfl, rfl, commit_ks .nothing s rfl, rfl, rfl⟩

/-- Settles O43: the release and the lost permit begin the same tail. -/
theorem releaseEndsTransmission : Obligations.ReleaseEndsTransmission := by
  refine ⟨fun s tailBegun on begun => ?_, fun s ptt => ⟨_, rfl, ?_⟩⟩
  · have tail (t : State) (kept : t = s.setKs { s.ks with ptt := t.ks.ptt }) (cause : TailCause)
        (lockout : Option LockReason) : tailBegun (t.startTail cause lockout) := by
      obtain ⟨amp, inhibit, silent, loud⟩ := startTail_begins t cause lockout
      rw [begun, startTail_ks]
      rw [kept] at *
      exact ⟨rfl, rfl, amp, inhibit, rfl, silent, fun h f hf => by subst hf; exact loud h⟩
    refine ⟨fun ptt => ⟨s.release, rfl, ?_⟩, fun permit => ?_, fun c s0 h => ?_, fun permit => ?_⟩
    · rw [release_of_keyed ptt on, startTail_ks]
      exact ⟨tail _ rfl _ _, rfl, rfl, rfl⟩
    · rw [sequencerTold_of_keyed on, if_pos permit]
    · by_cases hc : c = .powerOnReset
      · subst hc
        obtain rfl := next_inj ((exec_powerOnReset s0).symm.trans h)
        exact permit_of_commit on
      · obtain ⟨heard, u, rfl, -⟩ := exec_cases h hc
        exact permit_of_commit on
    · rw [sequencerTold_of_keyed on, if_neg (by simp [permit]), startTail_ks]
      exact ⟨tail s rfl _ _, rfl, rfl, rfl⟩
  · refine ⟨?_, fun on => ?_, fun waits => ?_, fun announced => ?_, fun idle => ?_⟩
    · rw [commit_ptt]
      exact release_ptt ptt
    · have state := startTail_state (s.setKs { s.ks with ptt := false }) .release none
      have ks := commit_ks .nothing s (s := s.release) (by rw [release_of_keyed ptt on, state]; rfl)
      obtain ⟨amp, inhibit, -⟩ := startTail_begins (s.setKs { s.ks with ptt := false }) .release none
      rw [commit_ampKey]
      unfold State.radioInhibit
      rw [ks, release_of_keyed ptt on, amp, startTail_ks]
      exact ⟨rfl, rfl, rfl, rfl, rfl, rfl⟩
    · obtain ⟨state, lockout, refusals, standby, deferred⟩ := release_receives ptt waits
      have ks := commit_ks .nothing s (s := s.release) (by rw [state]; rfl)
      rw [ks, commit_cu]
      exact ⟨state, lockout, refusals, standby, deferred⟩
    · obtain ⟨state, -⟩ := release_receives ptt (.inr (.inr announced))
      have none : NoKeyOn s.release.lc.queue := by
        rw [release_of_announce ptt announced]
        exact noKeyOn_of_unsent (unsent_withdraw _ _)
      exact unsent_of_noKeyOn ((commit_same .nothing s s.release .keyless (by decide) state).2 none)
    · have ks := commit_ks .nothing s (s := s.release) (by
        rw [release_of_idle ptt idle]; obtain h | h := idle <;> rw [State.setKs_ks, h] <;> rfl)
      rw [ks, commit_cu, release_of_idle ptt idle]
      exact ⟨rfl, rfl⟩

end Sys2Proof.Proofs

/-! SUPPORT. KEY completions, and the timers of the Key Sequencer and of the Relay Driver (10.1, 10.2). -/

namespace Sys2Proof.Machine

/-- What the held KEY's offer leaves of the sequencer where it announces nothing (R49). -/
theorem offerHeldKey_ks (s : State) :
    (s.ks.state ≠ .announce → s.offerHeldKey.ks = { s.ks with keyOnOutstanding := s.offerHeldKey.ks.keyOnOutstanding }) ∧
      s.offerHeldKey.ks.keyTenureLink = s.ks.keyTenureLink := by
  unfold State.offerHeldKey
  split
  · exact ⟨fun _ => rfl, rfl⟩
  next f _ =>
    obtain ⟨-, -, -, -, -, -, -, -, -, -, -, -, -, ks⟩ := offerKey_fields (s.setLc { s.lc with heldKey := none }) f
    dsimp only
    split
    next h =>
      refine ⟨fun other => absurd ?_ other, ?_⟩
      · have announced := h.2.2
        rw [ks] at announced
        exact announced
      · rw [lockOut_eq, State.setKs_ks, ks]
        rfl
    next =>
      refine ⟨fun _ => ?_, ?_⟩
      · rw [ks]; rfl
      · rw [ks]; rfl

theorem offerHeldKey_of_none {s : State} (h : s.lc.heldKey = none) : s.offerHeldKey = s := by
  unfold State.offerHeldKey
  rw [h]

/-- With no KEY in flight none is held by an offer (R49). -/
theorem offerKeyOff_heldKey {s : State} (idle : flyingIs isKey s.lc.queue = false) (h : s.lc.heldKey = none) :
    s.offerKeyOff.lc.heldKey = none := by
  have enter (f : LinkFrame) : (s.lc.enter f).1.heldKey = s.lc.heldKey := by
    unfold LinkCtl.enter
    repeat' split
    all_goals rfl
  have offered : (s.lc.offer (s.keyFrame false false s.ks.keyTenure)).1.heldKey = none := by
    unfold LinkCtl.offer State.keyFrame
    dsimp only
    rw [if_neg (by simp [idle])]
    repeat' split
    · exact h
    · exact h
    · exact (enter _).trans h
  unfold State.offerKeyOff
  split
  · exact h
  · exact (congrArg LinkCtl.heldKey (offer_lc s _)).trans offered

/-- The read that ends an announcement in LOCKOUT: one refusal counted, a KEY off offered (R165, R171). -/
theorem announceRead_fails {s : State} (h : s.ie.permit = false ∨ s.mainMoving = true) :
    s.announceRead = s.offerKeyOff.lockOut (some (.inhibit (if s.ie.permit then .switching else s.ie.reason.getD .switching))) :=
  if_neg (by obtain h | h := h <;> simp [h])

theorem announceRead_holds {s : State} (permit : s.ie.permit = true) (still : s.mainMoving = false) :
    s.announceRead = s.setKs { s.ks with
      state := .ampOn, timer := s.timerFor (Config.ms s.timing.tSeq), keyTenure := 0,
      tenurePeriod := s.timerFor s.period } :=
  if_pos (by simp [permit, still])

theorem offerKeyOff_ks (s : State) :
    s.offerKeyOff.ks = { s.ks with keyOnOutstanding := s.offerKeyOff.ks.keyOnOutstanding } := by
  obtain ⟨-, -, -, -, -, -, -, -, -, -, -, -, -, ks⟩ := offerKeyOff_fields s
  exact ks

/-- What a failed read leaves of the sequencer (R165, R171). -/
theorem announceRead_lockOut {s : State} (h : s.ie.permit = false ∨ s.mainMoving = true) :
    s.announceRead.ks.state = .lockout ∧
      s.announceRead.ks.lockout = some (.inhibit (if s.ie.permit then .switching else s.ie.reason.getD .switching)) ∧
      s.announceRead.ks.refusals = (if 9999 ≤ s.ks.refusals then 0 else s.ks.refusals + 1) ∧
      s.announceRead.ks.overflowMark = (s.ks.overflowMark || decide (9999 ≤ s.ks.refusals)) ∧
      s.announceRead.lc = s.offerKeyOff.lc := by
  have refusals : s.offerKeyOff.ks.refusals = s.ks.refusals := by rw [offerKeyOff_ks]
  have mark : s.offerKeyOff.ks.overflowMark = s.ks.overflowMark := by rw [offerKeyOff_ks]
  rw [announceRead_fails h, lockOut_eq, refusals, mark]
  exact ⟨rfl, rfl, rfl, rfl, rfl⟩

theorem announceRead_link (s : State) :
    LinkKept s.lc s.announceRead.lc ∧ s.announceRead.ks.keyTenureLink = s.ks.keyTenureLink := by
  unfold State.announceRead
  split
  · exact ⟨.refl _, rfl⟩
  · obtain ⟨-, -, -, -, -, -, -, link, -⟩ := offerKeyOff_fields s
    rw [lockOut_eq]
    exact ⟨link, (congrArg KeySeq.keyTenureLink (offerKeyOff_ks s)).trans rfl⟩

theorem keyOnOut_link (s : State) (b : Bool) :
    LinkKept s.lc (s.keyOnOut b).lc ∧ (s.keyOnOut b).ks.keyTenureLink = s.ks.keyTenureLink := by
  have answered : LinkKept s.lc (if b then s.offerKeyOff else s).lc ∧
      (if b then s.offerKeyOff else s).ks.keyTenureLink = s.ks.keyTenureLink := by
    split
    · obtain ⟨-, -, -, -, -, -, -, link, -⟩ := offerKeyOff_fields s
      exact ⟨link, (congrArg KeySeq.keyTenureLink (offerKeyOff_ks s)).trans rfl⟩
    · exact ⟨.refl _, rfl⟩
  unfold State.keyOnOut
  split
  · exact announceRead_link s
  all_goals first | exact answered | exact ⟨.refl _, rfl⟩

theorem keyLanded_lc (s : State) (f : KeyFrame) : (s.keyLanded f).lc.queue = landedQueue s.lc.queue := rfl

/-- A KEY gone out leaves no frame in flight and puts its key tenure on the link (R46, R169). -/
theorem keyOut_link (s : State) (f : KeyFrame) :
    flights (s.keyOut f).lc.queue = [] ∧ (s.keyOut f).ks.keyTenureLink = f.tenure.toNat := by
  have told (t : State) (link : LinkKept (s.keyLanded f).lc t.lc) (tenure : t.ks.keyTenureLink = f.tenure.toNat) :
      flights t.offerHeldKey.syncKeyOn.lc.queue = [] ∧ t.offerHeldKey.syncKeyOn.ks.keyTenureLink = f.tenure.toNat := by
    have flown : flights t.offerHeldKey.lc.queue = flights (landedQueue s.lc.queue) :=
      (link.trans (offerHeldKey_frame t).1).flights
    exact ⟨flown.trans (flights_landedQueue _), (offerHeldKey_ks t).2.trans tenure⟩
  rw [keyOut_eq]
  split
  · obtain ⟨link, tenure⟩ := keyOnOut_link (s.keyLanded f) s.ks.keyOnOutstanding
    exact told _ link tenure
  · exact told _ (.refl _) rfl

/-- A plain KEY on in ANNOUNCE is read (R165). -/
theorem keyOut_of_announce {s : State} {f : KeyFrame} (announced : s.ks.state = .announce) (on : f.on = true)
    (plain : f.isAssert = false) :
    s.keyOut f = (s.keyLanded f).announceRead.offerHeldKey.syncKeyOn := by
  have state : (s.keyLanded f).ks.state = .announce := announced
  rw [keyOut_eq, if_pos (by simp [on, plain])]
  unfold State.keyOnOut
  rw [state]

/-- One that goes out once the sequencer has left ANNOUNCE for RECEIVE is answered by a KEY off (R166). -/
theorem keyOut_of_left {s : State} {f : KeyFrame} (h : s.ks.state = .receive ∨ s.ks.state = .keyWait ∨ s.ks.state = .lockout)
    (on : f.on = true) (plain : f.isAssert = false) :
    s.keyOut f = (if s.ks.keyOnOutstanding then (s.keyLanded f).offerKeyOff
      else s.keyLanded f).offerHeldKey.syncKeyOn := by
  rw [keyOut_eq, if_pos (by simp [on, plain])]
  unfold State.keyOnOut
  have state : (s.keyLanded f).ks.state = s.ks.state := rfl
  rw [state]
  obtain h | h | h := h <;> rw [h]

theorem syncKeyOn_ks (s : State) : s.syncKeyOn.ks = { s.ks with keyOnOutstanding := s.lc.hasKeyOn } := rfl

/-- A state that is not ANNOUNCE takes up a held KEY with the sequencer's outstanding mark alone moved. -/
theorem heldKeyTaken_ks {s : State} (h : s.ks.state ≠ .announce) :
    s.offerHeldKey.syncKeyOn.ks = { s.ks with keyOnOutstanding := s.offerHeldKey.lc.hasKeyOn } := by
  rw [syncKeyOn_ks, (offerHeldKey_ks s).1 h]

/-- The KEY off that follows a KEY gone out stands in the queue, which then has room (R165, R166). -/
theorem keyOff_follows {s : State} {f : KeyFrame} {p : LinkFrame → Bool} {x : LinkFrame} (flown : s.flight p = some x)
    (loud : ¬ (s.jc.state = .leaving ∧ s.jc.leaving = some .duplicate)) (len : s.lc.queue.length ≤ 8)
    (none : unsent isKey s.lc.queue = none) :
    ∃ e ∈ (s.keyLanded f).offerKeyOff.lc.queue, e.inFlight = false ∧ e.frame = s.keyFrame false false s.ks.keyTenure := by
  have taken := offerKeyOff_taken (s := s.keyLanded f)
    (Bool.eq_false_iff.2 fun silent => loud ((leavingSilently_iff (s.keyLanded f)).1 silent))
  unfold LinkCtl.KeyOffTaken at taken
  rw [keyLanded_lc, flyingIs_landedQueue, if_neg nofun, unsent_landedQueue, none] at taken
  exact taken (.inl (by have := landedQueue_length_lt flown; omega))

/-- A read that fails ends in LOCKOUT with its reason, AMP KEY off (R165, R171). -/
theorem keyOut_fails {s : State} {f : KeyFrame} (announced : s.ks.state = .announce) (on : f.on = true)
    (plain : f.isAssert = false) (h : s.ie.permit = false ∨ s.mainMoving = true) :
    (s.keyOut f).ks.state = .lockout ∧
      (s.keyOut f).ks.lockout = some (.inhibit (if s.ie.permit then .switching else s.ie.reason.getD .switching)) ∧
      (s.keyOut f).ks.refusals = (if 9999 ≤ s.ks.refusals then 0 else s.ks.refusals + 1) ∧
      (s.keyOut f).ks.overflowMark = (s.ks.overflowMark || decide (9999 ≤ s.ks.refusals)) := by
  obtain ⟨state, lockout, refusals, mark, -⟩ := announceRead_lockOut (s := s.keyLanded f) h
  rw [keyOut_of_announce announced on plain, heldKeyTaken_ks (by rw [state]; nofun)]
  exact ⟨state, lockout, refusals, mark⟩

/-- AMP KEY off, the key tenures 0 and a dropped transmission counted (R168, R171). -/
theorem tailOver_fields (s : State) :
    s.tailOver.ks.keyTenure = 0 ∧ s.tailOver.ks.keyTenureLink = 0 ∧ s.tailOver.ks.tenurePeriod = .stopped ∧
      s.tailOver.ks.tailCause = none ∧ s.tailOver.ks.lockout = s.ks.lockout ∧
      (s.ks.tailCause = some .drop →
        s.tailOver.ks.refusals = if 9999 ≤ s.ks.refusals then 0 else s.ks.refusals + 1) ∧
      s.tailOver.now = s.now ∧ s.tailOver.cu = s.cu := by
  unfold State.tailOver
  rw [countRefusal_eq]
  split
  · exact ⟨rfl, rfl, rfl, rfl, rfl, fun _ => rfl, rfl, rfl⟩
  next h => exact ⟨rfl, rfl, rfl, rfl, rfl, fun drop => absurd drop (by simpa using h), rfl, rfl⟩

theorem tailEnds_of_released {s : State} (up : s.ks.ptt = false) : s.tailEnds = s.tailOver.enterReceive := by
  rw [tailEnds_eq, if_neg (by simp [up]), if_neg (by simp [up])]

theorem tailEnds_of_dropped {s : State} (ptt : s.ks.ptt = true) (drop : s.ks.tailCause = some .drop) :
    s.tailEnds = s.tailOver.setKs { s.tailOver.ks with state := .lockout } := by
  rw [tailEnds_eq, if_pos (by simp [ptt, drop])]

theorem tailEnds_of_pressed {s : State} (ptt : s.ks.ptt = true) (kept : s.ks.tailCause ≠ some .drop) :
    s.tailEnds = s.tailOver.enterReceive.relayReact.evaluate.judgePress := by
  rw [tailEnds_eq, if_neg (by simp [kept]), if_pos ptt]

theorem evaluate_ks (s : State) : s.evaluate.ks = s.ks := rfl

theorem evaluate_now (s : State) : s.evaluate.now = s.now := rfl

/-- The tail over, the key tenures are 0 and stay so over a press judged at once (R168, R169). -/
theorem tailEnds_tenures (s : State) :
    s.tailEnds.ks.keyTenure = 0 ∧ s.tailEnds.ks.keyTenureLink = 0 ∧ s.tailEnds.ks.tenurePeriod = .stopped ∧
      s.tailEnds.now = s.now := by
  obtain ⟨tenure, link, period, -, -, -, now, -⟩ := tailOver_fields s
  obtain ⟨ks, -, -, -, entered⟩ := enterReceive_fields s.tailOver
  have received : s.tailOver.enterReceive.ks.keyTenure = 0 ∧ s.tailOver.enterReceive.ks.keyTenureLink = 0 ∧
      s.tailOver.enterReceive.ks.tenurePeriod = .stopped ∧ s.tailOver.enterReceive.now = s.now := by
    rw [ks]
    exact ⟨tenure, link, period, entered.trans now⟩
  cases ptt : s.ks.ptt with
  | false =>
    rw [tailEnds_of_released ptt]
    exact received
  | true =>
    by_cases drop : s.ks.tailCause = some .drop
    · rw [tailEnds_of_dropped ptt drop]
      exact ⟨tenure, link, period, now⟩
    · have kept := (relayReact_moves s.tailOver.enterReceive).kept
      obtain ⟨-, tenure, link, period, -, now⟩ := judgePress_fields s.tailOver.enterReceive.relayReact.evaluate
      obtain ⟨tenure', link', period', now'⟩ := received
      rw [tailEnds_of_pressed ptt drop, tenure, link, period, now, evaluate_ks, evaluate_now]
      exact ⟨kept.keyTenure.trans tenure', kept.keyTenureLink.trans link', kept.tenurePeriod.trans period',
        kept.now.trans now'⟩

/-- A commit of a part in ANNOUNCE, KEY-WAIT or LOCKOUT leaves it in one of these (R163, R164). -/
theorem commit_pressed {heard : KeyHeard} {before s : State}
    (h : s.ks.state = .announce ∨ s.ks.state = .keyWait ∨ s.ks.state = .lockout) :
    (commit heard before s).ks.state = .announce ∨ (commit heard before s).ks.state = .keyWait ∨
      (commit heard before s).ks.state = .lockout := by
  obtain still | ⟨-, moved | moved⟩ | ⟨on, -⟩ := commit_seqState heard before s
  · rwa [still]
  · exact .inl moved
  · exact .inr (.inr moved)
  · rcases h with h | h | h <;> simp [h] at on

theorem exec_keyTenurePeriodExpiry (s : State) :
    exec .keyTenurePeriodExpiry s = .next (commit .nothing s (s.onExpiry s.ks.tenurePeriod State.raiseKeyTenure)) := rfl

theorem onExpiry_of_running {s : State} {t : Timer} {due : Nat} (h : t = .running due) (body : State → State) :
    s.onExpiry t body = body (s.reach due) := by
  subst h
  rfl

/-! ### Breaks and makes (R175 to R177) -/

theorem breakEnds_of_dropped {s : State} (h : (s.rd.lines.diff s.rd.target).and s.movable ≠ .none) :
    s.breakEnds = s.setRd { s.rd with
      lines := s.rd.lines.diff ((s.rd.lines.diff s.rd.target).and s.movable),
      timer := s.timerFor (Config.ms s.timing.tBreak),
      movesMain := s.rd.movesMain || s.touchesMain ((s.rd.lines.diff s.rd.target).and s.movable) } := if_pos h

theorem breakEnds_of_kept {s : State} (h : (s.rd.lines.diff s.rd.target).and s.movable = .none) :
    s.breakEnds = s.setRd { s.rd with
      lines := s.rd.lines.or ((s.rd.target.diff s.rd.lines).and s.movable), state := .making,
      timer := s.timerFor (Config.ms s.timing.tMake),
      movesMain := s.rd.movesMain || s.touchesMain ((s.rd.target.diff s.rd.lines).and s.movable) } :=
  if_neg (by simpa using h)

theorem makeEnds_of_differs {s : State} (h : s.moves s.rd.target ≠ .none) : s.makeEnds = s.startBreak := if_neg h

theorem makeEnds_of_done {s : State} (h : s.moves s.rd.target = .none) :
    s.makeEnds = s.setRd { s.rd with state := .steady, timer := .stopped, movesMain := false } := if_pos h

theorem mainMoving_of {s : State} (moving : s.rd.state ≠ .steady) (main : s.rd.movesMain = true) :
    s.mainMoving = true := by
  simp [State.mainMoving, moving, main]

/-- With no KEY held the queue is what the sequencer's answer left (R49). -/
theorem keyOut_lc {s u : State} {f : KeyFrame} (h : s.keyOut f = u.offerHeldKey.syncKeyOn) (held : u.lc.heldKey = none) :
    (s.keyOut f).lc = u.lc := by
  rw [h, offerHeldKey_of_none held]
  rfl

/-- What the queue holds once the KEY off has been offered (R165 to R167). -/
theorem keyOff_left {s u : State} {f : KeyFrame} {p : LinkFrame → Bool} {x : LinkFrame} (flown : s.flight p = some x)
    (lc : u.lc = (s.keyLanded f).offerKeyOff.lc) :
    (s.jc.state = .leaving ∧ s.jc.leaving = some .duplicate → u.lc.queue = landedQueue s.lc.queue) ∧
      (¬ (s.jc.state = .leaving ∧ s.jc.leaving = some .duplicate) → s.lc.queue.length ≤ 8 →
        unsent isKey s.lc.queue = none →
        ∃ e ∈ u.lc.queue, e.inFlight = false ∧ e.frame = s.keyFrame false false s.ks.keyTenure) := by
  rw [lc]
  refine ⟨fun silent => ?_, fun loud len none => keyOff_follows flown loud len none⟩
  rw [offerKeyOff_of_silent ((leavingSilently_iff (s.keyLanded f)).2 silent)]
  exact keyLanded_lc s f

theorem keyLanded_heldKey {s : State} (f : KeyFrame) (held : s.lc.heldKey = none) :
    (s.keyLanded f).offerKeyOff.lc.heldKey = none :=
  offerKeyOff_heldKey (flyingIs_landedQueue isKey s.lc.queue) held

theorem exec_keyComplete_of {s : State} {p : Position} {f : KeyFrame} (h : s.flight isKey = some ⟨p, .key f⟩) :
    exec .keyComplete s = .next (commit .nothing s (s.keyOut f)) := by
  rw [exec_keyComplete, h]
  rfl

end Sys2Proof.Machine

namespace Sys2Proof.Proofs

open Sys2Proof.Machine

/-- Settles O44. -/
theorem keyCompletionIsRead : Obligations.KeyCompletionIsRead := by
  intro s p f flown
  obtain ⟨flights, tenure⟩ := keyOut_link s f
  refine ⟨_, exec_keyComplete_of flown, ?_, ?_, fun announced on plain => ⟨?_, ?_, ?_⟩, fun on plain held h => ?_,
    fun on plain held unmarked h => ?_⟩
  · rw [commit_flights]; exact flights
  · rw [commit_keyTenureLink]; exact tenure
  · intro permit still
    have eq := announceRead_holds (s := s.keyLanded f) permit (by
      show s.mainMoving = false
      unfold State.mainMoving
      obtain h | h := still <;> simp [h])
    have ks := heldKeyTaken_ks (s := (s.keyLanded f).announceRead) (by rw [eq]; nofun)
    rw [commit_ampKey, commit_keyTenure, commit_tenurePeriod, keyOut_of_announce announced on plain, ks]
    have state : (s.keyLanded f).announceRead.offerHeldKey.syncKeyOn.ks.state = .ampOn := by rw [ks, eq]; rfl
    refine ⟨by simp [State.ampKey, state], ?_, ?_⟩ <;> rw [eq] <;> rfl
  · intro permit moving main
    obtain ⟨state, lockout, -⟩ := keyOut_fails announced on plain (.inr (mainMoving_of moving main))
    have ks := commit_ks .nothing s (s := s.keyOut f) (by rw [state]; rfl)
    rw [if_pos permit] at lockout
    rw [ks, commit_ampKey]
    exact ⟨state, lockout, ampKey_of_state state (by simp)⟩
  · intro r permit reason
    obtain ⟨state, lockout, -⟩ := keyOut_fails announced on plain (.inl permit)
    have ks := commit_ks .nothing s (s := s.keyOut f) (by rw [state]; rfl)
    rw [if_neg (by simp [permit]), reason] at lockout
    rw [ks, commit_ampKey]
    exact ⟨state, lockout, ampKey_of_state state (by simp)⟩
  · refine ⟨_, exec_keyComplete_of flown, ?_⟩
    obtain ⟨announced, fails⟩ | ⟨left, marked⟩ := h
    · have fails : s.ie.permit = false ∨ s.mainMoving = true := fails.imp id fun h => mainMoving_of h.1 h.2
      obtain ⟨-, -, refusals, mark⟩ := keyOut_fails announced on plain fails
      obtain ⟨-, -, -, -, lc⟩ := announceRead_lockOut (s := s.keyLanded f) fails
      have queue := keyOut_lc (keyOut_of_announce announced on plain) (by rw [lc]; exact keyLanded_heldKey f held)
      exact ⟨fun _ => ⟨refusals, mark⟩, fun other => absurd announced other, keyOff_left flown (queue.trans lc)⟩
    · have eq := keyOut_of_left left on plain
      rw [if_pos marked] at eq
      have state : (s.keyLanded f).offerKeyOff.ks.state = s.ks.state := by rw [offerKeyOff_ks]; rfl
      have other : s.ks.state ≠ .announce := by obtain h | h | h := left <;> rw [h] <;> nofun
      have ks : (s.keyOut f).ks.state = s.ks.state ∧ (s.keyOut f).ks.refusals = s.ks.refusals := by
        rw [eq, heldKeyTaken_ks (by rw [state]; exact other), offerKeyOff_ks]
        exact ⟨rfl, rfl⟩
      have queue := keyOut_lc eq (keyLanded_heldKey f held)
      exact ⟨fun announced => absurd announced other, fun _ => ks, keyOff_left flown queue⟩
  · refine ⟨_, exec_keyComplete_of flown, ?_⟩
    have eq := keyOut_of_left h on plain
    rw [if_neg (by simp [unmarked])] at eq
    rw [keyOut_lc eq held]
    exact keyLanded_lc s f

/-- Settles O45. -/
theorem sequencerTimersRun : Obligations.SequencerTimersRun := by
  intro s due
  refine ⟨fun on running => ?_, fun tail running => ?_, fun running => ?_⟩
  · refine ⟨(s.reach due).seqEnds, ?_, rfl, rfl, rfl, rfl, rfl, ?_, ?_⟩
    · rw [exec_tSeqExpiry, if_pos on, onExpiry_of_running running]
    · rw [commit_ampKey]
      rfl
    · obtain still | ⟨wait, -⟩ | ⟨-, moved⟩ := commit_seqState .nothing s (s.reach due).seqEnds
      · exact .inl still
      · cases wait
      · exact .inr moved
  · have run : exec .tailExpiry s = .next (commit .nothing s (s.reach due).tailEnds) := by
      rw [exec_tailExpiry, if_pos tail, onExpiry_of_running running]
    obtain ⟨tenure, link, period, now⟩ := tailEnds_tenures (s.reach due)
    obtain ⟨-, -, -, cause, lockout, counted, -, cu⟩ := tailOver_fields (s.reach due)
    obtain ⟨ks, standby, -⟩ := enterReceive_fields (s.reach due).tailOver
    refine ⟨_, run, ?_, ?_, ?_, ?_, ?_, fun up => ?_, fun ptt drop => ?_, fun drop => ?_, fun ptt kept => ?_⟩
    · rw [commit_ampKey]; exact tailEnds_state _
    · rw [commit_keyTenure]; exact tenure
    · rw [commit_keyTenureLink]; exact link
    · rw [commit_tenurePeriod]; exact period
    · rw [commit_now]; exact now
    · rw [commit_cu, tailEnds_of_released (s := s.reach due) up, commit_ks .nothing s (by rw [ks]; rfl), ks, standby, cu]
      exact ⟨rfl, rfl, cause, rfl⟩
    · rw [commit_cu, tailEnds_of_dropped (s := s.reach due) ptt drop, commit_ks .nothing s rfl]
      exact ⟨rfl, lockout, cause, cu⟩
    · cases ptt : s.ks.ptt with
      | false =>
        rw [tailEnds_of_released (s := s.reach due) ptt, commit_ks .nothing s (by rw [ks]; rfl), ks]
        exact counted drop
      | true =>
        rw [tailEnds_of_dropped (s := s.reach due) ptt drop, commit_ks .nothing s rfl]
        exact counted drop
    · rw [tailEnds_of_pressed (s := s.reach due) ptt kept]
      exact commit_pressed (judgePress_fields _).1
  · refine ⟨_, exec_keyTenurePeriodExpiry s, ?_, ?_, ?_⟩
    · rw [commit_now, onExpiry_of_running running]; rfl
    · rw [commit_keyTenure, onExpiry_of_running running]; exact satSucc_eq _ _
    · rw [commit_tenurePeriod, onExpiry_of_running running]
      have raised : (s.reach due).raiseKeyTenure.ks.tenurePeriod =
          if 63 ≤ satSucc 63 s.ks.keyTenure then .stopped else .running (max s.now due + s.period) := rfl
      rw [raised, satSucc_eq]
      exact if_congr (by omega) rfl rfl

/-- Settles O46. -/
theorem relayTimersBreakAndMake : Obligations.RelayTimersBreakAndMake := by
  intro s due running
  refine ⟨fun breaking dropped => ?_, fun breaking kept => ?_, fun making differs => ?_, fun making done => ?_⟩
  · have eq := breakEnds_of_dropped (s := s.reach due) dropped
    have state : (s.reach due).breakEnds.rd.state = .breaking := by rw [eq]; exact breaking
    refine ⟨_, exec_breakExpiry s, ?_⟩
    rw [if_pos breaking, onExpiry_of_running running, commit_relays .nothing s (by rw [state]; nofun), eq]
    exact ⟨breaking, rfl, rfl⟩
  · have eq := breakEnds_of_kept (s := s.reach due) kept
    refine ⟨_, exec_breakExpiry s, ?_⟩
    rw [if_pos breaking, onExpiry_of_running running, commit_relays .nothing s (by rw [eq]; nofun), eq]
    exact ⟨rfl, rfl, rfl⟩
  · have eq := makeEnds_of_differs (s := s.reach due) differs
    refine ⟨_, exec_makeExpiry s, ?_⟩
    rw [if_pos making, onExpiry_of_running running, commit_relays .nothing s (by rw [eq]; nofun), eq]
    exact ⟨rfl, rfl, rfl⟩
  · refine ⟨(s.reach due).makeEnds, ?_, ?_⟩
    · rw [exec_makeExpiry, if_pos making, onExpiry_of_running running]
    · rw [makeEnds_of_done (s := s.reach due) done]
      exact ⟨rfl, rfl, rfl, rfl⟩

end Sys2Proof.Proofs

/-! SUPPORT. CLAIMs and RELEASEs gone out (6.4, 6.6). -/

namespace Sys2Proof.Machine

theorem antennaCode_toNat {a : Antenna} (h : a ≤ 63) : (antennaCode a).toNat = a := by
  unfold antennaCode
  rw [BitVec.toNat_ofNat]
  exact Nat.mod_eq_of_lt (Nat.lt_succ_of_le h)

/-- With room in the queue a RELEASE stands there, no unsent CLAIM for its slot and antenna being left (R110). -/
theorem offerRelease_room {s : State} {i : Slot} {a : Antenna} (r : ReleaseReason) (y : Option Position)
    (loud : s.leavingSilently = false) (small : a ≤ 63) (room : s.lc.queue.length < 8) :
    s.offerRelease i a r y = ((s.withdrawUnsent (isClaimFor i a)).setLc { s.lc with
      queue := enqueue ⟨s.releaseFrame i a r y, false, false⟩ (dropUnsent (isClaimFor i a) s.lc.queue) }, .entered) := by
  have kin : (s.withdrawUnsent (isClaimFor i a)).lc.NoKin (s.releaseFrame i a r y) := by
    refine .inr (.inr (.inr (.inl ⟨_, _, rfl, ?_⟩)))
    dsimp only
    rw [antennaCode_toNat small]
    exact Option.isSome_eq_false_iff.2 (by simp [State.withdrawUnsent, unsent_dropUnsent])
  refine (if_neg (by simp [loud])).trans ?_
  exact offer_enters kin (lt_of_le_of_lt (dropUnsent_length_le _ _) room)

/-- With room in the queue an assert CLAIM stands there (R107). -/
theorem offerAssert_room {s : State} (i : Slot) (a : Antenna) (m : Mask) (t : Nat) (room : s.lc.queue.length < 8) :
    ∃ e ∈ (s.offerAssert i a m t).lc.queue, e.inFlight = false ∧ e.frame = s.claimFrame i a m true t := by
  unfold State.offerAssert
  rw [offer_enters (claimFrame_noKin _ s i a m true t) room, if_neg nofun]
  exact ⟨⟨s.claimFrame i a m true t, false, false⟩, mem_enqueue.2 (.inl rfl), rfl, rfl⟩

/-- The part once its CLAIM has gone out: the slot renewed, the tenure on the link (R46, R93, R106). -/
def State.claimTaken (s : State) (f : ClaimFrame) : State :=
  (s.landed.renewSlots [f.slot]).setSlot f.slot ((s.slot f.slot).linked f.tenure.toNat)

theorem claimOut_eq (s : State) (f : ClaimFrame) :
    s.claimOut f = if f.isAssert then s.claimTaken f else (s.claimTaken f).plainClaimOut f.slot f.antenna.toNat := rfl

theorem claimTaken_slot (s : State) (f : ClaimFrame) :
    (s.claimTaken f).slot f.slot = (s.slot f.slot).linked f.tenure.toNat :=
  slot_setSlot_self ..

theorem claimTaken_queue (s : State) (f : ClaimFrame) : (s.claimTaken f).lc.queue = landedQueue s.lc.queue := rfl

theorem claimTaken_queuedCand (s : State) (f : ClaimFrame) (a : Antenna) :
    (s.claimTaken f).queuedCand f.slot a = s.queuedCand f.slot a := by
  unfold State.queuedCand
  rw [claimTaken_slot]
  rfl

/-- What the judging of a CLAIM gone out leaves of its slot and of the Status Generator (R93, R106). -/
structure OutKept (i : Slot) (s t : State) : Prop where
  flights : flights t.lc.queue = flights s.lc.queue
  renewed : t.sg.renewed = s.sg.renewed
  notified : t.sg.notified = s.sg.notified
  tenures : (t.slot i).held.map (fun h => h.tenureLink) = (s.slot i).held.map (fun h => h.tenureLink)
  freeing : (t.slot i).freeing = (s.slot i).freeing

theorem OutKept.refl (i : Slot) (s : State) : OutKept i s s := ⟨rfl, rfl, rfl, rfl, rfl⟩

theorem OutKept.trans {i : Slot} {s t u : State} (h : OutKept i s t) (k : OutKept i t u) : OutKept i s u :=
  ⟨k.flights.trans h.flights, k.renewed.trans h.renewed, k.notified.trans h.notified, k.tenures.trans h.tenures,
    k.freeing.trans h.freeing⟩

theorem OutKept.setSlot {i : Slot} {s : State} {r : SlotRecord}
    (tenures : r.held.map (fun h => h.tenureLink) = (s.slot i).held.map (fun h => h.tenureLink))
    (freeing : r.freeing = (s.slot i).freeing) : OutKept i s (s.setSlot i r) :=
  ⟨rfl, rfl, rfl, by rw [slot_setSlot_self]; exact tenures, by rw [slot_setSlot_self]; exact freeing⟩

theorem offer_outKept (s : State) (f : LinkFrame) (i : Slot) : OutKept i s (s.offer f).1 := by
  refine ⟨?_, ?_, ?_, ?_, ?_⟩
  · rw [offer_lc]
    exact (LinkCtl.offer_kept s.lc f).flights
  · rw [offer_sg]
  · rw [offer_sg]
  · rw [offer_slot]
  · rw [offer_slot]

theorem offerRelease_outKept (s : State) (i j : Slot) (a : Antenna) (r : ReleaseReason) (y : Option Position) :
    OutKept i s (s.offerRelease j a r y).1 := by
  unfold State.offerRelease
  split
  · exact .refl i s
  · exact OutKept.trans (t := s.withdrawUnsent (isClaimFor j a)) ⟨flights_dropUnsent _ _, rfl, rfl, rfl, rfl⟩
      (offer_outKept _ _ i)

theorem offerAssert_outKept (s : State) (i : Slot) (a : Antenna) (m : Mask) (t : Nat) : OutKept i s (s.offerAssert i a m t) := by
  unfold State.offerAssert
  dsimp only
  split
  · exact offer_outKept _ _ i
  · refine (offer_outKept s _ i).trans (.setSlot ?_ rfl)
    unfold SlotRecord.paced
    dsimp only
    rw [Option.map_map]
    refine congrFun (congrArg _ (funext fun h => ?_)) _
    show HeldPart.tenureLink (if _ then _ else _) = _
    split <;> rfl

/-- A candidate whose antennas the view leaves no room is lost (R103). -/
theorem candidateOut_lost {s : State} (i : Slot) {c : Candidate}
    (full : ¬ (s.uses c.antenna c.mask).all (fun a => s.available a) = true) :
    s.candidateOut i c = ((s.setSlot i { s.slot i with cand := none }).offerRelease i c.antenna .lost none).1 :=
  if_pos (by simpa [State.anyFull] using full)

theorem candidateOut_window {s : State} (i : Slot) {c : Candidate}
    (all : (s.uses c.antenna c.mask).all (fun a => s.available a) = true) :
    s.candidateOut i c = s.setSlot i { s.slot i with cand := some { c with phase := .window (s.now + s.window) } } :=
  if_neg (by simpa [State.anyFull] using all)

/-- A grow whose added members the view leaves no room is lost (R125, R126). -/
theorem growOut_lost {s : State} (i : Slot) {h : HeldPart} {g : Grow}
    (full : ¬ (s.membersOf h.antenna (g.mask &&& ~~~h.mask)).all (fun a => s.available a) = true) :
    s.growOut i h g =
      (s.setSlot i { s.slot i with held := some { h with grow := none } }).offerAssert i h.antenna h.mask h.tenure :=
  if_pos (by simpa [State.anyFull] using full)

theorem growOut_window {s : State} (i : Slot) {h : HeldPart} {g : Grow}
    (all : (s.membersOf h.antenna (g.mask &&& ~~~h.mask)).all (fun a => s.available a) = true) :
    s.growOut i h g = s.setSlot i { s.slot i with
      held := some { h with grow := some { g with phase := .window (s.now + s.window) } } } :=
  if_neg (by simpa [State.anyFull] using all)

theorem candidateOut_outKept {s : State} {i : Slot} (c : Candidate) : OutKept i s (s.candidateOut i c) := by
  by_cases all : (s.uses c.antenna c.mask).all (fun a => s.available a) = true
  · rw [candidateOut_window i all]
    exact .setSlot rfl rfl
  · rw [candidateOut_lost i all]
    exact OutKept.trans (t := s.setSlot i { s.slot i with cand := none }) (.setSlot rfl rfl)
      (offerRelease_outKept _ i i _ _ _)

theorem growOut_outKept {s : State} {i : Slot} {h : HeldPart} (g : Grow) (held : (s.slot i).held = some h) :
    OutKept i s (s.growOut i h g) := by
  have tenure (h' : HeldPart) (same : h'.tenureLink = h.tenureLink) :
      (some h').map (fun h => h.tenureLink) = (s.slot i).held.map (fun h => h.tenureLink) := by simp [held, same]
  by_cases all : (s.membersOf h.antenna (g.mask &&& ~~~h.mask)).all (fun a => s.available a) = true
  · rw [growOut_window i all]
    exact .setSlot (tenure _ rfl) rfl
  · rw [growOut_lost i all]
    exact OutKept.trans (t := s.setSlot i { s.slot i with held := some { h with grow := none } }) (.setSlot (tenure _ rfl) rfl)
      (offerAssert_outKept _ i _ _ _)

theorem plainClaimOut_outKept (s : State) (i : Slot) (a : Antenna) : OutKept i s (s.plainClaimOut i a) := by
  unfold State.plainClaimOut
  split
  · exact .refl i s
  · split
    next => exact candidateOut_outKept _
    next h => exact growOut_outKept _ (held_of_queuedGrow h).1
    next => exact .refl i s

theorem claimOut_outKept (s : State) (f : ClaimFrame) : OutKept f.slot (s.claimTaken f) (s.claimOut f) := by
  rw [claimOut_eq]
  split
  · exact .refl _ _
  · exact plainClaimOut_outKept _ _ _

/-- The last plain CLAIM of a QUEUED candidate is its candidate's (R103). -/
theorem claimOut_of_cand {s : State} {f : ClaimFrame} {c : Candidate} (plain : f.isAssert = false)
    (last : unsent (isPlainClaimFor f.slot f.antenna.toNat) s.lc.queue = none)
    (queued : s.queuedCand f.slot f.antenna.toNat = some c) :
    s.claimOut f = (s.claimTaken f).candidateOut f.slot c := by
  have none : unsent (isPlainClaimFor f.slot f.antenna.toNat) (s.claimTaken f).lc.queue = none := by
    rw [claimTaken_queue, unsent_landedQueue, last]
  rw [claimOut_eq, if_neg (by simp [plain])]
  unfold State.plainClaimOut
  rw [if_neg (by simp [none]), claimTaken_queuedCand, queued]

theorem claimOut_of_grow {s : State} {f : ClaimFrame} {h : HeldPart} {g : Grow} (plain : f.isAssert = false)
    (last : unsent (isPlainClaimFor f.slot f.antenna.toNat) s.lc.queue = none)
    (idle : s.queuedCand f.slot f.antenna.toNat = none) (held : (s.slot f.slot).held = some h)
    (same : h.antenna = f.antenna.toNat) (grow : h.grow = some g) (queued : g.phase = .queued) :
    s.claimOut f = (s.claimTaken f).growOut f.slot { h with tenureLink := f.tenure.toNat } g := by
  have none : unsent (isPlainClaimFor f.slot f.antenna.toNat) (s.claimTaken f).lc.queue = none := by
    rw [claimTaken_queue, unsent_landedQueue, last]
  have own : (s.claimTaken f).queuedGrow f.slot f.antenna.toNat = some ({ h with tenureLink := f.tenure.toNat }, g) := by
    unfold State.queuedGrow
    rw [claimTaken_slot]
    simp [SlotRecord.linked, held, grow, same, queued]
  rw [claimOut_eq, if_neg (by simp [plain])]
  unfold State.plainClaimOut
  rw [if_neg (by simp [none]), claimTaken_queuedCand, idle, own]

theorem exec_claimComplete_of {s : State} {p : Position} {f : ClaimFrame} (h : s.flight isClaim = some ⟨p, .claim f⟩) :
    exec .claimComplete s = .next (commit .nothing s (s.claimOut f)) := by
  rw [exec_claimComplete, h]
  rfl

/-! ### A RELEASE gone out (R110, R141) -/

/-- Two states that differ at most in the Hand-over Unit's record. -/
def AnswerOnly (s t : State) : Prop := t = s.setHu t.hu

theorem AnswerOnly.trans {s t u : State} (h : AnswerOnly s t) (k : AnswerOnly t u) : AnswerOnly s u := by
  unfold AnswerOnly at *
  rw [k, h]
  rfl

theorem AnswerOnly.eq {s t : State} (h : AnswerOnly s t) : t = s.setHu t.hu := h

theorem AnswerOnly.lc {s t : State} (h : AnswerOnly s t) : t.lc = s.lc := (congrArg State.lc h.eq).trans rfl

theorem AnswerOnly.ct {s t : State} (h : AnswerOnly s t) : t.ct = s.ct := (congrArg State.ct h.eq).trans rfl

theorem AnswerOnly.sg {s t : State} (h : AnswerOnly s t) : t.sg = s.sg := (congrArg State.sg h.eq).trans rfl

theorem givingDone_answerOnly (s : State) (p : Position) (l : List Antenna) : AnswerOnly s (s.givingDone p l) := by
  unfold State.givingDone
  repeat' split
  all_goals rfl

theorem givingPartDone_answerOnly (s : State) (p : FreeingPart) : AnswerOnly s (s.givingPartDone p) := by
  unfold State.givingPartDone
  split
  · exact givingDone_answerOnly _ _ _
  · rfl

/-- A GIVING of the antenna to the position is gone once done (R141). -/
theorem givingDone_answer (s : State) (p : Position) (a : Antenna) :
    (s.givingDone p [a]).hu.answer ≠ some ⟨p, a, .giving⟩ := by
  unfold State.givingDone
  split
  next q b h =>
    split
    · nofun
    next other =>
      intro same
      rw [h] at same
      obtain ⟨rfl, rfl⟩ : q = p ∧ b = a := by simpa using same
      exact other ⟨rfl, by simp⟩
  next other => exact fun same => other p a same

/-- The part once its RELEASE has gone out and its freeing part has left the slot (R110). -/
def State.partReleased (s : State) (f : ReleaseFrame) : State :=
  s.landed.setSlot f.slot { s.slot f.slot with freeing := (s.slot f.slot).freeing.filter (fun p => !p.sentBy f) }

/-- The part once the GIVINGs of the freeing parts that have gone are done (R141). -/
def State.partsGiven (s : State) (f : ReleaseFrame) : State :=
  ((s.slot f.slot).freeing.filter (fun p => p.sentBy f)).foldl (fun s p => s.givingPartDone p) (s.partReleased f)

theorem releaseOut_eq (s : State) (f : ReleaseFrame) :
    s.releaseOut f = if s.landed.releaseQueued f then s.landed
      else if f.yieldValid && !(s.partsGiven f).gives f.yieldTo f.antenna.toNat then
        (s.partsGiven f).givingDone f.yieldTo [f.antenna.toNat]
      else s.partsGiven f := rfl

theorem releaseQueued_landed (s : State) (f : ReleaseFrame) :
    s.landed.releaseQueued f = s.lc.queue.any (fun e => !e.inFlight && e.frame.body == .release f) :=
  List.any_filter

theorem partsGiven_answerOnly (s : State) (f : ReleaseFrame) : AnswerOnly (s.partReleased f) (s.partsGiven f) := by
  unfold State.partsGiven
  exact List.foldlRecOn (motive := fun t => AnswerOnly (s.partReleased f) t) _ _ rfl
    fun t h p _ => h.trans (givingPartDone_answerOnly t p)

theorem releaseOut_of_queued {s : State} {f : ReleaseFrame}
    (h : s.lc.queue.any (fun e => !e.inFlight && e.frame.body == .release f) = true) : s.releaseOut f = s.landed := by
  rw [releaseOut_eq, releaseQueued_landed, if_pos h]

theorem releaseOut_of_last {s : State} {f : ReleaseFrame}
    (h : ¬ s.lc.queue.any (fun e => !e.inFlight && e.frame.body == .release f) = true) :
    AnswerOnly (s.partReleased f) (s.releaseOut f) := by
  rw [releaseOut_eq, releaseQueued_landed, if_neg h]
  split
  · exact (partsGiven_answerOnly s f).trans (givingDone_answerOnly _ _ _)
  · exact partsGiven_answerOnly s f

theorem partReleased_slot (s : State) (f : ReleaseFrame) :
    (s.partReleased f).slot f.slot =
      { s.slot f.slot with freeing := (s.slot f.slot).freeing.filter (fun p => !p.sentBy f) } :=
  slot_setSlot_self ..

theorem partReleased_other {s : State} {f : ReleaseFrame} {j : Slot} (h : j ≠ f.slot) :
    (s.partReleased f).slot j = s.slot j :=
  slot_setSlot_ne _ _ h

/-- No slot gives where none yields and no hold hands a member over (R129, R140). -/
theorem gives_eq_false {s : State} {y : Position} {a : Antenna}
    (h : ∀ i, (∀ x ∈ (s.slot i).freeing, x.yieldTo ≠ some y) ∧
      ∀ h, (s.slot i).held = some h → h.shrink = none ∧ h.give = none) : s.gives y a = false := by
  unfold State.gives
  rw [List.any_eq_false]
  intro i _
  obtain ⟨freeing, held⟩ := h i
  unfold State.slotGives
  have parts : (s.slot i).freeing.any (fun p => p.yieldTo == some y && (s.uses p.antenna p.mask).contains a) = false := by
    rw [List.any_eq_false]
    intro x hx
    simp [freeing x hx]
  rw [parts]
  cases hs : (s.slot i).held with
  | none => simp
  | some k =>
    obtain ⟨shrink, give⟩ := held k hs
    simp [shrink, give]

theorem exec_releaseComplete_of {s : State} {p : Position} {f : ReleaseFrame}
    (h : s.flight isRelease = some ⟨p, .release f⟩) :
    exec .releaseComplete s = .next (commit .nothing s (s.releaseOut f)) := by
  rw [exec_releaseComplete, h]
  rfl

/-! ### A RELEASE offered (R110) -/

theorem setSlot_slot (s : State) (i : Slot) : s.setSlot i (s.slot i) = s := by
  cases i <;> rfl

theorem freeingReady_iff (s : State) (i : Slot) (p : FreeingPart) :
    s.freeingReady i p = true ↔ match i with
      | .main => s.rd.lines.ant &&& antBit p.antenna = 0 ∧
          s.rd.lines.member &&& s.portMemberBits p.antenna p.drive = 0
      | .aux => s.rd.lines.ant &&& antBit p.antenna = 0
      | _ => True := by
  cases i <;> simp [State.freeingReady]

/-- Freeing parts that wait, or have offered their RELEASE, offer none (R110). -/
theorem releaseParts_of_waiting {s : State} {i : Slot} {l : List FreeingPart}
    (h : ∀ p ∈ l, p.released = true ∨ s.freeingReady i p = false) : s.releaseParts i l = (s, l) := by
  induction l with
  | nil => rfl
  | cons p ps ih =>
    obtain ⟨first, rest⟩ := List.forall_mem_cons.1 h
    unfold State.releaseParts
    rw [if_pos (by obtain h | h := first <;> simp [h]), ih rest]

theorem freeingStep_of_waiting {s : State} {i : Slot}
    (h : ∀ p ∈ (s.slot i).freeing, p.released = true ∨ s.freeingReady i p = false) : s.freeingStep i = s := by
  unfold State.freeingStep
  rw [releaseParts_of_waiting h]
  exact setSlot_slot s i

/-- A freeing part alone whose wait is over offers its RELEASE (R110). -/
theorem freeingStep_of_ready {s : State} {i : Slot} {p : FreeingPart} (alone : (s.slot i).freeing = [p])
    (waiting : p.released = false) (ready : s.freeingReady i p = true)
    (offered : (s.offerRelease i p.antenna p.reason p.yieldTo).2 ≠ .refused) :
    s.freeingStep i = (s.offerRelease i p.antenna p.reason p.yieldTo).1.setSlot i
      { (s.offerRelease i p.antenna p.reason p.yieldTo).1.slot i with freeing := [{ p with released := true }] } := by
  have parts : s.releaseParts i [p] = ((s.offerRelease i p.antenna p.reason p.yieldTo).1, [{ p with released := true }]) := by
    unfold State.releaseParts
    rw [if_neg (by simp [waiting, ready])]
    dsimp only
    rw [if_neg offered]
    rfl
  unfold State.freeingStep
  rw [alone, parts]

end Sys2Proof.Machine

namespace Sys2Proof.Proofs

open Sys2Proof.Machine

/-- Settles O33. -/
theorem claimCompleteJudgesView : Obligations.ClaimCompleteJudgesView := by
  intro s p f flown
  obtain ⟨flights, renewed, notified, tenures, freeing⟩ := claimOut_outKept s f
  have room (len : s.lc.queue.length ≤ 8) : (landedQueue s.lc.queue).length < 8 := by
    have := landedQueue_length_lt flown
    omega
  rw [claimTaken_slot] at tenures freeing
  refine ⟨_, exec_claimComplete_of flown, ?_, ?_, ?_, ?_, fun h held => ?_, ?_, fun h g plain idle held same grow queued last => ?_,
    fun c plain queued last => ?_⟩
  · rw [flights, claimTaken_queue]
    exact flights_landedQueue _
  · rw [renewed]
    exact Slots.get_set_self ..
  · rw [notified]
    exact Slots.get_set_self ..
  · simpa [SlotRecord.linked] using congrArg Option.isSome tenures
  · rw [held] at tenures
    cases before : (s.slot f.slot).held with
    | none => simp [SlotRecord.linked, before] at tenures
    | some k => simpa [SlotRecord.linked, before] using tenures
  · rw [freeing]
    rfl
  · rw [claimOut_of_grow plain last idle held same grow queued]
    by_cases all : (s.membersOf h.antenna (g.mask &&& ~~~h.mask)).all (fun a => s.available a) = true
    · rw [if_pos all, growOut_window (s := s.claimTaken f) (h := { h with tenureLink := f.tenure.toNat }) f.slot all,
        slot_setSlot_self]
      rfl
    · rw [if_neg all, growOut_lost (s := s.claimTaken f) (h := { h with tenureLink := f.tenure.toNat }) f.slot all]
      refine ⟨?_, fun len => offerAssert_room f.slot h.antenna h.mask h.tenure (s := State.setSlot _ _ _) (room len)⟩
      obtain ⟨told | ⟨n, told⟩, -⟩ := offerAssert_slot ((s.claimTaken f).setSlot f.slot { (s.claimTaken f).slot f.slot with
        held := some { h with tenureLink := f.tenure.toNat, grow := none } }) f.slot h.antenna h.mask h.tenure
      · rw [told, slot_setSlot_self]
        exact ⟨_, rfl, rfl⟩
      · rw [told, slot_setSlot_self]
        exact paced_held (h := { h with tenureLink := f.tenure.toNat, grow := none }) h.antenna n rfl
  · rw [claimOut_of_cand plain last queued]
    obtain ⟨cand, antenna, -⟩ := cand_of_queuedCand queued
    by_cases all : (s.uses c.antenna c.mask).all (fun a => s.available a) = true
    · rw [if_pos all, candidateOut_window (s := s.claimTaken f) f.slot all, slot_setSlot_self]
      rfl
    · rw [if_neg all, candidateOut_lost (s := s.claimTaken f) f.slot all]
      refine ⟨?_, fun len loud => ?_⟩
      · rw [slot_congr (congrArg ClaimTable.slots (offerRelease_ct ..)), slot_setSlot_self]
      · rw [offerRelease_room (s := (s.claimTaken f).setSlot f.slot _) .lost none loud
          (by rw [antenna]; exact Nat.lt_succ_iff.1 f.antenna.isLt) (room len)]
        exact ⟨⟨s.releaseFrame f.slot c.antenna .lost none, false, false⟩, mem_enqueue.2 (.inl rfl), rfl⟩

/-- Settles O37. -/
theorem releaseCompleteEndsFreeing : Obligations.ReleaseCompleteEndsFreeing := by
  refine ⟨fun s p f flown => ⟨_, exec_releaseComplete_of flown, ?_⟩, fun i s =>
    ⟨freeingReady_iff s i, freeingStep_of_waiting, fun p alone waiting ready small loud room => ?_⟩⟩
  · by_cases queued : s.lc.queue.any (fun e => !e.inFlight && e.frame.body == .release f) = true
    · rw [releaseOut_of_queued queued, if_pos queued]
      refine ⟨flights_landedQueue _, rfl, rfl, rfl, fun _ _ => rfl, fun _ => rfl, fun _ last => ?_, rfl⟩
      obtain ⟨e, he, hf⟩ := List.any_eq_true.1 queued
      obtain ⟨idle, body⟩ : e.inFlight = false ∧ e.frame.body = .release f := by simpa using hf
      exact absurd (last e he body) (by simp [idle])
    · have only := releaseOut_of_last queued
      have slot (j : Slot) : (s.releaseOut f).slot j = (s.partReleased f).slot j := slot_congr (congrArg _ only.ct) j
      rw [if_neg queued]
      refine ⟨?_, ?_, ?_, ?_, fun j hj => ?_, fun h => absurd h queued, fun valid last quiet => ?_, ?_⟩
      · rw [only.lc]; exact flights_landedQueue _
      · rw [slot, partReleased_slot]
      · rw [slot, partReleased_slot]
      · rw [slot, partReleased_slot]
      · rw [slot, partReleased_other hj]
      · have given : (s.partsGiven f).gives f.yieldTo f.antenna.toNat = false := by
          refine gives_eq_false fun i => ?_
          have same : (s.partsGiven f).slot i = (s.partReleased f).slot i :=
            slot_congr (congrArg _ (partsGiven_answerOnly s f).ct) i
          obtain ⟨parts, held⟩ := quiet i
          rw [same]
          by_cases hi : i = f.slot
          · subst hi
            rw [partReleased_slot]
            refine ⟨fun x hx yields => ?_, held⟩
            obtain ⟨mem, kept⟩ := List.mem_filter.1 hx
            exact absurd (parts x mem yields).2 (by simpa using kept)
          · rw [partReleased_other hi]
            exact ⟨fun x hx yields => hi (parts x hx yields).1, held⟩
        rw [releaseOut_eq, releaseQueued_landed, if_neg queued, if_pos (by simp [valid, given])]
        exact givingDone_answer _ _ _
      · rw [only.sg]
        rfl
  · have offered := offerRelease_room (i := i) p.reason p.yieldTo loud (small.trans (by decide)) room
    rw [freeingStep_of_ready alone waiting ready (by rw [offered]; nofun), slot_setSlot_self, offered]
    refine ⟨rfl, rfl, rfl, ⟨_, mem_enqueue.2 (.inl rfl), rfl, rfl⟩, fun e he claim => ?_⟩
    obtain rfl | he := mem_enqueue.1 he
    · cases claim
    · obtain ⟨-, kept⟩ := List.mem_filter.1 he
      simpa [claim] using kept

end Sys2Proof.Proofs

/-! SUPPORT. The Claim Table's timers (6.5, 6.8, 6.10, 7.3). -/

namespace Sys2Proof.Machine

/-! ### What the checks of a claim read (R99) -/

/-- The part with nothing but what the checks of a claim read. -/
def State.claimView (s : State) : State :=
  { State.reset with
    fu := s.fu, ps := s.ps, jc := { State.reset.jc with state := s.jc.state, number := s.jc.number },
    pt := { State.reset.pt with records := s.pt.records, linkLost := s.pt.linkLost },
    sg := { State.reset.sg with obligation := s.sg.obligation }, ct := s.ct }

theorem localCheck_claimView (s : State) (i : Slot) (a : Antenna) (m : Mask) :
    s.claimView.localCheck i a m = s.localCheck i a m := rfl

theorem localCheck_congr {s t : State} (h : t.claimView = s.claimView) (i : Slot) (a : Antenna) (m : Mask) :
    t.localCheck i a m = s.localCheck i a m := by
  rw [← localCheck_claimView, h, localCheck_claimView]

/-- The reactions that keep the claims, the Claim Table and the first-full-status obligation keep what the checks read. -/
theorem claimView_of_kept {s t : State} (k : Kept s t) (ct : t.ct = s.ct) : t.claimView = s.claimView := by
  unfold State.claimView
  rw [k.fu, k.ps, k.join, k.records, k.linkLost, k.obligation, ct]

theorem reactStart_claimView (heard : KeyHeard) (before s : State) :
    (reactStart heard before s).claimView = s.claimView := by
  obtain ⟨x, e⟩ := recentReact_eq before (State.remark heard before s)
  unfold reactStart State.ptReact
  rw [e]
  split <;> rfl

/-- The Claim Table's first turn finds what the checks read as the event left it. -/
theorem turned_claimView (heard : KeyHeard) (before s : State) (b : Bool) :
    ((reactStart heard before s).turnIf b).claimView = s.claimView :=
  (claimView_of_kept (turnIf_moves _ b).kept (turnIf_ct _ b)).trans (reactStart_claimView heard before s)

/-! ### One KEY at most in a turn of the Interlock Evaluator (R147) -/

theorem offerKey_length (s : State) (f : LinkFrame) :
    (s.offerKey f).1.lc.queue.length ≤ s.lc.queue.length + 1 := by
  show (s.offer f).1.lc.queue.length ≤ _
  rw [offer_lc]
  exact LinkCtl.offer_length_succ _ _

theorem lockOut_lc (s : State) (r : Option LockReason) : (s.lockOut r).lc = s.lc := by
  rw [lockOut_eq]
  rfl

theorem judgePress_length (s : State) : s.judgePress.lc.queue.length ≤ s.lc.queue.length + 1 := by
  unfold State.judgePress
  split
  · split
    · exact Nat.le_succ _
    · unfold State.announceKey
      dsimp only
      split
      · rw [lockOut_lc]
        exact offerKey_length _ _
      · exact offerKey_length _ _
  · split
    · exact Nat.le_succ _
    · rw [lockOut_lc]; exact Nat.le_succ _
    · rw [lockOut_lc]; exact Nat.le_succ _

theorem startTail_length (s : State) (cause : TailCause) (lockout : Option LockReason) :
    (s.startTail cause lockout).lc.queue.length ≤ s.lc.queue.length + 1 := by
  rw [startTail_eq]
  unfold State.offerKeyOff
  split
  · exact Nat.le_succ _
  · exact offerKey_length _ _

theorem sequencerTold_length (s : State) : s.sequencerTold.lc.queue.length ≤ s.lc.queue.length + 1 := by
  unfold State.sequencerTold
  split
  · exact judgePress_length s
  · split
    · exact Nat.le_succ _
    · exact startTail_length s _ _
  · split
    · exact Nat.le_succ _
    · exact startTail_length s _ _
  · exact Nat.le_succ _

theorem turned_length (heard : KeyHeard) (before s : State) (b : Bool) :
    ((reactStart heard before s).turnIf b).lc.queue.length ≤ s.lc.queue.length + 1 := by
  have start : (reactStart heard before s).lc = s.lc := by
    obtain ⟨x, e⟩ := recentReact_eq before (State.remark heard before s)
    unfold reactStart State.ptReact
    rw [e]
    split <;> rfl
  unfold State.turnIf
  split
  · exact (sequencerTold_length _).trans (Nat.succ_le_succ (congrArg (fun l => l.queue.length) start).le)
  · rw [start]
    exact Nat.le_succ _

/-! ### The service that follows relearn quiet (R112, R116) -/

/-- Checks that pass find the part open for service (R99, R112). -/
theorem serviceOpen_of_localCheck {s : State} {i : Slot} {a : Antenna} {m : Mask} (h : s.localCheck i a m = none) :
    s.serviceOpen = true := by
  unfold State.serviceOpen
  unfold State.localCheck at h
  repeat' split at h
  all_goals cases h
  simp_all

/-- A lone wait entry that passes the checks is served where an event makes a pass, and nothing else is (R112). -/
theorem commit_serves {before u : State} {e : WaitEntry} (heard : KeyHeard) (band : u.fu.band = before.fu.band)
    (owed : u.sg.obligation = before.sg.obligation) (live : ∀ i, before.slotLive i = false → u.slotLive i = false)
    (due : ∀ v : State, v.ct = u.ct → serviceDue before v = true) (list : u.ct.waitList = [e])
    (free : (u.slot e.slot).cand = none) (apart : ∀ h, (u.slot e.slot).held = some h → h.antenna ≠ e.antenna)
    (agreed : u.pt.disagreement = false) (check : u.localCheck e.slot e.antenna e.mask = none)
    (room : u.lc.queue.length < 7) :
    ((commit heard before u).slot e.slot).cand = some ⟨e.antenna, e.mask, .queued, e.waits, none, false⟩ ∧
      (commit heard before u).ct.waitList = [] := by
  obtain ⟨v, hv⟩ : ∃ v, v = (reactStart heard before u).turnIf (Config.ieFirst before.choices) := ⟨_, rfl⟩
  have ct : v.ct = u.ct := hv ▸ turned_ct heard before u _
  have view : v.claimView = u.claimView := hv ▸ turned_claimView heard before u _
  have length : v.lc.queue.length ≤ u.lc.queue.length + 1 := hv ▸ turned_length heard before u _
  obtain ⟨fu, obligation⟩ : v.fu = u.fu ∧ v.sg.obligation = u.sg.obligation := hv ▸ turned_kept heard before u _
  have slot (i : Slot) : v.slot i = u.slot i := slot_congr (congrArg _ ct) i
  have check' : v.localCheck e.slot e.antenna e.mask = none := (localCheck_congr view _ _ _).trans check
  have records : v.pt.records = u.pt.records := congrArg (fun t => t.pt.records) view
  have open_ : v.maybeServed e := ⟨by rw [slot]; exact free, .inl (by
    unfold PeerTable.disagreement at agreed ⊢
    rw [records]; exact agreed)⟩
  obtain ⟨cand, held, waits, -⟩ := serveEntry_served_slot open_ check' (by omega)
  have list' : v.ct.waitList = [e] := by rw [ct]; exact list
  have pass : v.servicePass = (v.serveEntry e).1 := by
    rw [servicePass_of_room (serviceOpen_of_localCheck check') (by rw [list']; simp; omega), list']
    rfl
  have first : State.serviceReact before v = (v.serveEntry e).1.owePass false := by
    unfold State.serviceReact
    rw [if_pos (due v ct), pass]
  have none : ((v.serveEntry e).1.owePass false).ct.waitList = [] := by
    show (v.serveEntry e).1.ct.waitList = []
    rw [waits, list']
    simp
  have second (w : State) : State.serviceLeft w ((v.serveEntry e).1.owePass false) =
      ((v.serveEntry e).1.owePass false).owePass false := by
    unfold State.serviceLeft
    rw [servicePass_of_empty none, ite_self]
  have claims : State.ctReact before v = ((v.serveEntry e).1.owePass false).owePass false := by
    rw [ctReact_eq (by rw [fu]; exact band) (obligation.trans owed) (fun i old => by
      have := live i old
      unfold State.slotLive at this ⊢
      rw [slot]; exact this), first, second]
  have settled : reactSettled heard before u =
      ((((v.serveEntry e).1.owePass false).owePass false).turnIf (Config.ieMiddle before.choices)).relayReact := by
    unfold reactSettled
    rw [← hv, claims]
  obtain ⟨w, hw⟩ : ∃ w, w = (((v.serveEntry e).1.owePass false).owePass false).turnIf (Config.ieMiddle before.choices) :=
    ⟨_, rfl⟩
  have wct : w.ct = { (v.serveEntry e).1.ct with passDue := false } := by rw [hw, turnIf_ct]; rfl
  have wslot (i : Slot) : w.slot i = (v.serveEntry e).1.slot i := slot_congr ((congrArg ClaimTable.slots wct).trans rfl) i
  have final := commit_ct_settled heard before u
  rw [settled, ← hw] at final
  obtain ⟨record, -⟩ := relayReact_slotsStay w e.slot
  obtain ⟨c', hc, eq, pacing⟩ := record.cand _ ((congrArg _ (wslot e.slot)).trans cand)
  have mark := pacing fun h hh => by
    rw [wslot, held, slot] at hh
    exact apart h hh
  refine ⟨?_, ?_⟩
  · rw [slot_congr (congrArg _ final), hc, eq, mark]
  · rw [final, relayReact_waitList, wct]
    exact none

theorem exec_relearnQuietExpiry {s : State} {due : Nat} (h : s.ct.relearn = .running due) :
    exec .relearnQuietExpiry s =
      .next (commit .nothing s ((s.reach due).setCt { s.ct with relearn := .stopped })) := by
  have run : exec .relearnQuietExpiry s =
      .next (commit .nothing s (s.onExpiry s.ct.relearn (fun s => s.setCt { s.ct with relearn := .stopped }))) := rfl
  rw [run, onExpiry_of_running h]
  rfl

end Sys2Proof.Machine

namespace Sys2Proof.Proofs

open Sys2Proof.Machine

/-- Settles O35. -/
theorem claimTableTimersRun : Obligations.ClaimTableTimersRun := by
  refine ⟨fun i s h due held running => ?_, fun a s r found => ?_, fun s due running => ?_, fun s h m due after held grow => ?_⟩
  · have eq : s.tenurePeriodEnds i = (s.reach due).setSlot i { s.slot i with
        held := some (h.older (.running (max s.now due + s.period))) } := by
      unfold State.tenurePeriodEnds
      rw [held]
      exact onExpiry_of_running running _
    refine ⟨s.tenurePeriodEnds i, rfl, ?_⟩
    rw [eq, slot_setSlot_self]
    refine ⟨rfl, ?_, rfl, rfl, fun j hj => slot_setSlot_ne _ _ hj⟩
    unfold HeldPart.older
    dsimp only
    rw [satSucc_eq, if_congr (show 63 ≤ min 63 (h.tenure + 1) ↔ 63 ≤ h.tenure + 1 by omega) rfl rfl]
  · have eq : s.reservationEnds a = (s.reach r.due).setCt { s.ct with
        reservations := s.ct.reservations.filter (fun q => q.antenna != a) } := by
      unfold State.reservationEnds
      rw [found] <;> rfl
    refine ⟨_, rfl, ?_, ?_⟩
    · rw [commit_now, eq]; rfl
    · rw [commit_reservations, eq]; rfl
  · refine ⟨_, exec_relearnQuietExpiry running, ?_, ?_, ?_, fun e list free apart agreed check room => ?_⟩
    · rw [commit_now]; rfl
    · rw [commit_relearn]; rfl
    · rw [commit_reservations]; rfl
    · refine commit_serves .nothing rfl rfl (fun i old => old) (fun v ct => ?_) list free apart agreed check (by
        show s.lc.queue.length < 7
        exact room)
      simp [serviceDue, ct, running, Timer.isRunning]
  · have eq : s.growWindowEnds = (s.reach due).setSlot .main { s.slot .main with
        held := some (h.grown ⟨m, .window due, after⟩) } := by
      unfold State.growWindowEnds
      rw [held]
      dsimp only
      rw [grow] <;> rfl
    refine ⟨s.growWindowEnds, rfl, ?_⟩
    rw [eq, slot_setSlot_self]
    exact ⟨rfl, rfl, rfl, fun j hj => slot_setSlot_ne _ _ hj⟩

end Sys2Proof.Proofs

/-! SUPPORT. The sender of a good frame: duplicates and failed attempts (2.9, 2.10). -/

namespace Sys2Proof.Machine

theorem takeGood_of_frame {s : State} {b : FrameBody} {body : State → State} (frame : s.lc.receiver = .frame)
    (good : b.fault = none) : s.takeGood b body = body s.heardFrame := by
  have gathering : s.gathering = true := by simpa [State.gathering] using frame
  unfold State.takeGood
  rw [if_pos gathering, if_neg (by simp [good])]

/-! ### A frame with the own number (R33, R60) -/

theorem recordFor_own {s : State} {p : Position} (own : s.isOwn p = true) : s.recordFor p = none := if_pos own

theorem isOwn_iff (s : State) (p : Position) : s.isOwn p = true ↔ s.jc.number = some p := by simp [State.isOwn]

theorem fallSilent_outside (s : State) : s.fallSilent.jc = s.jc ∧ s.fallSilent.sg.running = false ∧
    s.fallSilent.ct.reservations = s.ct.reservations := by
  have out := withdrawAll_outside s
  exact ⟨out.jc, rfl, out.reservations⟩

/-- LEAVING with case DUPLICATE: the number stays, the generator stops, no reservation is left (R33, R34). -/
theorem enterLeaving_duplicate (s : State) :
    (s.enterLeaving .duplicate).jc.state = .leaving ∧ (s.enterLeaving .duplicate).jc.leaving = some .duplicate ∧
      (s.enterLeaving .duplicate).jc.number = s.jc.number ∧ (s.enterLeaving .duplicate).sg.running = false ∧
      (s.enterLeaving .duplicate).ct.reservations = [] := by
  obtain ⟨kept, -⟩ : Kept (s.leavingBegun .duplicate) (allSlots.foldl State.leaveSlot (s.leavingBegun .duplicate)) ∧ True :=
    ⟨(leaveSlots_moves _ _).kept, trivial⟩
  obtain ⟨jc, running, reservations⟩ :=
    fallSilent_outside (allSlots.foldl State.leaveSlot (s.leavingBegun .duplicate)).claimsEmptied
  have join : (allSlots.foldl State.leaveSlot (s.leavingBegun .duplicate)).claimsEmptied.jc =
      { (s.leavingBegun .duplicate).jc with
        probeOwed := (allSlots.foldl State.leaveSlot (s.leavingBegun .duplicate)).jc.probeOwed } := kept.join
  rw [enterLeaving_eq, if_pos rfl, jc, join, running, reservations]
  exact ⟨rfl, rfl, rfl, rfl, rfl⟩

theorem offerProbe_number (s : State) (n : Position) : (s.offerProbe n).jc.number = s.jc.number := by
  rw [(offerProbe_kept s n).join]

theorem attemptFrom_number (s : State) (n : Position) : (s.attemptFrom n).jc.number = s.jc.number := by
  cases h : s.chooseFrom n with
  | some t =>
    rw [attemptFrom_some h]
    exact offerProbe_number _ _
  | none =>
    rw [attemptFrom_none h]
    rfl

/-- A frame's sender leaves the own number as it was (R29, R33). -/
theorem senderHeard_number (s : State) (p : Position) (probe : Bool) :
    (s.senderHeard p probe).jc.number = s.jc.number := by
  unfold State.senderHeard
  split
  · exact attemptFrom_number _ _
  · split
    · unfold State.duplicateFound
      split
      · exact (enterLeaving_duplicate s).2.2.1
      · exact (congrArg JoinCtl.number (fallSilent_outside (s.setJc _)).1).trans rfl
      · rfl
    · rfl

theorem senderHeard_of_run {s : State} {p : Position} (run : s.jc.state = .run) (own : s.isOwn p = true) :
    s.senderHeard p false = s.enterLeaving .duplicate := by
  unfold State.senderHeard
  rw [if_neg (by simp [run]), if_pos (by simp [own])]
  unfold State.duplicateFound
  rw [run]

theorem senderHeard_own {s : State} {p : Position} (own : s.isOwn p = true) :
    (s.senderHeard p false).isOwn p = true := by
  rw [isOwn_iff, senderHeard_number, ← isOwn_iff]
  exact own

theorem fromPeer_own {s : State} {p : Position} (own : s.isOwn p = true) (body : State → State) : s.fromPeer p body = s :=
  if_pos own

theorem headHeard_own {s : State} {p : Position} (own : s.isOwn p = true) : s.headHeard p = s := if_pos own

section
variable {s : State} {p : Position} (own : s.isOwn p = true)
include own

theorem statusHeard_own (f : StatusFrame) : s.statusHeard p f = s.senderHeard p false := by
  have same : s.applyStatus p f = s := by unfold State.applyStatus; rw [recordFor_own own]
  unfold State.statusHeard
  rw [same, fromPeer_own (senderHeard_own own), headHeard_own (senderHeard_own own)]

theorem claimHeard_own (f : ClaimFrame) : s.claimHeard p f = s.senderHeard p false := by
  have same : s.applyClaim p f = s := by unfold State.applyClaim; rw [recordFor_own own]
  unfold State.claimHeard
  rw [same]
  exact fromPeer_own (senderHeard_own own) _

theorem releaseHeard_own (f : ReleaseFrame) : s.releaseHeard p f = s.senderHeard p false := by
  have same : s.applyRelease p f = s := by unfold State.applyRelease; rw [recordFor_own own]
  unfold State.releaseHeard
  rw [same]
  exact fromPeer_own (senderHeard_own own) _

theorem keyHeard_own (f : KeyFrame) : s.keyHeard p f = s.senderHeard p false := by
  have same : s.applyKey p f = s := by unfold State.applyKey; rw [recordFor_own own]
  unfold State.keyHeard
  rw [same]
  exact fromPeer_own (senderHeard_own own) _

end

/-- A COMMAND that does not apply is recorded alone, or is not taken at all (R182). -/
theorem takeCommand_of_not_applies {s : State} {name : CommandName} {p : Position} {f : CommandFields} {own : Bool}
    (h : s.applies name p f own = false) :
    s.takeCommand name p f own =
      if s.jc.state = .load ∨ s.jc.state = .unplanned then s
      else s.setCu { s.cu with last := some (lastOf name p f false) } := by
  unfold State.takeCommand
  simp [h]

/-- A part takes no COMMAND of another unit that shows its own number (R182). -/
theorem takeCommand_own {s : State} {p : Position} (own : s.isOwn p = true) (name : CommandName) (f : CommandFields) :
    ∃ l, s.takeCommand name p f false = s.setCu { s.cu with last := l } := by
  have number := (isOwn_iff s p).1 own
  rw [takeCommand_of_not_applies (by simp [State.applies, number])]
  split
  · exact ⟨s.cu.last, rfl⟩
  · exact ⟨_, rfl⟩

/-- What a frame with the own number leaves, the sender's effect apart (R33, R60). -/
theorem commit_own {heard : KeyHeard} {s u : State} {p : Position} {l : Option LastCommand} (own : s.isOwn p = true)
    (h : u = (s.heardFrame.senderHeard p false).setCu { (s.heardFrame.senderHeard p false).cu with last := l }) :
    (commit heard s u).pt.records = s.pt.records ∧ (commit heard s u).cu.quiet = s.cu.quiet ∧
      (s.jc.state = .run → (commit heard s u).jc.state = .leaving ∧ (commit heard s u).jc.leaving = some .duplicate ∧
        (commit heard s u).jc.number = some p ∧ (commit heard s u).sg.running = false ∧
        (commit heard s u).ct.reservations = []) := by
  have same := senderHeard_same s.heardFrame p false
  have records : (s.heardFrame.senderHeard p false).pt.records = s.pt.records := same .records (by decide)
  have quiet : (s.heardFrame.senderHeard p false).cu.quiet = s.cu.quiet := (same .quiet (by decide)).1
  rw [commit_records, commit_cu, commit_joinState, commit_leaving, commit_number, commit_running, commit_reservations, h]
  refine ⟨records, quiet, fun run => ?_⟩
  rw [senderHeard_of_run (s := s.heardFrame) run own]
  obtain ⟨state, leaving, number, running, reservations⟩ := enterLeaving_duplicate s.heardFrame
  exact ⟨state, leaving, number.trans ((isOwn_iff s p).1 own), running, reservations⟩

/-! ### A failed attempt (R29) -/

/-- The part as an attempt has failed: its PROBE withdrawn, its number among the failed ones (R29). -/
def State.attemptOver (s : State) (p : Position) : State :=
  (s.withdraw isProbe).setJc { s.jc with probeWait := .stopped, probeOwed := false, failed := s.jc.failed ++ [p] }

theorem attemptFailed_eq (s : State) (p : Position) : s.attemptFailed p = (s.attemptOver p).attemptFrom (p + 1) := rfl

theorem attemptOver_queue (s : State) (p : Position) :
    (s.attemptOver p).lc.queue = markFlying isProbe (dropUnsent isProbe s.lc.queue) := rfl

theorem markFlying_isUnsent {p : LinkFrame → Bool} {q : List QueueEntry} {e : QueueEntry} (h : e ∈ markFlying p q)
    (idle : e.inFlight = false) : e ∈ q := by
  obtain ⟨x, hx, rfl⟩ := List.mem_map.1 h
  by_cases flown : (x.inFlight && p x.frame) = true
  · rw [if_pos flown] at idle
    rw [show x.inFlight = false from idle] at flown
    cases flown
  · rwa [if_neg flown]

/-- The withdrawn PROBE of a failed attempt leaves no unsent one (R51). -/
theorem attemptOver_noProbe {s : State} {p : Position} {e : QueueEntry} (h : e ∈ (s.attemptOver p).lc.queue)
    (idle : e.inFlight = false) : isProbe e.frame = false := by
  rw [attemptOver_queue] at h
  obtain ⟨-, kept⟩ := List.mem_filter.1 (markFlying_isUnsent h idle)
  simpa [idle] using kept

/-- The part as the next attempt begins, its PROBE still to be offered (R29). -/
def State.attemptNext (s : State) (p q : Position) : State :=
  (s.attemptOver p).setJc { (s.attemptOver p).jc with
    state := .probe, tentative := some q, attempts := satSucc 255 s.jc.attempts }

theorem attemptFailed_some {s : State} {p q : Position} (h : (s.attemptOver p).chooseFrom (p + 1) = some q) :
    s.attemptFailed p = (s.attemptNext p q).offerProbe q := attemptFrom_some h

/-- Where no unsent PROBE stands, the one offered is the only one (R51). -/
theorem offerProbe_sender {s : State} {q : Position} (none : ∀ e ∈ s.lc.queue, e.inFlight = false → isProbe e.frame = false)
    {e : QueueEntry} (he : e ∈ (s.offerProbe q).lc.queue) (idle : e.inFlight = false) (probe : isProbe e.frame = true) :
    e.frame.sender = q := by
  have placed := offerProbe_cases s q
  by_cases room : s.lc.queue.length < 8
  · rw [((if_pos room).mp placed).2] at he
    obtain rfl | he := mem_enqueue.1 he
    · rfl
    · exact absurd probe (by simp [none e he idle])
  · rw [((if_neg room).mp placed).2] at he
    exact absurd probe (by simp [none e he idle])

theorem offerProbe_stands {s : State} (q : Position) (room : s.lc.queue.length < 8) :
    (s.offerProbe q).jc.probeOwed = false ∧
      ∃ e ∈ (s.offerProbe q).lc.queue, e.inFlight = false ∧ e.frame = s.probeFrame q := by
  obtain ⟨jc, queue⟩ := (if_pos room).mp (offerProbe_cases s q)
  rw [jc, queue]
  exact ⟨rfl, _, mem_enqueue.2 (.inl rfl), rfl, rfl⟩

theorem offerStatus_jc (s : State) : s.offerStatus.jc = s.jc := by
  unfold State.offerStatus
  split
  · exact offer_jc s _
  · rfl

theorem offerStatus_pt (s : State) : s.offerStatus.pt = s.pt := by
  unfold State.offerStatus
  split
  · exact (offer_frame s _).2.1
  · rfl

theorem offerStatus_lc {s : State} (sending : s.sg.running = true) :
    s.offerStatus.lc = (s.lc.offer s.statusFrame).1 := by
  unfold State.offerStatus
  rw [if_pos sending]
  exact offer_lc s _

theorem exec_probeReceived (s : State) (p : Position) (f : ProbeFrame) :
    exec (.probeReceived p f) s = .next (commit .nothing s (s.takeGood (.probe f) (State.probeHeard p))) := rfl

/-- A PROBE with the tentative number fails the attempt, and nothing answers it (R29). -/
theorem probeHeard_fails {s : State} {p : Position} (state : s.jc.state = .probe) (tentative : s.jc.tentative = some p) :
    s.probeHeard p = s.attemptFailed p := by
  have sender : s.senderHeard p true = s.attemptFailed p := if_pos ⟨state, tentative⟩
  have other : (s.attemptFailed p).jc.state ≠ .run := by
    rw [attemptFailed_eq]
    cases h : (s.attemptOver p).chooseFrom (p + 1) with
    | some q =>
      rw [attemptFrom_some h, (offerProbe_kept _ q).join]
      nofun
    | none =>
      rw [attemptFrom_none h]
      nofun
  unfold State.probeHeard
  rw [sender]
  exact if_neg fun h => other h.1

/-- A PROBE with the own number in RUN is answered (R32). -/
theorem probeHeard_own {s : State} {p : Position} (run : s.jc.state = .run) (own : s.isOwn p = true) :
    s.probeHeard p = s.offerStatus := by
  have sender : s.senderHeard p true = s := by
    unfold State.senderHeard
    rw [if_neg (by simp [run]), if_neg (by simp)]
  unfold State.probeHeard
  rw [sender]
  exact if_pos ⟨run, own⟩

end Sys2Proof.Machine

namespace Sys2Proof.Proofs

open Sys2Proof.Machine

/-- Settles O24. -/
theorem ownNumberShowsDuplicate : Obligations.OwnNumberShowsDuplicate := by
  intro p c s number frame kind
  have own : s.isOwn p = true := (isOwn_iff s p).2 number
  have own' : s.heardFrame.isOwn p = true := own
  have plain {b : FrameBody} {body : State → State} (good : b.fault = none)
      (same : body s.heardFrame = s.heardFrame.senderHeard p false) :
      s.takeGood b body = (s.heardFrame.senderHeard p false).setCu
        { (s.heardFrame.senderHeard p false).cu with last := (s.heardFrame.senderHeard p false).cu.last } := by
    rw [takeGood_of_frame frame good, same]
    rfl
  have command (name : CommandName) (f : CommandFields) : ∃ l, s.commandHeard name p f =
      (s.heardFrame.senderHeard p false).setCu { (s.heardFrame.senderHeard p false).cu with last := l } := by
    unfold State.commandHeard
    rw [takeGood_of_frame frame rfl]
    exact takeCommand_own (senderHeard_own own') name f
  obtain ⟨f, rfl, good⟩ | ⟨f, rfl, good⟩ | ⟨f, rfl, good⟩ | ⟨f, rfl⟩ | ⟨f, h⟩ := kind
  · exact ⟨_, rfl, commit_own own (plain good (statusHeard_own own' f))⟩
  · exact ⟨_, rfl, commit_own own (plain good (claimHeard_own own' f))⟩
  · exact ⟨_, rfl, commit_own own (plain good (releaseHeard_own own' f))⟩
  · exact ⟨_, rfl, commit_own own (plain rfl (keyHeard_own own' f))⟩
  · obtain rfl | rfl | rfl | rfl := h
    · exact ⟨_, rfl, commit_own own (command .quiet f).choose_spec⟩
    · exact ⟨_, rfl, commit_own own (command .quietEnd f).choose_spec⟩
    · exact ⟨_, rfl, commit_own own (command .rejoin f).choose_spec⟩
    · exact ⟨_, rfl, commit_own own (command .relearn f).choose_spec⟩

/-- Settles O25. -/
theorem probeFailsAttemptOrIsAnswered : Obligations.ProbeFailsAttemptOrIsAnswered := by
  intro p f s frame
  have run : exec (.probeReceived p f) s = .next (commit .nothing s (s.heardFrame.probeHeard p)) := by
    rw [exec_probeReceived, takeGood_of_frame frame rfl]
  refine ⟨fun state tentative => ⟨_, run, ?_⟩, fun running number => ⟨_, run, ?_⟩⟩
  · rw [probeHeard_fails (s := s.heardFrame) state tentative] at run ⊢
    have free (q : Position) : (s.heardFrame.attemptOver p).numberFree q = true ↔
        s.pt.find q = none ∧ q ∉ s.jc.failed ++ [p] := numberFree_iff _ q
    cases chosen : (s.heardFrame.attemptOver p).chooseFrom (p + 1) with
    | none =>
      rw [attemptFailed_eq, attemptFrom_none chosen] at run ⊢
      simp only [commit_failed, commit_probeWait, commit_records, commit_joinState, commit_tentative]
      refine ⟨rfl, rfl, rfl, ⟨_, run, fun q hq => (by cases hq), fun e he idle probe => ?_⟩, .inr ⟨rfl, rfl, fun q => ?_⟩⟩
      · rw [attemptOver_noProbe (s := s.heardFrame) (p := p) he idle] at probe
        cases probe
      · have taken := (chooseFrom_eq_none _ _).1 chosen q
        by_contra h
        simp only [not_or, not_not] at h
        exact absurd ((free q).2 h) (by simp [taken])
    | some q =>
      obtain ⟨k, -, -, isFree, -⟩ := (chooseFrom_eq_some _ _ _).1 chosen
      obtain ⟨absent, fresh⟩ := (free q).1 isFree
      rw [attemptFailed_some (s := s.heardFrame) chosen] at run ⊢
      have kept := offerProbe_kept (s.heardFrame.attemptNext p q) q
      simp only [commit_failed, commit_probeWait, commit_records, commit_joinState, commit_tentative, commit_attempts]
      rw [kept.join]
      refine ⟨rfl, rfl, kept.records, ⟨_, run, fun x hx room => ?_, fun e he idle probe => ?_⟩,
        .inl ⟨q, rfl, rfl, fresh, absent, satSucc_eq _ _⟩⟩
      · obtain rfl : q = x := by simpa [State.attemptNext] using hx
        exact offerProbe_stands (s := s.heardFrame.attemptNext p q) q (by
          show (markFlying isProbe (dropUnsent isProbe s.lc.queue)).length < 8
          rwa [markFlying_length])
      · have sender := offerProbe_sender (s := s.heardFrame.attemptNext p q) (fun x hx idle =>
          attemptOver_noProbe (s := s.heardFrame) (p := p) hx idle) he idle probe
        rw [sender]
        rfl
  · rw [probeHeard_own (s := s.heardFrame) running ((isOwn_iff s p).2 number)]
    refine ⟨?_, ?_, fun sending idle room => ?_⟩
    · exact offerStatus_jc s.heardFrame
    · exact offerStatus_pt s.heardFrame
    · rw [offerStatus_lc (s := s.heardFrame) sending]
      exact (offer_status_stands (lc := s.heardFrame.lc) idle (.inl room)).1

end Sys2Proof.Proofs

/-! SUPPORT. Station commands (11.2 to 11.5). -/

namespace Sys2Proof.Machine

theorem emptyPeers_cu (s : State) : s.emptyPeers.cu = s.cu := by
  unfold State.emptyPeers
  refine List.foldlRecOn (motive := fun (t : State) => t.cu = s.cu) _ _ rfl fun t ht r _ => ?_
  obtain ⟨-, -, -, -, -, -, -, cu⟩ := removePeer_others t r.pos
  exact cu.trans ht

/-- A frame of a sender that shows neither the own number nor the tentative one means nothing to the Join Controller
(R29, R33). -/
theorem senderHeard_other {s : State} {p : Position} {probe : Bool} (other : s.jc.number ≠ some p)
    (attempt : ¬ (s.jc.state = .probe ∧ s.jc.tentative = some p)) : s.senderHeard p probe = s := by
  unfold State.senderHeard
  rw [if_neg attempt, if_neg (by simp [State.isOwn, other])]

/-- A COMMAND in FRAME of a sender that shows neither the own number nor the tentative one goes to the Command Unit. -/
theorem commandHeard_other {s : State} {p : Position} (name : CommandName) (f : CommandFields)
    (frame : s.lc.receiver = .frame) (other : s.jc.number ≠ some p)
    (attempt : ¬ (s.jc.state = .probe ∧ s.jc.tentative = some p)) :
    s.commandHeard name p f = s.heardFrame.takeCommand name p f false := by
  unfold State.commandHeard
  rw [takeGood_of_frame frame rfl]
  exact congrArg (fun t : State => t.takeCommand name p f false) (senderHeard_other (s := s.heardFrame) other attempt)

/-- A COMMAND's name and the command that brings it. -/
def Brings (c : Instr) (name : CommandName) (p : Position) (f : CommandFields) : Prop :=
  c = .quietCommand p f ∧ name = .quiet ∨ c = .quietEndCommand p f ∧ name = .quietEnd ∨
    c = .rejoinCommand p f ∧ name = .rejoin ∨ c = .relearnCommand p f ∧ name = .relearn

theorem exec_command {c : Instr} {name : CommandName} {p : Position} {f : CommandFields} (h : Brings c name p f) (s : State) :
    exec c s = .next (commit .nothing s (s.commandHeard name p f)) := by
  obtain ⟨rfl, rfl⟩ | ⟨rfl, rfl⟩ | ⟨rfl, rfl⟩ | ⟨rfl, rfl⟩ := h <;> rfl

/-- The part with a command recorded as applied (R180, R182). -/
def State.recorded (s : State) (name : CommandName) (p : Position) (f : CommandFields) : State :=
  s.setCu { s.cu with last := some (lastOf name p f true) }

theorem takeCommand_of_applies {s : State} {name : CommandName} {p : Position} {f : CommandFields} {own : Bool}
    (open_ : s.jc.state ≠ .load ∧ s.jc.state ≠ .unplanned) (h : s.applies name p f own = true) :
    s.takeCommand name p f own = (s.recorded name p f).applyCommand name p f := by
  unfold State.takeCommand
  rw [if_neg (by tauto)]
  dsimp only
  simp only [h, if_true]
  rfl

/-- A command applies at a part with a number and a plan that accepts it from a position that may command (R182). -/
theorem applies_iff (s : State) (name : CommandName) (p : Position) (f : CommandFields) (own : Bool) :
    s.applies name p f own = true ↔ s.jc.number.isSome = true ∧ s.ps.plan.isSome = true ∧ s.acceptsCommands = true ∧
      s.mayCommand p = true ∧ (own = true ∨ s.jc.number ≠ some p) ∧
      (name ≠ .rejoin ∨ f.all = true ∨ s.jc.number = some f.target) := by
  simp [State.applies, and_assoc, or_assoc]

theorem rejoinRequest_of_open {s : State} (h : s.jc.state = .run ∨ s.jc.state = .listen ∨ s.jc.state = .duplicate) :
    s.rejoinRequest = s.enterLeaving .rejoin := by
  unfold State.rejoinRequest
  obtain h | h | h := h <;> rw [h]

/-- RELEARN applied in RUN: the view emptied, 2P of quiet begun (R80, R116, R186). -/
theorem relearn_of_run {s : State} (run : s.jc.state = .run) :
    s.relearn = s.emptyPeers.setCt { s.emptyPeers.ct with relearn := .running (s.now + 2 * s.period) } := by
  obtain ⟨-, now, -, -, ps, -⟩ := emptyPeers_frame s
  have period : s.emptyPeers.timerFor (2 * s.emptyPeers.period) = .running (s.now + 2 * s.period) := by
    simp only [State.timerFor, State.period, State.timing, now, ps]
  rw [← period]
  exact if_pos run

/-- The Command Unit's record of an own COMMAND gone out: none is outstanding (R181). -/
def State.commandLanded (s : State) : State := s.landed.setCu { s.cu with outstanding := none }

theorem commandOut_eq (s : State) (p : Position) (name : CommandName) (f : CommandFields) :
    s.commandOut ⟨p, .command name f⟩ = s.commandLanded.takeCommand name p f true := rfl

theorem exec_commandComplete_of {s : State} {f : LinkFrame} (h : s.flight isCommand = some f) :
    exec .commandComplete s = .next (commit .nothing s (s.commandOut f)) := by
  rw [exec_commandComplete, h]
  rfl

theorem enterLeaving_rejoin_frame (s : State) :
    flights (s.enterLeaving .rejoin).lc.queue = flights s.lc.queue ∧
      (s.enterLeaving .rejoin).cu.outstanding = s.cu.outstanding := by
  obtain ⟨kept, eq⟩ := enterLeaving_rejoin s
  rw [eq]
  exact ⟨kept.link.flights, (congrArg CommandUnit.outstanding kept.cu :)⟩

/-- Taking a COMMAND moves no frame in flight and sets none outstanding (R182). -/
theorem takeCommand_frame (s : State) (name : CommandName) (p : Position) (f : CommandFields) (own : Bool) :
    flights (s.takeCommand name p f own).lc.queue = flights s.lc.queue ∧
      (s.takeCommand name p f own).cu.outstanding = s.cu.outstanding := by
  by_cases open_ : s.jc.state ≠ .load ∧ s.jc.state ≠ .unplanned
  · cases h : s.applies name p f own with
    | false =>
      rw [takeCommand_of_not_applies h, if_neg (by tauto)]
      exact ⟨rfl, rfl⟩
    | true =>
      rw [takeCommand_of_applies open_ h]
      cases name with
      | quiet => exact ⟨rfl, rfl⟩
      | quietEnd => exact ⟨rfl, rfl⟩
      | rejoin =>
        show flights (s.recorded .rejoin p f).rejoinRequest.lc.queue = _ ∧ (s.recorded .rejoin p f).rejoinRequest.cu.outstanding = _
        unfold State.rejoinRequest
        split
        case h_5 =>
          obtain ⟨flown, outstanding⟩ := enterLeaving_rejoin_frame ((s.recorded .rejoin p f).withdraw isProbe)
          exact ⟨flown.trans (LinkCtl.withdraw_kept s.lc isProbe).flights, outstanding⟩
        case h_6 => exact ⟨rfl, rfl⟩
        all_goals exact enterLeaving_rejoin_frame (s.recorded .rejoin p f)
      | relearn =>
        show flights (s.recorded .relearn p f).relearn.lc.queue = _ ∧ (s.recorded .relearn p f).relearn.cu.outstanding = _
        by_cases run : s.jc.state = .run
        · rw [relearn_of_run (s := s.recorded .relearn p f) run]
          obtain ⟨-, -, -, -, -, -, -, lc, -⟩ := emptyPeers_frame (s.recorded .relearn p f)
          exact ⟨congrArg (fun l => flights l.queue) lc, (congrArg CommandUnit.outstanding (emptyPeers_cu (s.recorded .relearn p f)) :)⟩
        · rw [show (s.recorded .relearn p f).relearn = s.recorded .relearn p f from if_neg run]
          exact ⟨rfl, rfl⟩
  · have closed : s.takeCommand name p f own = s := if_pos (by tauto)
    rw [closed]
    exact ⟨rfl, rfl⟩

theorem plan_of_mayCommand {s : State} {p : Position} (h : s.mayCommand p = true) : s.ps.plan.isSome = true := by
  unfold State.mayCommand State.row at h
  cases plan : s.ps.plan with
  | none => simp [plan] at h
  | some _ => rfl

theorem exec_quietSecondExpiry {s : State} {due : Nat} (h : s.cu.quietTimer = .running due) :
    exec .quietSecondExpiry s = .next (commit .nothing s (s.reach due).quietSecond) := by
  have run : exec .quietSecondExpiry s = .next (commit .nothing s (s.onExpiry s.cu.quietTimer State.quietSecond)) := rfl
  rw [run, onExpiry_of_running h]

end Sys2Proof.Machine

namespace Sys2Proof.Proofs

open Sys2Proof.Machine

/-- Settles O47. -/
theorem stationCommandsApply : Obligations.StationCommandsApply := by
  refine ⟨fun me issuer f s number plan frame accepts other state may => ?_, fun issuer f c name s frame other attempt brings => ?_⟩
  · have apart : s.jc.number ≠ some issuer := by simpa [number] using fun h => other h.symm
    have attempt : ¬ (s.jc.state = .probe ∧ s.jc.tentative = some issuer) := fun h => by simp [h.1] at state
    have open_ : s.jc.state ≠ .load ∧ s.jc.state ≠ .unplanned := by
      obtain h | h | h | h := state <;> rw [h] <;> exact ⟨nofun, nofun⟩
    have applied (name : CommandName) (h : name ≠ .rejoin ∨ f.all = true ∨ s.jc.number = some f.target) :
        s.commandHeard name issuer f = (s.heardFrame.recorded name issuer f).applyCommand name issuer f := by
      rw [commandHeard_other name f frame apart attempt]
      exact takeCommand_of_applies open_ ((applies_iff s.heardFrame name issuer f false).2
        ⟨by show s.jc.number.isSome = true; rw [number]; rfl, plan, accepts, may, .inr apart, h⟩)
    refine ⟨⟨_, exec_command (.inl ⟨rfl, rfl⟩) s, ?_⟩, ⟨_, exec_command (.inr (.inl ⟨rfl, rfl⟩)) s, ?_⟩, fun named leaving =>
      ⟨_, exec_command (.inr (.inr (.inl ⟨rfl, rfl⟩))) s, ?_⟩, fun run =>
      ⟨_, exec_command (.inr (.inr (.inr ⟨rfl, rfl⟩))) s, ?_⟩⟩
    · rw [commit_cu, applied .quiet (.inl nofun)]
      exact ⟨rfl, rfl, rfl⟩
    · rw [commit_cu, applied .quietEnd (.inl nofun)]
      exact ⟨rfl, rfl, rfl⟩
    · rw [applied .rejoin (.inr (named.imp id fun h => by rw [h]; exact number))]
      have eq : (s.heardFrame.recorded .rejoin issuer f).applyCommand .rejoin issuer f =
          (s.heardFrame.recorded .rejoin issuer f).enterLeaving .rejoin :=
        rejoinRequest_of_open (by
          obtain h | h | h | h := state
          · exact .inl h
          · exact .inr (.inl h)
          · exact absurd h leaving
          · exact .inr (.inr h))
      rw [eq]
      have l := enterLeaving_leaves (s.heardFrame.recorded .rejoin issuer f) _ rfl rfl rfl rfl rfl rfl rfl rfl (before := s)
        rfl rfl .nothing
      exact ⟨l.state, l.case_, l.number.trans number, l.standby, l.quiet⟩
    · rw [applied .relearn (.inl nofun)]
      have eq := relearn_of_run (s := s.heardFrame.recorded .relearn issuer f) run
      obtain ⟨pt, -, jc, -⟩ := emptyPeers_frame (s.heardFrame.recorded .relearn issuer f)
      rw [commit_records, commit_linkLost, commit_relearn, commit_joinState]
      rw [show (s.heardFrame.recorded .relearn issuer f).applyCommand .relearn issuer f = _ from eq]
      refine ⟨?_, ?_, rfl, ?_⟩
      · exact congrArg PeerTable.records pt
      · exact congrArg PeerTable.linkLost pt
      · exact (congrArg JoinCtl.state jc).trans run
  · have heard := commandHeard_other name f frame other attempt
    refine ⟨fun load unplanned h => ?_, fun h => ⟨_, exec_command brings s, ?_⟩⟩
    · have ignored : s.heardFrame.applies name issuer f false = false := by
        rw [Bool.eq_false_iff, ne_eq, applies_iff]
        rintro ⟨number, plan, accepts, may, -, named⟩
        obtain h | h | h | h | ⟨rfl, all, target⟩ := h
        · exact absurd number (by show ¬ s.jc.number.isSome = true; simp [h])
        · exact absurd plan (by show ¬ s.ps.plan.isSome = true; simp [h])
        · exact absurd (show s.acceptsCommands = true from accepts) (by simp [h])
        · exact absurd (show s.mayCommand issuer = true from may) (by simp [h])
        · obtain h | h | h := named
          · exact h rfl
          · simp [all] at h
          · exact target h
      have eq : s.commandHeard name issuer f =
          s.heardFrame.setCu { s.cu with last := some (lastOf name issuer f false) } := by
        rw [heard, takeCommand_of_not_applies ignored]
        exact if_neg (by rintro (h | h); exacts [load h, unplanned h])
      refine ⟨_, lastOf name issuer f false, exec_command brings s, ?_⟩
      rw [commit_cu, commit_joinState, commit_leaving, commit_relearn, commit_records, eq]
      refine ⟨rfl, ?_, ?_, ?_, rfl, rfl, rfl, rfl⟩ <;> (unfold lastOf; split <;> rfl)
    · have eq : s.commandHeard name issuer f = s.heardFrame := by
        rw [heard]
        exact if_pos h
      rw [commit_cu, commit_joinState, commit_records, eq]
      exact ⟨rfl, rfl, rfl⟩

/-- Settles O48. -/
theorem ownCommandAndQuietSecond : Obligations.OwnCommandAndQuietSecond := by
  refine ⟨fun s p name f flown => ⟨_, exec_commandComplete_of flown, ?_⟩, fun s due q running quiet =>
    ⟨_, exec_quietSecondExpiry running, ?_⟩⟩
  · rw [commit_cu, commit_flights, commandOut_eq]
    obtain ⟨flights, outstanding⟩ := takeCommand_frame s.commandLanded name p f true
    refine ⟨outstanding, flights.trans (flights_landedQueue _), ?_⟩
    rintro rfl run number accepts may
    rw [takeCommand_of_applies (s := s.commandLanded) (by
        show s.jc.state ≠ .load ∧ s.jc.state ≠ .unplanned
        rw [run]; exact ⟨nofun, nofun⟩)
      ((applies_iff s.commandLanded .quiet p f true).2
        ⟨by show s.jc.number.isSome = true; rw [number]; rfl, plan_of_mayCommand may, accepts, may, .inl rfl, .inl nofun⟩)]
    exact ⟨rfl, rfl, rfl⟩
  · have eq : (s.reach due).quietSecond =
        if q.remaining ≤ 1 then (s.reach due).endQuiet else (s.reach due).startQuiet q.issuer (q.remaining - 1) := by
      unfold State.quietSecond
      rw [show (s.reach due).cu.quiet = some q from quiet]
    rw [commit_now, commit_cu, eq]
    refine ⟨?_, fun last => ?_, fun more => ?_⟩
    · split <;> rfl
    · rw [if_pos last]
      exact ⟨rfl, rfl⟩
    · rw [if_neg (by omega)]
      exact ⟨rfl, rfl⟩

end Sys2Proof.Proofs

/-! SUPPORT. The panel's keys: where they are refused, the panel's own, standby and station commands (11.2, 11.7, 12.1 to 12.4). -/

namespace Sys2Proof.Machine

/-! ### Every key at the Panel Interface (R191, R196) -/

/-- The keys that have a meaning outside RUN too (R196). -/
def everywhere : Instr → Bool
  | .wait | .cancel | .clearCounters | .rejoinSelf => true
  | _ => false

/-- A code that names no key. -/
def namesNoKey : Instr → Bool
  | .undefinedKeyCode _ _ => true
  | _ => false

/-- A key is taken at the Panel Interface, in range where it is well formed and names a key, and a key with no meaning
outside RUN is refused there (R191, R196). -/
def KeyMeans (c : Instr) : Prop :=
  ∃ (r : Bool) (body : State → State × PanelOutcome),
    (∀ s, exec c s = .next (commit .nothing s (s.panelKey c r body))) ∧
    r = (c.wellFormed && !namesNoKey c) ∧
    (everywhere c = false → ∀ s : State, s.jc.state ≠ .run → r = true → body s = (s, .denied .notRunning))

theorem inRun_refused {s : State} (body : State → State × PanelOutcome) (h : s.jc.state ≠ .run) :
    State.inRun body s = (s, .denied .notRunning) := if_neg h

theorem issue_refused {s : State} (name : CommandName) (f : CommandFields) (h : s.jc.state ≠ .run) :
    State.issue name f s = (s, .denied .notRunning) := if_pos h

theorem keyMeans {c : Instr} {code : Byte} (h : encodeKey c = some code) : KeyMeans c := by
  have owned (body : State → State × PanelOutcome) (s : State) (closed : s.jc.state ≠ .run) := inRun_refused body closed
  cases c <;> simp only [encodeKey, reduceCtorEq] at h
  case selectMain n => exact ⟨antennaArgOk n, _, fun _ => rfl, by simp [Instr.wellFormed, namesNoKey], fun _ s closed _ => owned _ s closed⟩
  case selectAux n => exact ⟨antennaArgOk n, _, fun _ => rfl, by simp [Instr.wellFormed, namesNoKey], fun _ s closed _ => owned _ s closed⟩
  case selectNext n => exact ⟨antennaArgOk n, _, fun _ => rfl, by simp [Instr.wellFormed, namesNoKey], fun _ s closed _ => owned _ s closed⟩
  case ask n => exact ⟨decide (n ≤ 32), _, fun _ => rfl, by simp [Instr.wellFormed, namesNoKey], fun _ s closed _ => owned _ s closed⟩
  case stackMask m => exact ⟨m != 0, _, fun _ => rfl, by simp [Instr.wellFormed, namesNoKey], fun _ s closed _ => owned _ s closed⟩
  case undefinedKeyCode code bad => exact ⟨false, _, fun _ => rfl, by simp [namesNoKey], fun _ _ _ no => by cases no⟩
  case wait | cancel | clearCounters | rejoinSelf => exact ⟨true, _, fun _ => rfl, rfl, fun no => by cases no⟩
  case quietKey | quietEndKey | relearnKey | rejoinPos => 
    exact ⟨true, _, fun _ => rfl, rfl, fun _ s closed _ => issue_refused _ _ closed⟩
  all_goals exact ⟨true, _, fun _ => rfl, rfl, fun _ s closed _ => owned _ s closed⟩

theorem panelKey_load {s : State} (c : Instr) (r : Bool) (body : State → State × PanelOutcome) (load : s.jc.state = .load) :
    s.panelKey c r body = s.answerKey c .wait := if_pos load

theorem panelKey_unknown {s : State} (c : Instr) (body : State → State × PanelOutcome) (loaded : s.jc.state ≠ .load) :
    s.panelKey c false body = s.setPi { s.pi with answer := some ⟨.nothing, .unknown⟩ } := (if_neg loaded).trans (if_neg nofun)

theorem panelKey_taken {s : State} (c : Instr) (body : State → State × PanelOutcome) (loaded : s.jc.state ≠ .load) :
    s.panelKey c true body = (body s).1.answerRequest c (body s).2 := (if_neg loaded).trans (if_pos rfl)

theorem exec_wait (s : State) : exec .wait s = .next (commit .nothing s (s.panelKey .wait true State.waitKey)) := rfl

theorem exec_cancel (s : State) : exec .cancel s = .next (commit .nothing s (s.panelKey .cancel true State.cancelKey)) := rfl

theorem exec_clearCounters (s : State) :
    exec .clearCounters s = .next (commit .nothing s (s.panelKey .clearCounters true State.clearKey)) := rfl

/-! ### What a GIVE leaves of the Hand-over Unit (R140) -/

/-- The Hand-over Unit's record but for an answer that may have gone is as it was. -/
def AnswerMoves (s t : State) : Prop :=
  t.hu = { s.hu with answer := t.hu.answer } ∧ (t.hu.answer = s.hu.answer ∨ t.hu.answer = none)

theorem AnswerMoves.of_hu {s t : State} (h : t.hu = s.hu) : AnswerMoves s t := by
  unfold AnswerMoves
  rw [h]
  exact ⟨rfl, .inl rfl⟩

theorem AnswerMoves.trans {s t u : State} (h : AnswerMoves s t) (k : AnswerMoves t u) : AnswerMoves s u := by
  obtain ⟨rest, answer⟩ := h
  obtain ⟨rest', answer'⟩ := k
  refine ⟨by rw [rest', rest], answer'.elim (fun e => ?_) .inr⟩
  rw [e]
  exact answer

theorem givingDone_answerMoves (s : State) (p : Position) (l : List Antenna) : AnswerMoves s (s.givingDone p l) := by
  unfold State.givingDone
  repeat' split
  · exact ⟨rfl, .inr rfl⟩
  · exact .of_hu rfl
  · exact .of_hu rfl

theorem handOversLapse_answerMoves (s : State) (h : HeldPart) : AnswerMoves s (s.handOversLapse h) := by
  unfold State.handOversLapse
  repeat' split
  all_goals first
    | exact .of_hu rfl
    | exact givingDone_answerMoves _ _ _
    | exact (givingDone_answerMoves _ _ _).trans (givingDone_answerMoves _ _ _)

theorem freeHold_answerMoves (s : State) (i : Slot) (r : ReleaseReason) (y : Option Position) :
    AnswerMoves s (s.freeHold i r y) := by
  unfold State.freeHold
  split
  · exact .of_hu rfl
  next h _ => exact AnswerMoves.trans (t := s.setSlot i _) (.of_hu rfl) (handOversLapse_answerMoves _ h)

theorem giveMember_answerMoves (s : State) (i : Slot) (a : Antenna) (y : Position) : AnswerMoves s (s.giveMember i a y) := by
  unfold State.giveMember
  split
  · exact .of_hu rfl
  · dsimp only
    repeat' split
    · exact givingDone_answerMoves _ _ _
    · exact freeHold_answerMoves _ _ _ _
    · exact .of_hu rfl
    · exact .of_hu rfl

theorem giveAntenna_answerMoves (s : State) (a : Antenna) (y : Position) : AnswerMoves s (s.giveAntenna a y) := by
  unfold State.giveAntenna
  repeat' split
  · exact freeHold_answerMoves _ _ _ _
  · exact giveMember_answerMoves _ _ _ _
  · exact givingDone_answerMoves _ _ _

/-- The part as a GIVE is taken: the latch empty, the answer GIVING (R140). -/
def State.giveTaken (s : State) (l : Latch) : State :=
  s.setHu { s.hu with latch := none, answer := some ⟨l.asker, l.antenna, .giving⟩, keepTimer := .stopped }

theorem give_eq (s : State) (l : Latch) : s.give l = (s.giveTaken l).giveAntenna l.antenna l.asker := rfl

theorem handOversLapse_of_none {s : State} {h : HeldPart} (shrink : h.shrink = none) (give : h.give = none) :
    s.handOversLapse h = s := by
  unfold State.handOversLapse
  rw [shrink, give]

theorem freeHold_hu {s : State} {i : Slot} {h : HeldPart} (held : (s.slot i).held = some h) (shrink : h.shrink = none)
    (give : h.give = none) (r : ReleaseReason) (y : Option Position) : (s.freeHold i r y).hu = s.hu := by
  unfold State.freeHold
  rw [held]
  dsimp only
  rw [handOversLapse_of_none shrink give]
  rfl

/-- A GIVE of an antenna HELD in a slot frees that hold for the asker (R140). -/
theorem give_of_hold {s : State} (l : Latch) {i : Slot} {h : HeldPart}
    (found : s.heldSlot (fun x => x.antenna == l.antenna) = some i) (held : (s.slot i).held = some h) :
    ((s.give l).slot i).held = none ∧
      ((s.give l).slot i).freeing = (s.slot i).freeing ++
        [⟨h.antenna, h.mask, h.drive, h.tenure, h.tenureLink, .yielded, some l.asker, false⟩] ∧
      ((s.give l).slot i).cand = (s.slot i).cand ∧
      (h.shrink = none → h.give = none → (s.give l).hu.answer = some ⟨l.asker, l.antenna, .giving⟩) ∧
      ∀ j, j ≠ i → (s.give l).slot j = s.slot j := by
  have free : s.give l = (s.giveTaken l).freeHold i .yielded (some l.asker) := by
    rw [give_eq]
    unfold State.giveAntenna
    rw [show (s.giveTaken l).heldSlot (fun x => x.antenna == l.antenna) = some i from found]
  have same (j : Slot) : (s.giveTaken l).slot j = s.slot j := rfl
  rw [free, freeHold_slot_self, same, held]
  refine ⟨rfl, rfl, rfl, fun shrink give => ?_, fun j hj => ?_⟩
  · rw [freeHold_hu (s := s.giveTaken l) held shrink give]
    rfl
  · rw [freeHold_slot_ne _ _ _ hj, same]

/-- A GIVE empties the latch and stops the KEEP life (R140, R142). -/
theorem give_hu (s : State) (l : Latch) : (s.give l).hu.latch = none ∧ (s.give l).hu.keepTimer = .stopped := by
  obtain ⟨moves, -⟩ := giveAntenna_answerMoves (s.giveTaken l) l.antenna l.asker
  rw [give_eq, moves]
  exact ⟨rfl, rfl⟩

/-! ### Standby entered with an ask latched (R143, R188) -/

/-- What an entry to standby does with a latch: a part with auto-give gives at once, one without leaves all as it was. -/
def StandbyGiven (s u : State) (l : Latch) : Prop :=
  ((∃ row, s.ownRow = some row ∧ row.autoGive = true) →
    u.hu.latch = none ∧ u.hu.keepTimer = .stopped ∧
    (∀ i h, s.heldSlot (fun x => x.antenna == l.antenna) = some i → (s.slot i).held = some h →
      (u.slot i).held = none ∧ (u.slot i).freeing = (s.slot i).freeing ++
        [⟨h.antenna, h.mask, h.drive, h.tenure, h.tenureLink, .yielded, some l.asker, false⟩] ∧
      (h.shrink = none → h.give = none → u.hu.answer = some ⟨l.asker, l.antenna, .giving⟩) ∧
      ∀ j, j ≠ i → u.slot j = s.slot j)) ∧
  ((∀ row, s.ownRow = some row → row.autoGive = false) → u.hu = s.hu ∧ u.ct = s.ct)

theorem StandbyGiven.congr {s x u v : State} {l : Latch} (h : StandbyGiven x u l) (hu : x.hu = s.hu) (ct : x.ct = s.ct)
    (ps : x.ps = s.ps) (jc : x.jc = s.jc) (hu' : v.hu = u.hu) (ct' : v.ct = u.ct) : StandbyGiven s v l := by
  have row : x.ownRow = s.ownRow := by
    have rows : x.row = s.row := by funext p; simp only [State.row, ps]
    simp only [State.ownRow, rows, jc]
  have slot : x.slot = s.slot := by funext i; exact slot_congr (congrArg _ ct) i
  have slot' : v.slot = u.slot := by funext i; exact slot_congr (congrArg _ ct') i
  unfold StandbyGiven State.heldSlot at h ⊢
  rwa [row, slot, hu, ct, ← hu', ← ct', ← slot'] at h

theorem autoGives_iff (s : State) : s.autoGives = true ↔ ∃ row, s.ownRow = some row ∧ row.autoGive = true := by
  unfold State.autoGives
  cases s.ownRow with
  | none => simp
  | some row => simp

theorem enterStandby_given {s : State} {l : Latch} (latched : s.hu.latch = some l) : StandbyGiven s s.enterStandby l := by
  have entered : s.enterStandby =
      if s.autoGives then (s.setCu { s.cu with standby := true, deferred := false }).give l
      else s.setCu { s.cu with standby := true, deferred := false } := by
    unfold State.enterStandby State.autoGive
    rw [show (s.setCu { s.cu with standby := true, deferred := false }).hu.latch = some l from latched]
    rfl
  refine ⟨fun gives => ?_, fun keeps => ?_⟩
  · rw [entered, if_pos ((autoGives_iff s).2 gives)]
    obtain ⟨latch, timer⟩ := give_hu (s.setCu { s.cu with standby := true, deferred := false }) l
    refine ⟨latch, timer, fun i h found held => ?_⟩
    obtain ⟨gone, freeing, -, answer, others⟩ :=
      give_of_hold (s := s.setCu { s.cu with standby := true, deferred := false }) l found held
    exact ⟨gone, freeing, answer, others⟩
  · rw [entered, if_neg fun gives => ?_]
    · exact ⟨rfl, rfl⟩
    · obtain ⟨row, own, auto⟩ := (autoGives_iff s).1 gives
      rw [keeps row own] at auto
      cases auto

/-- A report of RECEIVE takes a deferred entry as the key would (R172, R188). -/
theorem enterReceive_given {s : State} {l : Latch} (deferred : s.cu.deferred = true) (latched : s.hu.latch = some l) :
    StandbyGiven s s.enterReceive l := by
  have eq : s.enterReceive = (s.setKs { s.ks with state := .receive, lockout := none }).enterStandby :=
    if_pos (by simp [deferred])
  rw [eq]
  exact (enterStandby_given (s := s.setKs { s.ks with state := .receive, lockout := none }) latched).congr rfl rfl rfl rfl
    rfl rfl

theorem exec_standby {s : State} (run : s.jc.state = .run) :
    exec .standby s = .next (commit .nothing s (s.standbyKey.1.answerRequest .standby s.standbyKey.2)) := by
  show Host.Outcome.next (commit .nothing s (s.panelKey .standby true (State.inRun State.standbyKey))) = _
  rw [panelKey_run _ _ run]

theorem standbyKey_enters {s : State} (out : s.cu.standby = false) (now : s.cu.deferred = false)
    (h : s.ks.state = .receive ∨ s.ks.state = .keyWait ∨ s.ks.state = .lockout) :
    s.standbyKey = (s.enterStandby, .accepted) := by
  refine (if_neg (by simp [out])).trans ((if_neg (by simp [now])).trans ?_)
  obtain h | h | h := h <;> rw [h]

theorem standbyKey_defers {s : State} (out : s.cu.standby = false) (now : s.cu.deferred = false)
    (h : s.ks.state = .announce ∨ s.ks.state = .ampOn ∨ s.ks.state = .transmit ∨ s.ks.state = .tail) :
    s.standbyKey = (s.setCu { s.cu with deferred := true }, .accepted) := by
  refine (if_neg (by simp [out])).trans ((if_neg (by simp [now])).trans ?_)
  obtain h | h | h | h := h <;> rw [h]

/-! ### Station commands issued (R181) -/

/-- A station command key, with the command and the fields it sends (R181). -/
def Issues (c : Instr) (name : CommandName) (f : CommandFields) : Prop :=
  c = .quietKey ∧ name = .quiet ∧ f = ⟨true, 0, 60⟩ ∨ c = .quietEndKey ∧ name = .quietEnd ∧ f = ⟨true, 0, 0⟩ ∨
    c = .relearnKey ∧ name = .relearn ∧ f = ⟨true, 0, 0⟩ ∨
    (∃ p, c = .rejoinPos (some p) ∧ name = .rejoin ∧ f = ⟨false, p, 0⟩) ∨
    c = .rejoinPos none ∧ name = .rejoin ∧ f = ⟨true, 0, 0⟩

theorem exec_issue {c : Instr} {name : CommandName} {f : CommandFields} (h : Issues c name f) {s : State}
    (run : s.jc.state = .run) :
    exec c s = .next (commit .nothing s ((State.issue name f s).1.answerRequest c (State.issue name f s).2)) := by
  have taken := panelKey_taken (s := s) c (State.issue name f) (by rw [run]; nofun)
  rw [← taken]
  obtain ⟨rfl, rfl, rfl⟩ | ⟨rfl, rfl, rfl⟩ | ⟨rfl, rfl, rfl⟩ | ⟨p, rfl, rfl, rfl⟩ | ⟨rfl, rfl, rfl⟩ := h <;> rfl

theorem offeringBlock_issue {c : Instr} {name : CommandName} {f : CommandFields} (h : Issues c name f) :
    offeringBlock c = .cu := by
  obtain ⟨rfl, -⟩ | ⟨rfl, -⟩ | ⟨rfl, -⟩ | ⟨p, rfl, -⟩ | ⟨rfl, -⟩ := h <;> rfl

theorem issue_notPermitted {s : State} (name : CommandName) (f : CommandFields) (run : s.jc.state = .run)
    (h : ∀ r, s.ownRow = some r → r.mayCommand = false) : State.issue name f s = (s, .denied .notPermitted) := by
  refine (if_neg (by simp [run])).trans (if_pos ?_)
  cases own : s.ownRow with
  | none => rfl
  | some r => exact h r own

/-- A key that the own row permits goes to the queue, unless a command is outstanding (R181). -/
theorem issue_permitted {s : State} (name : CommandName) (f : CommandFields) (run : s.jc.state = .run) {r : PositionRow}
    (own : s.ownRow = some r) (may : r.mayCommand = true) :
    State.issue name f s =
      if s.cu.outstanding.isSome then (s, .denied .busy)
      else if (s.offer ⟨s.self, .command name f⟩).2 = .refused then ((s.offer ⟨s.self, .command name f⟩).1, .denied .queue)
      else ((s.offer ⟨s.self, .command name f⟩).1.setCu { (s.offer ⟨s.self, .command name f⟩).1.cu with
        outstanding := some name }, .accepted) := by
  refine (if_neg (by simp [run])).trans (if_neg ?_)
  rw [own]
  simp [may]

theorem answerRequest_lc (s : State) (c : Instr) (o : PanelOutcome) : (s.answerRequest c o).lc = s.lc :=
  (answerRequest_frame s c o).2.1

theorem answerRequest_cu (s : State) (c : Instr) (o : PanelOutcome) : (s.answerRequest c o).cu = s.cu := by
  obtain ⟨-, -, -, -, -, cu, -⟩ := answerRequest_frame s c o
  exact cu

theorem command_noKin (lc : LinkCtl) (p : Position) (name : CommandName) (f : CommandFields) :
    lc.NoKin ⟨p, .command name f⟩ := .inl rfl

end Sys2Proof.Machine

namespace Sys2Proof.Proofs

open Sys2Proof.Machine

/-- Settles O49. -/
theorem panelKeysWaitOrAct : Obligations.PanelKeysWaitOrAct := by
  refine ⟨fun c code s load encoded => ?_, fun s loaded => ⟨⟨_, exec_wait s, ?_⟩, ⟨_, exec_cancel s, ?_⟩, ⟨_, exec_clearCounters s, ?_⟩,
    fun c code encoded formed away h1 h2 h3 h4 h5 => ?_, fun c code encoded h => ?_⟩⟩
  · obtain ⟨r, body, run, -⟩ := keyMeans encoded
    rw [run, panelKey_load c r body load]
    unfold State.answerKey
    simp only [encoded, Option.getD_some]
  · rw [commit_waitMode, panelKey_taken _ _ loaded]
    rfl
  · rw [panelKey_taken _ _ loaded]
    exact ⟨rfl, rfl, rfl, rfl, rfl, rfl⟩
  · rw [commit_lineErrors, commit_fu, panelKey_taken _ _ loaded]
    exact ⟨rfl, rfl, rfl, rfl, rfl, rfl, rfl, rfl, rfl, rfl⟩
  · obtain ⟨r, body, run, range, refused⟩ := keyMeans encoded
    have named : namesNoKey c = false := by cases c <;> first | rfl | exact absurd rfl (h5 _ _)
    have apart : everywhere c = false := by cases c <;> simp_all [everywhere]
    have open_ : r = true := by rw [range, formed, named]; rfl
    rw [run, open_, panelKey_taken c body loaded, refused apart s away open_]
    rfl
  · obtain ⟨r, body, run, range, -⟩ := keyMeans encoded
    have shut : r = false := by
      obtain formed | ⟨x, e, rfl⟩ := h
      · rw [range, formed]; rfl
      · rw [range]; exact Bool.and_false _
    rw [run, shut, panelKey_unknown c body loaded]

/-- Settles O50. -/
theorem standbyKeyEntersDefersExits : Obligations.StandbyKeyEntersDefersExits := by
  refine ⟨fun s run => ⟨_, exec_standby run, ?_⟩, fun c s l latched out h => ?_⟩
  · obtain ⟨-, -, -, -, sg, cu, -⟩ := answerRequest_frame s.standbyKey.1 .standby s.standbyKey.2
    rw [commit_cu, commit_obligation, sg, cu]
    have cases_ : s.standbyKey.1.cu.quiet = s.cu.quiet ∧ s.standbyKey.1.cu.outstanding = s.cu.outstanding := by
      unfold State.standbyKey
      have entered := (enterStandby_fields s).2.1
      repeat' split
      all_goals first
        | exact ⟨rfl, rfl⟩
        | (rw [show (s.enterStandby, PanelOutcome.accepted).1.cu = _ from entered]; exact ⟨rfl, rfl⟩)
    refine ⟨fun on => ?_, fun out deferred => ?_, fun out now h => ?_, fun out now h => ?_, cases_⟩
    · rw [show s.standbyKey = _ from if_pos on]
      exact ⟨rfl, rfl⟩
    · rw [show s.standbyKey = _ from (if_neg (by simp [out])).trans (if_pos deferred)]
      exact ⟨out, rfl⟩
    · rw [standbyKey_enters out now h, (enterStandby_fields s).2.1]
      exact ⟨rfl, rfl⟩
    · rw [standbyKey_defers out now h]
      exact ⟨out, rfl⟩
  · have result (u : State) (run : exec c s = .next (commit .nothing s u)) (standby : u.cu.standby = true)
        (deferred : u.cu.deferred = false) (given : StandbyGiven s u l) :
        ∃ u, exec c s = .next (commit .nothing s u) ∧ u.cu.standby = true ∧ u.cu.deferred = false ∧ StandbyGiven s u l :=
      ⟨u, run, standby, deferred, given⟩
    obtain ⟨rfl, run, now, state⟩ | ⟨rfl, deferred, ptt, state⟩ | ⟨rfl, deferred, up, tail, running⟩ := h
    · have eq := standbyKey_enters out now state
      obtain ⟨ct, -, hu, -, -, cu, -⟩ := answerRequest_frame s.standbyKey.1 .standby s.standbyKey.2
      rw [eq] at ct hu cu
      refine result _ (exec_standby run) ?_ ?_ ?_
      · rw [eq, cu, (enterStandby_fields s).2.1]
      · rw [eq, cu, (enterStandby_fields s).2.1]
      · rw [eq]
        exact (enterStandby_given latched).congr rfl rfl rfl rfl hu ct
    · obtain ⟨-, standby, done, -⟩ := enterReceive_fields (s.setKs { s.ks with ptt := false })
      have given := (enterReceive_given (s := s.setKs { s.ks with ptt := false }) deferred latched).congr (s := s) rfl rfl rfl
        rfl rfl rfl
      have standby' : (s.setKs { s.ks with ptt := false }).enterReceive.cu.standby = true := by
        rw [standby]
        simp [deferred]
      refine result s.release rfl ?_ ?_ ?_
      all_goals obtain state | state | state := state
      all_goals first
        | rw [release_of_announce ptt state]
        | rw [release_of_waiting ptt (.inl state)]
        | rw [release_of_waiting ptt (.inr state)]
      all_goals first
        | exact standby'
        | exact done
        | exact given
    · obtain ⟨due, timer⟩ : ∃ due, s.ks.timer = .running due := by
        cases h : s.ks.timer with
        | running due => exact ⟨due, rfl⟩
        | _ => rw [h] at running; cases running
      have ended : (s.reach due).tailOver.hu = s.hu ∧ (s.reach due).tailOver.ct = s.ct ∧ (s.reach due).tailOver.ps = s.ps ∧
          (s.reach due).tailOver.jc = s.jc ∧ (s.reach due).tailOver.cu = s.cu := by
        unfold State.tailOver
        rw [countRefusal_eq]
        split <;> exact ⟨rfl, rfl, rfl, rfl, rfl⟩
      obtain ⟨hu, ct, ps, jc, cu⟩ := ended
      obtain ⟨-, standby, done, -⟩ := enterReceive_fields (s.reach due).tailOver
      refine result (s.reach due).tailEnds ?_ ?_ ?_ ?_
      · rw [exec_tailExpiry, if_pos tail, onExpiry_of_running timer]
      · rw [tailEnds_of_released (s := s.reach due) up, standby, cu]
        simp [deferred]
      · rw [tailEnds_of_released (s := s.reach due) up, done]
      · rw [tailEnds_of_released (s := s.reach due) up]
        exact (enterReceive_given (by rw [cu]; exact deferred) (by rw [hu]; exact latched)).congr hu ct ps jc rfl rfl

/-- Settles O51. -/
theorem stationKeysOfferCommand : Obligations.StationKeysOfferCommand := by
  intro c name f code s key encoded run
  refine ⟨_, exec_issue key run, fun h => ?_, fun r own may busy => ?_, fun r own may free room => ?_,
    fun r own may free full none => ?_⟩
  · rw [issue_notPermitted name f run h, answerRequest_pi encoded (o := .denied .notPermitted) nofun]
    obtain ⟨-, lc, -, -, -, cu, -⟩ := answerRequest_frame s c (.denied .notPermitted)
    exact ⟨rfl, lc, cu⟩
  · rw [issue_permitted name f run own may, if_pos busy, answerRequest_pi encoded (o := .denied .busy) nofun]
    obtain ⟨-, lc, -, -, -, cu, -⟩ := answerRequest_frame s c (.denied .busy)
    exact ⟨rfl, lc, cu⟩
  · have offered := offer_enters (command_noKin s.lc s.self name f) room
    rw [issue_permitted name f run own may, if_neg (by simp [free]), offered, if_neg nofun,
      answerRequest_pi encoded (o := .accepted) nofun]
    rw [answerRequest_lc, answerRequest_cu]
    exact ⟨rfl, rfl, ⟨⟨s.self, .command name f⟩, false, false⟩, mem_enqueue.2 (.inl rfl), rfl, rfl⟩
  · have offered := offer_refused (command_noKin s.lc s.self name f) full (.inr (by simp [none]))
    rw [issue_permitted name f run own may, if_neg (by simp [free]), offered, if_pos rfl, answerRequest_queue,
      offeringBlock_issue key]
    exact ⟨rfl, rfl, rfl⟩

end Sys2Proof.Proofs

/-! SUPPORT. Asks, answers and the latch (Chapter 8). -/

namespace Sys2Proof.Machine

/-! ### What the ask and the latch rest on (R136, R139) -/

theorem mem_allSlots (i : Slot) : i ∈ allSlots := by cases i <;> decide

theorem holds_iff (s : State) (n : Antenna) :
    s.holds n = true ↔ ∃ i h, (s.slot i).held = some h ∧ n ∈ s.uses h.antenna h.mask := by
  unfold State.holds
  rw [List.any_eq_true]
  constructor
  · rintro ⟨i, -, h⟩
    split at h
    next x hx => exact ⟨i, x, hx, List.contains_iff_mem.1 h⟩
    next => cases h
  · rintro ⟨i, h, held, mem⟩
    refine ⟨i, mem_allSlots i, ?_⟩
    rw [held]
    exact List.contains_iff_mem.2 mem

theorem peerHolding_iff (s : State) (p : Position) (n : Antenna) :
    s.peerHolding p n = true ↔ ∃ r, s.pt.find p = some r ∧ s.peerHolds r n = true := by
  unfold State.peerHolding
  cases s.pt.find p with
  | none => simp
  | some r => simp

theorem claimStands_iff (s : State) (n : Antenna) :
    s.claimStands n = true ↔
      (∃ e ∈ s.ct.waitList, e.antenna = n) ∨ ∃ i x, (s.slot i).cand = some x ∧ x.antenna = n := by
  unfold State.claimStands State.waitEntry
  rw [Bool.or_eq_true, List.find?_isSome, List.any_eq_true]
  refine or_congr (by simp) ⟨?_, ?_⟩
  · rintro ⟨i, -, h⟩
    split at h
    next x hx => exact ⟨i, x, hx, by simpa using h⟩
    next => cases h
  · rintro ⟨i, x, hx, rfl⟩
    refine ⟨i, mem_allSlots i, ?_⟩
    rw [hx]
    simp

section
variable {s t : State} (ct : t.ct = s.ct) (ps : t.ps = s.ps)
include ct ps

theorem holds_congr (n : Antenna) : t.holds n = s.holds n := by
  simp only [State.holds, State.slot, State.uses, State.membersOf, State.groupOf, ct, ps]

end

theorem peerHolding_congr {s t : State} (ps : t.ps = s.ps) (records : t.pt.records = s.pt.records) (p : Position)
    (n : Antenna) : t.peerHolding p n = s.peerHolding p n := by
  simp only [State.peerHolding, PeerTable.find, State.peerHolds, State.entryHolds, State.uses, State.membersOf,
    State.groupOf, ps, records]

theorem claimStands_congr {s t : State} (ct : t.ct = s.ct) (n : Antenna) : t.claimStands n = s.claimStands n := by
  simp only [State.claimStands, State.waitEntry, State.slot, ct]

/-! ### The Hand-over Unit's last word on ask and latch (R136, R139) -/

/-- The ask as the Hand-over Unit leaves it: a standing one whose grounds have gone is cleared (R136). -/
def State.askLeft (s : State) : OutAsk → OutAsk
  | .standing target n kind since k =>
    if s.holds n || !s.peerHolding target n || !s.claimStands n then .none else .standing target n kind since k
  | x => x

theorem askLeft_congr {s t : State} (ct : t.ct = s.ct) (ps : t.ps = s.ps) (records : t.pt.records = s.pt.records) :
    t.askLeft = s.askLeft := by
  funext x
  cases x with
  | standing target n kind since k =>
    simp only [State.askLeft, holds_congr ct ps, peerHolding_congr ps records, claimStands_congr ct]
  | none => rfl
  | choosing => rfl

/-- The part with its ask settled, before its latch is looked at. -/
def State.askSettled (s : State) : State := s.setHu { s.hu with ask := s.askLeft s.hu.ask }

/-- A latch whose antenna the part does not hold is emptied. -/
def State.latchSettled (s : State) : State :=
  match s.hu.latch with
  | some l => if s.holds l.antenna then s else s.setHu { s.hu with latch := none }
  | none => s

theorem huReact_eq (s : State) : s.huReact = s.askSettled.latchSettled := by
  have self (x : OutAsk) (h : s.hu.ask = x) : s = s.setHu { s.hu with ask := x } := by
    subst h
    rfl
  have ask : (match s.hu.ask with
      | .standing target n _ _ _ =>
        if s.holds n || !s.peerHolding target n || !s.claimStands n then s.setHu { s.hu with ask := .none } else s
      | _ => s) = s.askSettled := by
    unfold State.askSettled State.askLeft
    cases h : s.hu.ask with
    | standing target n kind since k =>
      dsimp only
      split
      · rfl
      · exact self _ h
    | none => exact self _ h
    | choosing since k => exact self _ h
  exact (congrArg State.latchSettled ask :)

theorem huReact_hu (s : State) :
    s.huReact.hu.ask = s.askLeft s.hu.ask ∧ s.huReact.hu.latch = s.hu.latch.filter (fun l => s.holds l.antenna) := by
  rw [huReact_eq]
  unfold State.latchSettled
  cases h : s.hu.latch with
  | none =>
    rw [show s.askSettled.hu.latch = none from h]
    exact ⟨rfl, h⟩
  | some l =>
    rw [show s.askSettled.hu.latch = some l from h, Option.filter_some]
    dsimp only
    rw [holds_congr (s := s) (t := s.askSettled) rfl rfl]
    cases s.holds l.antenna with
    | true => exact ⟨rfl, h⟩
    | false => exact ⟨rfl, rfl⟩

theorem offerStatus_hu (s : State) : s.offerStatus.hu = s.hu := by
  unfold State.offerStatus
  split
  · exact offer_hu s _
  · rfl

theorem offerKey_hu (s : State) (f : LinkFrame) : (s.offerKey f).1.hu = s.hu := offer_hu s f

theorem offerKeyOff_hu (s : State) : s.offerKeyOff.hu = s.hu := by
  obtain ⟨-, -, -, -, -, -, -, -, -, -, hu, -⟩ := offerKeyOff_fields s
  exact hu

theorem judgePress_hu (s : State) : s.judgePress.hu = s.hu := by
  have lock (t : State) (r : Option LockReason) : (t.lockOut r).hu = t.hu := by rw [lockOut_eq]; rfl
  unfold State.judgePress
  split
  · split
    · rfl
    · unfold State.announceKey
      dsimp only
      split
      · rw [lock]; exact offerKey_hu _ _
      · exact offerKey_hu _ _
  · split
    · rfl
    · exact lock _ _
    · exact lock _ _

theorem sequencerTold_hu (s : State) : s.sequencerTold.hu = s.hu := by
  unfold State.sequencerTold
  split
  · exact judgePress_hu s
  · split
    · rfl
    · exact offerKeyOff_hu _
  · split
    · rfl
    · exact offerKeyOff_hu _
  · rfl

theorem evaluate_hu (s : State) : s.evaluate.hu = s.hu := rfl

theorem jcReact_hu (s : State) : s.jcReact.hu = s.hu := by
  unfold State.jcReact State.offerProbe
  repeat' split
  all_goals first
    | rfl
    | exact offer_hu s _

theorem piReact_hu (before s : State) : (State.piReact before s).hu = s.hu := by
  unfold State.piReact
  repeat' split
  all_goals rfl

theorem sgReact_hu (before s : State) : (State.sgReact before s).hu = s.hu := by
  unfold State.sgReact
  split
  · rfl
  · exact offerStatus_hu s

theorem commit_hu (heard : KeyHeard) (before s : State) :
    (commit heard before s).hu = (reactSettled heard before s).huReact.hu := by
  have judged : (reactJudged heard before s).hu = (reactSettled heard before s).huReact.hu := by
    unfold reactJudged State.interlockTurn
    rw [sequencerTold_hu, evaluate_hu]
    exact jcReact_hu _
  rw [commit_eq, ← judged]
  exact (piReact_hu before _).trans (sgReact_hu before _)

/-- The ask and the latch after every event: cleared where what they rest on has gone, and as they were else. -/
theorem commit_handOver (heard : KeyHeard) (before s : State) :
    (commit heard before s).hu.ask = (commit heard before s).askLeft s.hu.ask ∧
      (commit heard before s).hu.latch = s.hu.latch.filter (fun l => (commit heard before s).holds l.antenna) := by
  have ct := commit_ct_settled heard before s
  have start := (reactStart_same heard before s).mono (Y := [.marks, .liveSeen, .rd]) (by decide)
  have settled := start.trans ((reactSettled_same heard before s).mono (by decide))
  have ask : (reactSettled heard before s).hu.ask = s.hu.ask := settled .ask (by decide)
  have latch : (reactSettled heard before s).hu.latch = s.hu.latch := settled .latch (by decide)
  have ps : (reactSettled heard before s).ps = s.ps := settled .ps (by decide)
  have records : (reactSettled heard before s).pt.records = s.pt.records := settled .records (by decide)
  have ps' : (commit heard before s).ps = (reactSettled heard before s).ps := (commit_ps ..).trans ps.symm
  have records' : (commit heard before s).pt.records = (reactSettled heard before s).pt.records :=
    (commit_records ..).trans records.symm
  obtain ⟨asks, latches⟩ := huReact_hu (reactSettled heard before s)
  have held : (commit heard before s).holds = (reactSettled heard before s).holds := funext (holds_congr ct ps')
  rw [commit_hu, asks, latches, ask, latch, askLeft_congr ct ps' records', held]
  exact ⟨rfl, rfl⟩

/-- Every command's state is what the reactions leave of some state. -/
theorem exec_commit {c : Instr} {s t : State} (h : exec c s = .next t) : ∃ heard before u, t = commit heard before u := by
  by_cases hc : c = .powerOnReset
  · subst hc
    exact ⟨_, _, _, next_inj (h.symm.trans (exec_powerOnReset s))⟩
  · obtain ⟨heard, u, eq, -⟩ := exec_cases h hc
    exact ⟨_, _, _, eq⟩

/-- A standing ask that is left has its grounds (R136). -/
theorem askLeft_standing {s : State} {x : OutAsk} {target : Position} {n since k : Nat} {kind : AskKind}
    (h : s.askLeft x = .standing target n kind since k) :
    x = .standing target n kind since k ∧ s.holds n = false ∧ s.peerHolding target n = true ∧ s.claimStands n = true := by
  unfold State.askLeft at h
  split at h
  · split at h
    · cases h
    next grounds =>
      simp only [Bool.or_eq_true, Bool.not_eq_true', not_or, Bool.not_eq_true, Bool.not_eq_false] at grounds
      cases h
      exact ⟨rfl, grounds.1.1, grounds.1.2, grounds.2⟩
  next other => 
    subst h
    exact absurd rfl (other _ _ _ _ _)

/-! ### Asks made (R133, R134) -/

theorem exec_ask {n : Nat} {s : State} (run : s.jc.state = .run) (high : n ≤ 32) :
    exec (.ask n) s = .next (commit .nothing s ((State.askKey n s).1.answerRequest (.ask n) (State.askKey n s).2)) := by
  have range : decide (n ≤ 32) = true := by simpa using high
  show Host.Outcome.next (commit .nothing s (s.panelKey (.ask n) (decide (n ≤ 32)) (State.inRun (State.askKey n)))) = _
  rw [range, panelKey_run _ _ run]

theorem askKey_zero (s : State) :
    State.askKey 0 s = (if s.hu.ask = .none then s.setHu { s.hu with ask := .choosing s.now 0 } else s, .accepted) := by
  unfold State.askKey
  rw [if_pos rfl]
  cases h : s.hu.ask <;> simp

theorem askKey_refused {s : State} {n : Nat} {d : Denial} (low : 1 ≤ n) (h : s.askCheck n = some d) :
    State.askKey n s = (s.askRefused, .denied d) := by
  unfold State.askKey
  rw [if_neg (by omega), h]

theorem askKey_passes {s : State} {n : Nat} (low : 1 ≤ n) (h : s.askCheck n = none) :
    State.askKey n s = (s.askPasses n, .asking) := by
  unfold State.askKey
  rw [if_neg (by omega), h]

/-- No check of an ask is QUEUE (R134). -/
theorem askCheck_ne_queue (s : State) (n : Antenna) : s.askCheck n ≠ some .queue := by
  unfold State.askCheck
  repeat' split
  all_goals nofun

/-- What an ask that passes finds: one holder, and a wait entry or room for one (R134). -/
theorem askCheck_none {s : State} {n : Antenna} (h : s.askCheck n = none) :
    (∃ r, s.holders n = [r]) ∧ (s.waitEntry n = none → s.ct.waitList.length < 4) := by
  unfold State.askCheck at h
  repeat' split at h
  all_goals cases h
  refine ⟨?_, fun none => ?_⟩
  · have one : (s.holders n).length = 1 := by
      rw [← State.holderCount]
      omega
    exact List.length_eq_one_iff.1 one
  · simp_all

theorem askRefused_fields (s : State) :
    s.askRefused.ct = s.ct ∧ s.askRefused.hu.ask = (match s.hu.ask with
      | .choosing _ _ => .none
      | x => x) := by
  unfold State.askRefused
  cases h : s.hu.ask <;> simp [h]

theorem standAsk_of_one {s : State} {n : Antenna} {r : PeerRecord} (kind : AskKind) (one : s.holders n = [r]) :
    s.standAsk n kind = s.setHu { s.hu with ask := .standing r.pos n kind s.now 0 } := by
  unfold State.standAsk
  rw [one]

/-- An ask that finds no wait entry places a MAIN one at the tail (R134). -/
theorem askPasses_new {s : State} {n : Antenna} {r : PeerRecord} (one : s.holders n = [r]) (none : s.waitEntry n = none)
    (room : s.ct.waitList.length < 4) :
    (s.askPasses n).ct.waitList = s.ct.waitList ++ [⟨n, .main, s.claimMask .main n, true⟩] ∧
      (s.askPasses n).hu.ask = .standing r.pos n .main s.now 0 := by
  obtain ⟨c, consumed, waits⟩ : ∃ c, s.consumeMask .main n = s.setCt c ∧ c.waitList = s.ct.waitList := by
    unfold State.consumeMask
    split
    · exact ⟨_, rfl, rfl⟩
    · exact ⟨s.ct, rfl, rfl⟩
  have placed : ((s.setCt c).placeWait ⟨n, .main, s.claimMask .main n, true⟩).1 =
      (s.setCt c).setCt { c with waitList := s.ct.waitList ++ [⟨n, .main, s.claimMask .main n, true⟩] } := by
    unfold State.placeWait
    rw [if_pos (by show c.waitList.length < 4; rw [waits]; exact room)]
    show _ = _
    rw [← waits]
    rfl
  have eq : s.askPasses n =
      ((s.setCt c).setCt { c with waitList := s.ct.waitList ++ [⟨n, .main, s.claimMask .main n, true⟩] }).standAsk n .main := by
    unfold State.askPasses
    rw [none]
    dsimp only
    rw [consumed, placed]
  have one' : ((s.setCt c).setCt { c with waitList := s.ct.waitList ++ [⟨n, .main, s.claimMask .main n, true⟩] }).holders n =
      [r] := one
  rw [eq, standAsk_of_one .main one']
  exact ⟨rfl, rfl⟩

theorem askPasses_waiting {s : State} {n : Antenna} {r : PeerRecord} {e : WaitEntry} (one : s.holders n = [r])
    (waits : s.waitEntry n = some e) :
    (s.askPasses n).ct.waitList = s.ct.waitList ∧ (s.askPasses n).hu.ask = .standing r.pos n (askKindOf e.slot) s.now 0 := by
  have eq : s.askPasses n = s.standAsk n (askKindOf e.slot) := by
    unfold State.askPasses
    rw [waits]
  rw [eq, standAsk_of_one _ one]
  exact ⟨rfl, rfl⟩

/-! ### Answers given (R140, R142) -/

theorem exec_give {s : State} (run : s.jc.state = .run) :
    exec .give s = .next (commit .nothing s (s.giveKey.1.answerRequest .give s.giveKey.2)) := by
  show Host.Outcome.next (commit .nothing s (s.panelKey .give true (State.inRun State.giveKey))) = _
  rw [panelKey_run _ _ run]

theorem exec_keep {s : State} (run : s.jc.state = .run) :
    exec .keep s = .next (commit .nothing s (s.keepKey.1.answerRequest .keep s.keepKey.2)) := by
  show Host.Outcome.next (commit .nothing s (s.panelKey .keep true (State.inRun State.keepKey))) = _
  rw [panelKey_run _ _ run]

theorem giveKey_latched {s : State} {l : Latch} (h : s.hu.latch = some l) : s.giveKey = (s.give l, .accepted) := by
  unfold State.giveKey
  rw [h]

theorem giveKey_empty {s : State} (h : s.hu.latch = none) : s.giveKey = (s, .denied .noAsk) := by
  unfold State.giveKey
  rw [h]

theorem keepKey_latched {s : State} {l : Latch} (h : s.hu.latch = some l) : s.keepKey = (s.keep l, .accepted) := by
  unfold State.keepKey
  rw [h]

theorem keepKey_empty {s : State} (h : s.hu.latch = none) : s.keepKey = (s, .denied .noAsk) := by
  unfold State.keepKey
  rw [h]

/-- A GIVE of an antenna nothing holds lapses (R130, R140). -/
theorem give_of_nothing {s : State} {l : Latch} (hold : s.heldSlot (fun x => x.antenna == l.antenna) = none)
    (member : s.heldSlot (fun x => (s.membersOf x.antenna x.mask).contains l.antenna) = none) :
    (s.give l).hu.answer = none ∧ (s.give l).ct = s.ct := by
  have eq : s.give l = (s.giveTaken l).givingDone l.asker [l.antenna] := by
    rw [give_eq]
    unfold State.giveAntenna
    rw [show (s.giveTaken l).heldSlot (fun x => x.antenna == l.antenna) = none from hold]
    dsimp only
    rw [show (s.giveTaken l).heldSlot (fun x => ((s.giveTaken l).membersOf x.antenna x.mask).contains l.antenna) = none from
      member]
  have gone : (s.giveTaken l).givingDone l.asker [l.antenna] = (s.giveTaken l).setHu { (s.giveTaken l).hu with answer := none } :=
    if_pos ⟨rfl, by simp⟩
  rw [eq, gone]
  exact ⟨rfl, rfl⟩

/-- A GIVE of a member in the mask of a HELD port goes to the port (R129, R130). -/
theorem give_of_member {s : State} {l : Latch} {i : Slot} (hold : s.heldSlot (fun x => x.antenna == l.antenna) = none)
    (member : s.heldSlot (fun x => (s.membersOf x.antenna x.mask).contains l.antenna) = some i) :
    s.give l = (s.giveTaken l).giveMember i l.antenna l.asker := by
  rw [give_eq]
  unfold State.giveAntenna
  rw [show (s.giveTaken l).heldSlot (fun x => x.antenna == l.antenna) = none from hold]
  dsimp only
  rw [show (s.giveTaken l).heldSlot (fun x => ((s.giveTaken l).membersOf x.antenna x.mask).contains l.antenna) = some i from
    member]

/-- What giving a member leaves of a joined port's slot (R129, R130). -/
theorem giveMember_of_joined {s : State} {i : Slot} {h : HeldPart} {a : Antenna} (y : Position)
    (held : (s.slot i).held = some h) (joined : h.mask &&& s.placeIn h.antenna a ≠ 0) :
    s.giveMember i a y =
      if h.mask &&& ~~~s.placeIn h.antenna a = 0 then s.freeHold i .yielded (some y)
      else if h.shrink.isSome = true ∨ h.grow.isSome = true then
        s.setSlot i { s.slot i with held := some { h with give := some (a, y) } }
      else s.setSlot i { s.slot i with
        held := some { h with shrink := some ⟨h.mask &&& ~~~s.placeIn h.antenna a, some y⟩ } } := by
  unfold State.giveMember
  rw [held]
  dsimp only
  rw [if_neg joined]
  simp only [Bool.or_eq_true]

end Sys2Proof.Machine

namespace Sys2Proof.Proofs

open Sys2Proof.Machine

/-- Settles O39. -/
theorem askChoosesOrStands : Obligations.AskChoosesOrStands := by
  refine ⟨fun s run => ⟨_, exec_ask run (by decide), ?_⟩, fun n s run low high => ⟨fun d refused => ⟨_, exec_ask run high, ?_⟩,
    fun passes => ?_⟩, fun c s t target n since k kind h standing => ?_, fun heard before s t h => ?_⟩
  · obtain ⟨ct, -, hu, -⟩ := answerRequest_frame (State.askKey 0 s).1 (.ask 0) (State.askKey 0 s).2
    rw [ct, hu, askKey_zero]
    dsimp only
    split <;> exact ⟨rfl, rfl⟩
  · obtain ⟨ct, -, hu, -⟩ := answerRequest_frame (State.askKey n s).1 (.ask n) (State.askKey n s).2
    rw [ct, hu, askKey_refused low refused,
      answerRequest_pi (c := .ask n) rfl (o := .denied d) (fun h => askCheck_ne_queue s n (by cases h; exact refused))]
    obtain ⟨ct, ask⟩ := askRefused_fields s
    exact ⟨ct, rfl, ask⟩
  · obtain ⟨⟨r, one⟩, room⟩ := askCheck_none passes
    refine ⟨_, r, exec_ask run high, one, ?_⟩
    obtain ⟨ct, -, hu, -⟩ := answerRequest_frame (State.askKey n s).1 (.ask n) (State.askKey n s).2
    rw [ct, hu, askKey_passes low passes, answerRequest_pi (c := .ask n) rfl (o := .asking) nofun]
    refine ⟨rfl, ?_⟩
    cases waits : s.waitEntry n with
    | some e => exact askPasses_waiting one waits
    | none => exact askPasses_new one waits (room waits)
  · obtain ⟨heard, before, u, rfl⟩ := exec_commit h
    rw [(commit_handOver heard before u).1] at standing
    obtain ⟨-, holds, holding, stands⟩ := askLeft_standing standing
    refine ⟨fun i h held mem => ?_, (peerHolding_iff _ _ _).1 holding, (claimStands_iff _ _).1 stands⟩
    rw [(holds_iff _ _).2 ⟨i, h, held, mem⟩] at holds
    cases holds
  · subst h
    obtain ⟨ask, -⟩ := commit_handOver heard before s
    rw [ask]
    refine ⟨fun target n kind since k standing apart holding stands => ?_, ?_, fun other => ?_⟩
    · rw [standing]
      refine if_neg ?_
      rw [(peerHolding_iff _ _ _).2 holding, (claimStands_iff _ _).2 stands, Bool.not_true, Bool.or_false, Bool.or_false,
        holds_iff]
      rintro ⟨i, h, held, mem⟩
      exact apart i h held mem
    · cases s.hu.ask with
      | standing target n kind since k =>
        unfold State.askLeft
        dsimp only
        split
        · exact .inr rfl
        · exact .inl rfl
      | none => exact .inl rfl
      | choosing => exact .inl rfl
    · unfold State.askLeft
      split
      next h => exact absurd h (other _ _ _ _ _)
      next => rfl

/-- Settles O40. -/
theorem giveAndKeepAnswerAsk : Obligations.GiveAndKeepAnswerAsk := by
  intro s run
  refine ⟨fun empty => ⟨?_, ?_⟩, fun l latched => ?_⟩
  · rw [exec_give run, giveKey_empty empty]
    rfl
  · rw [exec_keep run, keepKey_empty empty]
    rfl
  have given : exec .give s = .next (commit .nothing s ((s.give l).answerRequest .give .accepted)) := by
    rw [exec_give run, giveKey_latched latched]
  have kept : exec .keep s = .next (commit .nothing s ((s.keep l).answerRequest .keep .accepted)) := by
    rw [exec_keep run, keepKey_latched latched]
  obtain ⟨ct, -, hu, -⟩ := answerRequest_frame (s.give l) .give .accepted
  obtain ⟨ct', lc', hu', -⟩ := answerRequest_frame (s.keep l) .keep .accepted
  obtain ⟨latch, timer⟩ := give_hu s l
  have slot (i : Slot) : ((s.give l).answerRequest .give .accepted).slot i = (s.give l).slot i := answerRequest_slot ..
  refine ⟨⟨_, given, ?_, ?_⟩, fun i h found held => ⟨_, given, ?_⟩, fun i h hold found held joined => ⟨_, given, ?_⟩,
    fun hold member => ⟨_, given, ?_⟩, ⟨_, kept, ?_, ?_, ?_⟩, ⟨_, kept, ?_⟩⟩
  · exact commit_latch_none (by rw [hu]; exact latch)
  · rw [commit_keepTimer, hu]
    exact timer
  · obtain ⟨gone, freeing, -, answer, others⟩ := give_of_hold l found held
    rw [hu, slot]
    exact ⟨latch, gone, freeing, answer, timer, fun j hj => (slot j).trans (others j hj)⟩
  · rw [hu, slot]
    refine ⟨latch, ?_⟩
    simp only [slot]
    rw [give_of_member hold found, giveMember_of_joined (s := s.giveTaken l) l.asker held joined]
    by_cases sole : h.mask &&& ~~~s.placeIn h.antenna l.antenna = 0
    · rw [if_pos (show h.mask &&& ~~~(s.giveTaken l).placeIn h.antenna l.antenna = 0 from sole), if_pos sole, freeHold_slot_self]
      refine ⟨fun j hj => freeHold_slot_ne _ _ _ hj, rfl, ?_⟩
      rw [show (s.giveTaken l).slot i = s.slot i from rfl, held]
      rfl
    · rw [if_neg (show ¬ h.mask &&& ~~~(s.giveTaken l).placeIn h.antenna l.antenna = 0 from sole), if_neg sole]
      by_cases busy : h.shrink.isSome = true ∨ h.grow.isSome = true
      · rw [if_pos busy, if_pos busy, slot_setSlot_self]
        exact ⟨fun j hj => slot_setSlot_ne _ _ hj, rfl, rfl⟩
      · rw [if_neg busy, if_neg busy, slot_setSlot_self]
        exact ⟨fun j hj => slot_setSlot_ne _ _ hj, rfl, rfl⟩
  · obtain ⟨answer, same⟩ := give_of_nothing hold member
    rw [hu, ct]
    exact ⟨latch, answer, same⟩
  · exact commit_latch_none (by rw [hu']; rfl)
  · obtain same | ⟨-, p, a, giving⟩ := commit_answer .nothing s ((s.keep l).answerRequest .keep .accepted)
    · rw [same, hu']
      rfl
    · rw [hu'] at giving
      cases giving
  · rw [commit_keepTimer, hu']
    rfl
  · rw [hu', ct', lc']
    exact ⟨rfl, rfl, rfl⟩

end Sys2Proof.Proofs

/-! SUPPORT. What a peer's head does with asks, answers and the latch (8.1 to 8.4). -/

namespace Sys2Proof.Machine

/-! ### A STATUS in RUN at its receivers (R45, R72) -/

theorem putStatus_jc (s : State) (r0 r : PeerRecord) : (s.putStatus r0 r).jc = s.jc := by
  unfold State.putStatus
  split <;> rfl

theorem applyStatus_jc (s : State) (p : Position) (f : StatusFrame) : (s.applyStatus p f).jc = s.jc := by
  cases h : s.recordFor p with
  | none =>
    unfold State.applyStatus
    rw [h]
  | some r =>
    rw [applyStatus_eq f h, putStatus_jc]
    unfold State.viewFor
    split
    · exact (removePeer_frame s p).2
    · rfl

theorem statusHeard_other {s : State} {p : Position} (f : StatusFrame) (run : s.jc.state = .run)
    (other : s.jc.number ≠ some p) : State.statusHeard p f s = ((s.applyStatus p f).judgeStatus f).headHeard p := by
  have jc := applyStatus_jc s p f
  have own : (s.applyStatus p f).isOwn p = false := by simpa [State.isOwn, jc] using other
  unfold State.statusHeard
  rw [senderHeard_other (by rw [jc]; exact other) (by rw [jc, run]; exact nofun)]
  unfold State.fromPeer
  rw [if_neg (by simp [own])]

/-! ### The answer in a head (R137) -/

theorem readAnswer_of_none {s : State} {r : PeerRecord} {me : Position} (number : s.jc.number = some me)
    (none : ∀ a k, r.answer ≠ some (me, a, k)) : s.readAnswer r = s := by
  unfold State.readAnswer
  split
  next t a k h =>
    refine if_neg fun own => none a k ?_
    rw [h, Option.some.inj (own.symm.trans number)]
  next => rfl

/-- A KEEP from the target of the standing ask clears it. -/
theorem readAnswer_clears {s : State} {r : PeerRecord} {me : Position} {a : Antenna} {kind : AskKind} {since n : Nat}
    (number : s.jc.number = some me) (answer : r.answer = some (me, a, .keep)) (ask : s.hu.ask = .standing r.pos a kind since n) :
    s.readAnswer r = (s.setHu { s.hu with ask := .none }).report .hu .kept := by
  unfold State.readAnswer
  rw [answer]
  dsimp only
  rw [if_pos number, ask]
  dsimp only
  rw [if_pos ⟨rfl, rfl⟩]

/-- Any other answer to this part is reported and nothing else. -/
theorem readAnswer_reports {s : State} {r : PeerRecord} {me : Position} {a : Antenna} {k : AnswerKind}
    (number : s.jc.number = some me) (answer : r.answer = some (me, a, k))
    (other : k = .giving ∨ ∀ kind since n, s.hu.ask ≠ .standing r.pos a kind since n) :
    s.readAnswer r = s.report .hu (if k = .keep then .kept else .giving) := by
  unfold State.readAnswer
  rw [answer]
  dsimp only
  rw [if_pos number]
  cases k with
  | giving => rfl
  | keep =>
    cases ask : s.hu.ask with
    | standing target n kind since periods =>
      dsimp only
      rw [if_neg]
      · rfl
      · rintro ⟨rfl, rfl⟩
        exact other.elim nofun fun o => o kind since periods ask
    | none => rfl
    | choosing => rfl

theorem readAnswer_rest {s : State} {r : PeerRecord} {me : Position} (number : s.jc.number = some me) :
    ∃ ask pi, s.readAnswer r = (s.setHu { s.hu with ask := ask }).setPi pi := by
  by_cases none : ∀ a k, r.answer ≠ some (me, a, k)
  · exact ⟨_, _, readAnswer_of_none number none⟩
  · obtain ⟨a, k, answer⟩ : ∃ a k, r.answer = some (me, a, k) := by simpa using none
    by_cases other : k = .giving ∨ ∀ kind since n, s.hu.ask ≠ .standing r.pos a kind since n
    · exact ⟨_, _, readAnswer_reports number answer other⟩
    · obtain ⟨keep, kind, since, n, ask⟩ : k ≠ .giving ∧ ∃ kind since n, s.hu.ask = .standing r.pos a kind since n := by
        simpa using other
      cases k with
      | giving => exact absurd rfl keep
      | keep => exact ⟨_, _, readAnswer_clears number answer ask⟩

/-! ### What a head no longer asks for (R139, R142) -/

theorem asksFor_iff {s : State} {r : PeerRecord} {me : Position} (number : s.jc.number = some me) (a : Antenna) :
    s.asksFor r a = true ↔ r.ask = some (me, a) := by
  unfold State.asksFor
  rw [number]
  cases r.ask with
  | none => simp
  | some x => simp [Prod.ext_iff]

/-- A latch that a head no longer makes (R139). -/
def State.latchStale (s : State) (r : PeerRecord) (l : Latch) : Bool := decide (l.asker = r.pos) && !s.asksFor r l.antenna

/-- A KEEP for an ask that a head no longer makes (R142). -/
def State.keepStale (s : State) (r : PeerRecord) : Option OutAnswer → Bool
  | some ⟨p, a, .keep⟩ => decide (p = r.pos) && !s.asksFor r a
  | _ => false

theorem dropLatched_eq (s : State) (r : PeerRecord) :
    s.dropLatched r = s.setHu { s.hu with latch := s.hu.latch.filter (fun l => !s.latchStale r l) } := by
  have same (x : Option Latch) (h : s.hu.latch = x) : s = s.setHu { s.hu with latch := x } := by
    subst h
    rfl
  unfold State.dropLatched State.latchStale
  cases h : s.hu.latch with
  | none => exact same _ h
  | some l =>
    rw [Option.filter_some]
    dsimp only
    by_cases stale : l.asker = r.pos ∧ s.asksFor r l.antenna = false
    · rw [if_pos stale]
      simp [stale.1, stale.2]
    · rw [if_neg stale, if_pos (by simpa [imp_iff_not_or] using stale)]
      exact same _ h

theorem dropKept_eq (s : State) (r : PeerRecord) :
    s.dropKept r =
      if s.keepStale r s.hu.answer then s.setHu { s.hu with answer := none, keepTimer := .stopped } else s := by
  unfold State.dropKept
  split
  next p a h =>
    rw [h]
    simp only [State.keepStale, Bool.and_eq_true, decide_eq_true_eq, Bool.not_eq_true']
  next other =>
    refine (if_neg ?_).symm
    unfold State.keepStale
    split
    next h => exact absurd h (other _ _)
    next => exact nofun

/-- The part once it has read a head's answer and let go of what the head no longer asks for (R137, R139, R142). -/
def State.headRead (s : State) (r : PeerRecord) : State := (s.readAnswer r).dropAnswered r

structure HeadRead (s : State) (r : PeerRecord) (t : State) : Prop where
  jc : t.jc = s.jc
  ct : t.ct = s.ct
  ps : t.ps = s.ps
  cu : t.cu = s.cu
  ask : t.hu.ask = (s.readAnswer r).hu.ask
  pi : t.pi = (s.readAnswer r).pi
  latch : t.hu.latch = s.hu.latch.filter (fun l => !s.latchStale r l)
  answer : t.hu.answer = if s.keepStale r s.hu.answer then none else s.hu.answer
  timer : t.hu.keepTimer = if s.keepStale r s.hu.answer then .stopped else s.hu.keepTimer

theorem headRead_fields {s : State} {r : PeerRecord} {me : Position} (number : s.jc.number = some me) :
    HeadRead s r (s.headRead r) := by
  obtain ⟨ask, pi, read⟩ := readAnswer_rest (r := r) number
  have latched := dropLatched_eq ((s.setHu { s.hu with ask := ask }).setPi pi) r
  have kept := dropKept_eq (((s.setHu { s.hu with ask := ask }).setPi pi).dropLatched r) r
  rw [latched] at kept
  have eq : s.headRead r = if s.keepStale r s.hu.answer then
      (((s.setHu { s.hu with ask := ask }).setPi pi).setHu
        { s.hu with ask := ask, latch := s.hu.latch.filter (fun l => !s.latchStale r l) }).setHu
        { s.hu with ask := ask, latch := s.hu.latch.filter (fun l => !s.latchStale r l), answer := none, keepTimer := .stopped }
      else ((s.setHu { s.hu with ask := ask }).setPi pi).setHu
        { s.hu with ask := ask, latch := s.hu.latch.filter (fun l => !s.latchStale r l) } := by
    unfold State.headRead
    rw [read, dropAnswered_eq, latched]
    exact kept
  rw [eq]
  split
  next stale => exact ⟨rfl, rfl, rfl, rfl, by rw [read]; rfl, by rw [read]; rfl, rfl, (if_pos stale).symm, (if_pos stale).symm⟩
  next stale => exact ⟨rfl, rfl, rfl, rfl, by rw [read]; rfl, by rw [read]; rfl, rfl, (if_neg stale).symm, (if_neg stale).symm⟩

/-! ### An ask latched (R138, R143) -/

theorem latchAsk_of_not {s : State} {r : PeerRecord} {me : Position} (number : s.jc.number = some me)
    (not : ∀ a, r.ask = some (me, a) → s.hu.latch ≠ none ∨ s.holds a = false) : s.latchAsk r = s := by
  unfold State.latchAsk
  split
  next t a h =>
    refine if_neg ?_
    rintro ⟨-, empty, asks, holds⟩
    obtain full | apart := not a ((asksFor_iff number a).1 asks)
    · exact full (by simpa using empty)
    · rw [apart] at holds
      cases holds
  next => rfl

theorem latchAsk_of_held {s : State} {r : PeerRecord} {me : Position} {a : Antenna} (run : s.jc.state = .run)
    (number : s.jc.number = some me) (ask : r.ask = some (me, a)) (empty : s.hu.latch = none) (holds : s.holds a = true) :
    s.latchAsk r = (s.setHu { s.hu with latch := some ⟨r.pos, a, r.label⟩ }).autoGive := by
  have asks := (asksFor_iff number a).2 ask
  unfold State.latchAsk
  rw [ask]
  exact if_pos ⟨run, by rw [empty]; rfl, asks, holds⟩

theorem autoGive_of_not {s : State} (h : s.cu.standby = false ∨ s.autoGives = false) : s.autoGive = s := by
  unfold State.autoGive
  split
  · exact if_neg (by rcases h with h | h <;> simp [h])
  · rfl

theorem autoGive_of_gives {s : State} {l : Latch} (latched : s.hu.latch = some l) (standby : s.cu.standby = true)
    (gives : s.autoGives = true) : s.autoGive = s.give l := by
  unfold State.autoGive
  rw [latched]
  exact if_pos (by simp [standby, gives])

/-- The ask is not what a GIVE answers, and the answer is no KEEP after one. -/
theorem give_rest (s : State) (l : Latch) :
    (s.give l).hu.ask = s.hu.ask ∧ ((s.give l).hu.answer = some ⟨l.asker, l.antenna, .giving⟩ ∨ (s.give l).hu.answer = none) := by
  obtain ⟨rest, answer⟩ := giveAntenna_answerMoves (s.giveTaken l) l.antenna l.asker
  rw [give_eq]
  refine ⟨?_, answer⟩
  rw [rest]
  rfl

theorem autoGive_rest (s : State) :
    s.autoGive.hu.ask = s.hu.ask ∧ s.autoGive.pi = s.pi ∧
      (s.autoGive.hu.answer = s.hu.answer ∧ s.autoGive.hu.keepTimer = s.hu.keepTimer ∨
        (∃ p a, s.autoGive.hu.answer = some ⟨p, a, .giving⟩ ∨ s.autoGive.hu.answer = none) ∧
          s.autoGive.hu.keepTimer = .stopped) := by
  refine ⟨?_, (autoGive_claimsOnly s).pi, ?_⟩
  all_goals
    unfold State.autoGive
    split
  · split
    · exact (give_rest s _).1
    · rfl
  · rfl
  · split
    next l _ _ => exact .inr ⟨⟨l.asker, l.antenna, (give_rest s l).2⟩, (give_hu s l).2⟩
    next => exact .inl ⟨rfl, rfl⟩
  · exact .inl ⟨rfl, rfl⟩

/-- What the latching of a head's ask leaves of ask, answer and panel (R138, R143). -/
theorem latchAsk_rest (s : State) (r : PeerRecord) :
    (s.latchAsk r).hu.ask = s.hu.ask ∧ (s.latchAsk r).pi = s.pi ∧
      ((s.latchAsk r).hu.answer = s.hu.answer ∧ (s.latchAsk r).hu.keepTimer = s.hu.keepTimer ∨
        (∃ p a, (s.latchAsk r).hu.answer = some ⟨p, a, .giving⟩ ∨ (s.latchAsk r).hu.answer = none) ∧
          (s.latchAsk r).hu.keepTimer = .stopped) := by
  unfold State.latchAsk
  split
  next a _ =>
    split
    next => exact autoGive_rest (s.setHu { s.hu with latch := some ⟨r.pos, a, r.label⟩ })
    next => exact ⟨rfl, rfl, .inl ⟨rfl, rfl⟩⟩
  next => exact ⟨rfl, rfl, .inl ⟨rfl, rfl⟩⟩

/-- Where auto-give does not answer, the answer stays (R143). -/
theorem latchAsk_answer {s : State} (r : PeerRecord) (h : s.cu.standby = false ∨ s.autoGives = false) :
    (s.latchAsk r).hu.answer = s.hu.answer ∧ (s.latchAsk r).hu.keepTimer = s.hu.keepTimer := by
  unfold State.latchAsk
  split
  next a _ =>
    split
    next =>
      rw [autoGive_of_not (s := s.setHu { s.hu with latch := some ⟨r.pos, a, r.label⟩ }) h]
      exact ⟨rfl, rfl⟩
    next => exact ⟨rfl, rfl⟩
  next => exact ⟨rfl, rfl⟩

/-- Without auto-give a head's ask of an antenna held fills an empty latch (R138). -/
theorem latchAsk_fills {s : State} {r : PeerRecord} {me : Position} {a : Antenna} (run : s.jc.state = .run)
    (number : s.jc.number = some me) (ask : r.ask = some (me, a)) (empty : s.hu.latch = none) (holds : s.holds a = true)
    (auto : s.cu.standby = false ∨ s.autoGives = false) :
    s.latchAsk r = s.setHu { s.hu with latch := some ⟨r.pos, a, r.label⟩ } := by
  rw [latchAsk_of_held run number ask empty holds]
  exact autoGive_of_not (s := s.setHu { s.hu with latch := some ⟨r.pos, a, r.label⟩ }) auto

/-- With auto-give in standby it is given at once (R138, R143). -/
theorem latchAsk_gives {s : State} {r : PeerRecord} {me : Position} {a : Antenna} (run : s.jc.state = .run)
    (number : s.jc.number = some me) (ask : r.ask = some (me, a)) (empty : s.hu.latch = none) (holds : s.holds a = true)
    (standby : s.cu.standby = true) (auto : s.autoGives = true) :
    (s.latchAsk r).hu.latch = none ∧
      ∀ i h, s.heldSlot (fun x => x.antenna == a) = some i → (s.slot i).held = some h →
        ((s.latchAsk r).slot i).held = none ∧ ((s.latchAsk r).slot i).freeing = (s.slot i).freeing ++
          [⟨h.antenna, h.mask, h.drive, h.tenure, h.tenureLink, .yielded, some r.pos, false⟩] := by
  have eq : s.latchAsk r =
      (s.setHu { s.hu with latch := some ⟨r.pos, a, r.label⟩ }).give ⟨r.pos, a, r.label⟩ := by
    rw [latchAsk_of_held run number ask empty holds]
    exact autoGive_of_gives rfl standby auto
  rw [eq]
  refine ⟨(give_hu _ _).1, fun i h found held => ?_⟩
  obtain ⟨gone, freeing, -⟩ :=
    give_of_hold (s := s.setHu { s.hu with latch := some ⟨r.pos, a, r.label⟩ }) ⟨r.pos, a, r.label⟩ found held
  exact ⟨gone, freeing⟩

theorem autoGives_eq_false (s : State) : s.autoGives = false ↔ ∀ row, s.ownRow = some row → row.autoGive = false := by
  unfold State.autoGives
  cases s.ownRow with
  | none => simp
  | some row => simp

/-! ### A head at the Hand-over Unit -/

section
variable {s : State} {p me : Position} {r : PeerRecord} (run : s.jc.state = .run) (number : s.jc.number = some me)
  (other : p ≠ me) (found : s.pt.find p = some r)

theorem find_pos {s : State} {p : Position} {r : PeerRecord} (found : s.pt.find p = some r) : r.pos = p := by
  simpa using List.find?_some found

include number other found in
theorem headHeard_eq : s.headHeard p = (s.headRead r).latchAsk r := by
  unfold State.headHeard
  rw [if_neg (by simpa [State.isOwn, number] using other.symm), found]
  rfl

end

/-- What a state that read a head agrees on with the state before it. -/
theorem HeadRead.views {s t : State} {r : PeerRecord} (h : HeadRead s r t) :
    t.holds = s.holds ∧ t.autoGives = s.autoGives ∧ t.heldSlot = s.heldSlot ∧ t.slot = s.slot := by
  obtain ⟨jc, ct, ps, -, -, -, -, -, -⟩ := h
  have slots : t.slot = s.slot := by funext i; exact slot_congr (congrArg _ ct) i
  refine ⟨funext (holds_congr ct ps), ?_, ?_, slots⟩
  · have rows : t.row = s.row := by funext p; simp only [State.row, ps]
    simp only [State.autoGives, State.ownRow, rows, jc]
  · funext hit
    simp only [State.heldSlot, slots]

end Sys2Proof.Machine

namespace Sys2Proof.Proofs

open Sys2Proof.Machine

/-- Settles O41. -/
theorem askAndKeepAgesRun : Obligations.AskAndKeepAgesRun := by
  refine ⟨fun s => ⟨fun since h => ⟨⟨_, rfl, ?_⟩, ⟨s.askPeriod, rfl, ?_⟩⟩, fun due h => ⟨_, rfl, ?_⟩⟩, ?_, ?_, ?_, ?_⟩
  · have ends : s.askEnds = (s.reach (since + s.askLife)).setHu { s.hu with ask := .none } := by
      unfold State.askEnds
      rw [h]
      rfl
    rw [ends]
    exact ⟨commit_ask_none rfl, commit_now ..⟩
  · have passes : s.askPeriod =
        (s.reach (since + (s.hu.ask.periods + 1) * s.period)).setHu { s.hu with ask := s.hu.ask.older } := by
      unfold State.askPeriod
      rw [h]
      rfl
    rw [passes]
    refine ⟨Eq.trans ?_ h, ?_, rfl⟩
    · show s.hu.ask.older.since = s.hu.ask.since
      cases s.hu.ask <;> rfl
    · show s.hu.ask.older.periods = _
      cases ask : s.hu.ask with
      | none => rw [ask] at h; cases h
      | choosing => rfl
      | standing => rfl
  · rw [onExpiry_of_running h]
    exact ⟨commit_answer_none rfl, commit_keepTimer .., commit_now ..⟩
  · intro c s t l h latched
    obtain ⟨heard, before, u, rfl⟩ := exec_commit h
    rw [(commit_handOver heard before u).2] at latched
    exact (holds_iff _ _).1 (Option.filter_eq_some_iff.1 latched).2
  · rintro heard before s t rfl
    obtain ⟨-, latch⟩ := commit_handOver heard before s
    refine ⟨commit_latch heard before s, fun l i h latched held mem => ?_⟩
    rw [latch, latched, Option.filter_some, if_pos ((holds_iff _ _).2 ⟨i, h, held, mem⟩)]
  · intro p f s good frame run other
    show Host.Outcome.next (commit .nothing s (s.takeGood (.status f) (State.statusHeard p f))) = _
    rw [takeGood_of_frame frame good, statusHeard_other (s := s.heardFrame) f run other]
  · intro s p me r run number other found
    obtain rfl := find_pos found
    have heard := headHeard_eq number other found
    have read := headRead_fields (r := r) number
    obtain ⟨holds, gives, heldSlot, slot⟩ := read.views
    obtain ⟨ask, pi, answers⟩ := latchAsk_rest (s.headRead r) r
    have asks := asksFor_iff (s := s) (r := r) number
    have number' : (s.headRead r).jc.number = some me := by rw [read.jc]; exact number
    have run' : (s.headRead r).jc.state = .run := by rw [read.jc]; exact run
    rw [heard]
    refine ⟨fun a k answer => ⟨?_, ?_, ?_⟩, fun none => ?_, fun l latched asker gone apart => ?_, fun l latched stays => ?_,
      fun a answer gone => ⟨?_, ?_, ?_⟩, fun x answer stays auto => ?_, fun a empty asked apart => ?_,
      fun a empty asked held => ⟨fun auto => ?_, fun standby row => ?_⟩⟩
    · rintro rfl ⟨kind, since, n, standing⟩
      rw [ask, read.ask, readAnswer_clears number answer standing]
      rfl
    · intro unread
      rw [ask, read.ask, readAnswer_reports number answer unread]
      rfl
    · rw [pi, read.pi]
      by_cases unread : k = .giving ∨ ∀ kind since n, s.hu.ask ≠ .standing r.pos a kind since n
      · rw [readAnswer_reports number answer unread]
        rfl
      · obtain ⟨keep, kind, since, n, standing⟩ :
            k ≠ .giving ∧ ∃ kind since n, s.hu.ask = .standing r.pos a kind since n := by simpa using unread
        cases k with
        | giving => exact absurd rfl keep
        | keep =>
          rw [readAnswer_clears number answer standing]
          rfl
    · rw [ask, read.ask, readAnswer_of_none number none]
    · have stale : s.latchStale r l = true := by
        have := mt (asks l.antenna).1 gone
        simp [State.latchStale, asker, this]
      have none : (s.headRead r).hu.latch = none := by rw [read.latch, latched, Option.filter_some, stale]; rfl
      rw [latchAsk_of_not number' fun a h => .inr (by rw [holds]; exact apart a h), none]
    · have fresh : s.latchStale r l = false := by
        rcases stays with h | h
        · simp [State.latchStale, h]
        · simp [State.latchStale, (asks l.antenna).2 h]
      have kept : (s.headRead r).hu.latch = some l := by rw [read.latch, latched, Option.filter_some, fresh]; rfl
      rw [latchAsk_of_not number' fun a h => .inl (by rw [kept]; exact nofun), kept]
    · have stale : s.keepStale r s.hu.answer = true := by
        have := mt (asks a).1 gone
        simp [State.keepStale, answer, this]
      have timer : (s.headRead r).hu.keepTimer = .stopped := read.timer.trans (if_pos stale)
      exact answers.elim (fun h => h.2.trans timer) And.right
    · have stale : s.keepStale r s.hu.answer = true := by
        have := mt (asks a).1 gone
        simp [State.keepStale, answer, this]
      have none : (s.headRead r).hu.answer = none := read.answer.trans (if_pos stale)
      obtain ⟨same, -⟩ | ⟨⟨q, b, giving | gone⟩, -⟩ := answers
      · rw [same, none]; exact nofun
      · rw [giving]; exact nofun
      · rw [gone]; exact nofun
    · intro auto
      have stale : s.keepStale r s.hu.answer = true := by
        have := mt (asks a).1 gone
        simp [State.keepStale, answer, this]
      have none : (s.headRead r).hu.answer = none := read.answer.trans (if_pos stale)
      obtain out | keeps | silent := auto
      · exact ((latchAsk_answer r (.inl (by rw [read.cu]; exact out))).1).trans none
      · exact ((latchAsk_answer r (.inr (gives.trans ((autoGives_eq_false s).2 keeps)))).1).trans none
      · rw [latchAsk_of_not number' fun b h => absurd h (silent b), none]
    · have fresh : s.keepStale r s.hu.answer = false := by
        obtain ⟨q, b, k⟩ := x
        rw [answer]
        cases k with
        | giving => rfl
        | keep =>
          rcases stays with h | h | h
          · exact Bool.and_eq_false_iff.2 (.inl (by simpa using h))
          · cases h
          · exact Bool.and_eq_false_iff.2 (.inr (by simpa using (asks b).2 h))
      obtain ⟨kept, timer⟩ := latchAsk_answer (s := s.headRead r) r (auto.imp (by rw [read.cu]; exact id)
        fun keeps => gives.trans ((autoGives_eq_false s).2 keeps))
      rw [kept, timer, read.answer, read.timer, fresh, answer]
      exact ⟨rfl, rfl⟩
    · have none : (s.headRead r).hu.latch = none := by rw [read.latch, empty]; rfl
      refine (congrArg (·.hu.latch) (latchAsk_of_not number' fun b h => .inr ?_)).trans none
      rw [asked] at h
      cases h
      rw [holds]
      exact apart
    · have none : (s.headRead r).hu.latch = none := by rw [read.latch, empty]; rfl
      rw [latchAsk_fills run' number' asked none (by rw [holds]; exact held) ?_]
      · exact ⟨rfl, read.ct⟩
      · by_cases out : s.cu.standby = true
        · refine .inr (gives.trans ((Bool.not_eq_true _).mp fun on => auto ⟨out, (autoGives_iff s).1 on⟩))
        · exact .inl (by rw [read.cu]; simpa using out)
    · have none : (s.headRead r).hu.latch = none := by rw [read.latch, empty]; rfl
      have given := latchAsk_gives run' number' asked none (by rw [holds]; exact held) (by rw [read.cu]; exact standby)
        (gives.trans ((autoGives_iff s).2 row))
      rwa [heldSlot, slot] at given

end Sys2Proof.Proofs

/-! SUPPORT. Reshaping a held port (7.3, 7.5). -/

namespace Sys2Proof.Machine

/-! ### The STACK-MASK key (R120, R122, R125) -/

theorem exec_stackMask {m : Mask} {s : State} (run : s.jc.state = .run) (some : m ≠ 0) : exec (.stackMask m) s =
    .next (commit .nothing s ((State.maskKey m s).1.answerRequest (.stackMask m) (State.maskKey m s).2)) := by
  have range : (m != 0) = true := by simpa using some
  show Host.Outcome.next (commit .nothing s (s.panelKey (.stackMask m) (m != 0) (State.inRun (State.maskKey m)))) = _
  rw [range, panelKey_run _ _ run]

theorem encodeKey_stackMask (m : Mask) : encodeKey (.stackMask m) = some (192 + (m.toNat : Byte)) := by
  revert m
  decide

theorem maskKey_panel {m : Mask} {s : State} (h : ∀ h, (s.slot .main).held = some h → s.groupOf h.antenna = none) :
    State.maskKey m s = (s.setCt { s.ct with panelMask := some m }, .valueSet) := by
  unfold State.maskKey
  split
  next x held => rw [h x held]
  next => rfl

theorem maskKey_port {m : Mask} {s : State} {h : HeldPart} {k : Nat} {g : GroupEntry} (held : (s.slot .main).held = some h)
    (group : s.groupOf h.antenna = some (k, g)) : State.maskKey m s = s.reshape h g.present m := by
  unfold State.maskKey
  rw [held]
  dsimp only
  rw [group]

/-- What a reshape in RUN does, check by check (R122). -/
theorem reshape_eq {s : State} (h : HeldPart) (present m : Mask) (run : s.jc.state = .run) :
    s.reshape h present m =
      if m &&& present = 0 then (s, .denied .mask)
      else if h.shrink.isSome ∨ h.grow.isSome ∨ (s.slot .main).cand.isSome then (s, .denied .reshaping)
      else if m &&& present = h.mask then (s, .accepted)
      else if m &&& present &&& ~~~h.mask = 0 then
        (s.setSlot .main { s.slot .main with held := some { h with shrink := some ⟨m &&& present, none⟩ } }, .accepted)
      else
        s.startGrow .main h (h.mask ||| m &&& present)
          (if h.mask &&& ~~~(m &&& present) = 0 then none else some (m &&& present)) := by
  unfold State.reshape
  dsimp only
  rw [if_neg (by simp [run])]
  simp only [Bool.or_eq_true, or_assoc]

theorem growCheck_ne_queue (s : State) (added : List Antenna) : s.growCheck added ≠ some .queue := by
  unfold State.growCheck State.fullDenial
  repeat' split
  all_goals nofun

theorem startGrow_refused {s : State} {i : Slot} {h : HeldPart} {full : Mask} {x : Option Mask} {d : Denial}
    (check : s.growCheck (s.membersOf h.antenna (full &&& ~~~h.mask)) = some d) :
    s.startGrow i h full x = (s, .denied d) := by
  unfold State.startGrow
  rw [check]

/-- A grow that passes its checks with room for its CLAIM is recorded QUEUED (R125). -/
theorem startGrow_begins {s : State} {i : Slot} {h : HeldPart} {full : Mask} (x : Option Mask)
    (check : s.growCheck (s.membersOf h.antenna (full &&& ~~~h.mask)) = none) (room : s.lc.queue.length < 8) :
    ((s.startGrow i h full x).1.slot i).held = some { h with grow := some ⟨full, .queued, x⟩ } ∧
      (s.startGrow i h full x).2 = .accepted := by
  unfold State.startGrow
  rw [check]
  dsimp only
  rw [offer_enters (claimFrame_noKin _ s i h.antenna full false 0) room, if_neg nofun, slot_setSlot_self]
  exact ⟨rfl, rfl⟩

theorem startGrow_panelMask (s : State) (i : Slot) (h : HeldPart) (full : Mask) (x : Option Mask) :
    (s.startGrow i h full x).1.ct.panelMask = s.ct.panelMask := by
  unfold State.startGrow
  split
  · rfl
  · dsimp only
    split
    · exact congrArg _ (offer_ct s _)
    · exact (congrArg ClaimTable.panelMask (offer_ct s (s.claimFrame i h.antenna full false 0)) :)

/-! ### The three steps of a shrink (R123, R129) -/

section
variable {s : State} {i : Slot} {h : HeldPart} {x : Shrink} (held : (s.slot i).held = some h) (shrink : h.shrink = some x)

theorem driveStep_keyed (keyed : s.ampKey = true) : s.driveStep = s := by
  unfold State.driveStep
  split
  · exact if_pos keyed
  · rfl

theorem driveStep_shrinks (held : (s.slot .main).held = some h) (shrink : h.shrink = some x) (off : s.ampKey = false) :
    (s.driveStep.slot .main).held = some { h with drive := x.mask } := by
  unfold State.driveStep
  rw [held]
  dsimp only
  rw [if_neg (by simp [off]), slot_setSlot_self, shrink]

/-- A part with its held mask changed to that of its shrink (R123). -/
def State.shrunk (s : State) (i : Slot) (h : HeldPart) (x : Shrink) : State :=
  s.setSlot i { s.slot i with held := some { h with mask := x.mask, shrink := none } }

/-- The RELEASE of a member handed over, its answer lapsing where the queue refuses it (R129, R141). -/
def State.releaseMember (i : Slot) (y : Position) (s : State) (a : Antenna) : State :=
  if (s.offerRelease i a .yielded (some y)).2 = .refused then (s.offerRelease i a .yielded (some y)).1.givingDone y [a]
  else (s.offerRelease i a .yielded (some y)).1

theorem releaseMember_slot (i : Slot) (y : Position) (s : State) (a : Antenna) (j : Slot) :
    (State.releaseMember i y s a).slot j = s.slot j := by
  have offered (t : State) : (t.offerRelease i a .yielded (some y)).1.slot j = t.slot j := by
    unfold State.offerRelease
    split
    · rfl
    · exact offer_slot ..
  unfold State.releaseMember
  split
  · refine Eq.trans ?_ (offered s)
    unfold State.givingDone
    repeat' split
    all_goals rfl
  · exact offered s

include held shrink

theorem shrinkStep_waits (wait : s.shrinkReady i h x = false) : s.shrinkStep i = s := by
  unfold State.shrinkStep
  rw [held]
  dsimp only
  rw [shrink]
  exact if_neg (by simp [wait])

theorem shrinkStep_tells (ready : s.shrinkReady i h x = true) (none : x.yieldTo = none) :
    s.shrinkStep i = (s.shrunk i h x).offerAssert i h.antenna x.mask h.tenure := by
  unfold State.shrinkStep
  rw [held]
  dsimp only
  rw [shrink]
  dsimp only
  rw [if_pos ready, none]
  rfl

theorem shrinkStep_yields {y : Position} (ready : s.shrinkReady i h x = true) (yields : x.yieldTo = some y) :
    s.shrinkStep i =
      (s.membersOf h.antenna (h.mask &&& ~~~x.mask)).foldl (State.releaseMember i y) (s.shrunk i h x) := by
  unfold State.shrinkStep
  rw [held]
  dsimp only
  rw [shrink]
  dsimp only
  rw [if_pos ready, yields]
  rfl

/-- Once a shrink is done, the held mask is the new one. -/
theorem shrinkStep_held (ready : s.shrinkReady i h x = true) :
    ∃ h', ((s.shrinkStep i).slot i).held = some h' ∧
      h' = { h with mask := x.mask, shrink := none, lastAssert := h'.lastAssert } := by
  have self : ((s.shrunk i h x).slot i).held = some { h with mask := x.mask, shrink := none } := by
    unfold State.shrunk
    rw [slot_setSlot_self]
  cases yields : x.yieldTo with
  | none =>
    rw [shrinkStep_tells held shrink ready yields]
    obtain ⟨same | ⟨n, paced⟩, -⟩ := offerAssert_slot (s.shrunk i h x) i h.antenna x.mask h.tenure
    · exact ⟨_, (congrArg _ same).trans self, rfl⟩
    · rw [paced]
      obtain ⟨h', held', eq⟩ := paced_held h.antenna n self
      exact ⟨h', held', eq⟩
  | some y =>
    rw [shrinkStep_yields held shrink ready yields]
    have slot : (((s.membersOf h.antenna (h.mask &&& ~~~x.mask)).foldl (State.releaseMember i y) (s.shrunk i h x)).slot i) =
        (s.shrunk i h x).slot i :=
      List.foldlRecOn (motive := fun t => t.slot i = (s.shrunk i h x).slot i) _ _ rfl
        fun t same a _ => (releaseMember_slot i y t a i).trans same
    exact ⟨_, (congrArg _ slot).trans self, rfl⟩

end

theorem shrinkReady_iff (s : State) (i : Slot) (h : HeldPart) (x : Shrink) :
    s.shrinkReady i h x = true ↔ (i = .main → s.ampKey = false ∧ h.drive = x.mask ∧
      s.rd.lines.member &&& s.portMemberBits h.antenna (h.mask &&& ~~~x.mask) = 0) := by
  unfold State.shrinkReady
  cases i <;> simp [and_assoc]

/-- A member handed over has its RELEASE in the queue where there is room (R129). -/
theorem releaseMember_room {s : State} (i : Slot) (y : Position) {a : Antenna} (small : a ≤ 32)
    (loud : s.leavingSilently = false) (room : s.lc.queue.length < 8) :
    ∃ e ∈ (State.releaseMember i y s a).lc.queue, e.inFlight = false ∧ e.frame = s.releaseFrame i a .yielded (some y) := by
  have offered := offerRelease_room (i := i) .yielded (some y) loud (Nat.le_trans small (by decide)) room
  unfold State.releaseMember
  rw [offered, if_neg nofun]
  exact ⟨⟨s.releaseFrame i a .yielded (some y), false, false⟩, mem_enqueue.2 (.inl rfl), rfl, rfl⟩

end Sys2Proof.Machine

namespace Sys2Proof.Proofs

open Sys2Proof.Machine

/-- Settles O38. -/
theorem stackMaskSetsOrReshapes : Obligations.StackMaskSetsOrReshapes := by
  refine ⟨fun m s run some => ⟨fun panel => ⟨_, exec_stackMask run some, ?_⟩, fun h k g held group =>
    ⟨_, exec_stackMask run some, ?_⟩⟩, fun i s h x held shrink => ⟨fun keyed => ⟨driveStep_keyed keyed, ?_⟩, ?_, ?_,
      fun ready room => ⟨?_, fun none => ?_, fun y a yields members small loud => ?_⟩⟩⟩
  · rw [maskKey_panel panel, (answerRequest_frame _ _ _).1]
    exact ⟨rfl, rfl⟩
  · have answer {t : State} {o : PanelOutcome} (ok : o ≠ .denied .queue) :
        (t.answerRequest (.stackMask m) o).pi.answer = Option.some ⟨.key (192 + m.toNat), o⟩ :=
      answerRequest_pi (encodeKey_stackMask m) ok
    rw [maskKey_port held group, reshape_eq h g.present m run]
    simp only [(answerRequest_frame _ _ _).1, answerRequest_slot]
    by_cases empty : m &&& g.present = 0
    · rw [if_pos empty, if_pos empty]
      exact ⟨rfl, rfl, answer nofun⟩
    rw [if_neg empty, if_neg empty]
    by_cases busy : h.shrink.isSome ∨ h.grow.isSome ∨ (s.slot .main).cand.isSome
    · rw [if_pos busy, if_pos busy]
      exact ⟨rfl, rfl, answer nofun⟩
    rw [if_neg busy, if_neg busy]
    by_cases same : m &&& g.present = h.mask
    · rw [if_pos same, if_pos same]
      exact ⟨rfl, rfl, answer nofun⟩
    rw [if_neg same, if_neg same]
    by_cases fewer : m &&& g.present &&& ~~~h.mask = 0
    · rw [if_pos fewer, if_pos fewer, slot_setSlot_self]
      exact ⟨rfl, rfl, answer nofun⟩
    rw [if_neg fewer, if_neg fewer]
    cases check : s.growCheck (s.membersOf h.antenna ((h.mask ||| m &&& g.present) &&& ~~~h.mask)) with
    | some d =>
      rw [startGrow_refused check]
      refine ⟨rfl, fun d' same => ?_, nofun⟩
      cases same
      exact ⟨rfl, answer fun queue => growCheck_ne_queue s _ (check.trans (by cases queue; rfl))⟩
    | none =>
      refine ⟨startGrow_panelMask .., nofun, fun _ room => ?_⟩
      obtain ⟨grown, taken⟩ := startGrow_begins (if h.mask &&& ~~~(m &&& g.present) = 0 then none else Option.some (m &&& g.present))
        check room
      rw [taken]
      exact ⟨grown, answer nofun⟩
  · rintro rfl
    exact shrinkStep_waits held shrink (by simp [State.shrinkReady, keyed])
  · rintro off rfl
    exact driveStep_shrinks held shrink off
  · rintro rfl lines
    refine shrinkStep_waits held shrink ((Bool.not_eq_true _).mp fun ready => ?_)
    obtain ⟨-, -, off⟩ := (shrinkReady_iff s .main h x).1 ready rfl
    exact lines off
  · exact shrinkStep_held held shrink ((shrinkReady_iff s i h x).2 ready)
  · rw [shrinkStep_tells held shrink ((shrinkReady_iff s i h x).2 ready) none]
    exact offerAssert_room (s := s.shrunk i h x) i h.antenna x.mask h.tenure room
  · rw [shrinkStep_yields held shrink ((shrinkReady_iff s i h x).2 ready) yields, members]
    exact releaseMember_room (s := s.shrunk i h x) i y small loud room

end Sys2Proof.Proofs

/-! SUPPORT. What the judging of a peer's frame leaves as it was: the view, the plan and the clock (6.3 to 6.5). -/

namespace Sys2Proof.Machine

/-- The clock, the plan, the Frequency Unit, the Join Controller, the view, the Command Unit and wait mode are as they
were. -/
structure ViewKept (s t : State) : Prop where
  now : t.now = s.now
  fu : t.fu = s.fu
  ps : t.ps = s.ps
  jc : t.jc = s.jc
  pt : t.pt = s.pt
  cu : t.cu = s.cu
  waitMode : t.pi.waitMode = s.pi.waitMode

theorem ViewKept.refl (s : State) : ViewKept s s := ⟨rfl, rfl, rfl, rfl, rfl, rfl, rfl⟩

theorem ViewKept.trans {s t u : State} (h : ViewKept s t) (k : ViewKept t u) : ViewKept s u :=
  ⟨k.now.trans h.now, k.fu.trans h.fu, k.ps.trans h.ps, k.jc.trans h.jc, k.pt.trans h.pt, k.cu.trans h.cu,
    k.waitMode.trans h.waitMode⟩

theorem ViewKept.of_claimsOnly {s t : State} (h : ClaimsOnly s t) : ViewKept s t :=
  ⟨h.now, h.fu, h.ps, h.jc, h.pt, h.cu, congrArg _ h.pi⟩

theorem setSlot_viewKept (s : State) (i : Slot) (r : SlotRecord) : ViewKept s (s.setSlot i r) :=
  ⟨rfl, rfl, rfl, rfl, rfl, rfl, rfl⟩

theorem report_viewKept (s : State) (b : Block) (o : PanelOutcome) : ViewKept s (s.report b o) :=
  ⟨rfl, rfl, rfl, rfl, rfl, rfl, rfl⟩

theorem offer_viewKept (s : State) (f : LinkFrame) : ViewKept s (s.offer f).1 := by
  unfold State.offer
  dsimp only
  split <;> exact ⟨rfl, rfl, rfl, rfl, rfl, rfl, rfl⟩

theorem withdraw_viewKept (s : State) (p : LinkFrame → Bool) : ViewKept s (s.withdraw p) :=
  ⟨rfl, rfl, rfl, rfl, rfl, rfl, rfl⟩

theorem offerRelease_viewKept (s : State) (i : Slot) (a : Antenna) (r : ReleaseReason) (y : Option Position) :
    ViewKept s (s.offerRelease i a r y).1 := by
  unfold State.offerRelease
  split
  · exact .refl s
  · exact ViewKept.trans (t := s.withdrawUnsent (isClaimFor i a)) ⟨rfl, rfl, rfl, rfl, rfl, rfl, rfl⟩ (offer_viewKept _ _)

theorem offerAssert_viewKept (s : State) (i : Slot) (a : Antenna) (m : Mask) (t : Nat) :
    ViewKept s (s.offerAssert i a m t) := by
  unfold State.offerAssert
  dsimp only
  split
  · exact offer_viewKept _ _
  · exact (offer_viewKept s (s.claimFrame i a m true t)).trans (setSlot_viewKept _ _ _)

theorem dropCandidate_viewKept (s : State) (i : Slot) (r : ReleaseReason) : ViewKept s (s.dropCandidate i r) := by
  unfold State.dropCandidate
  split
  · exact .refl s
  next c _ =>
    have emptied := setSlot_viewKept s i { s.slot i with cand := none }
    dsimp only
    split
    · exact emptied.trans (withdraw_viewKept _ _)
    · exact emptied.trans (offerRelease_viewKept _ _ _ _ _)

theorem freeHold_viewKept (s : State) (i : Slot) (r : ReleaseReason) (y : Option Position) : ViewKept s (s.freeHold i r y) :=
  .of_claimsOnly (freeHold_claimsOnly s i r y)

theorem placeWait_viewKept (s : State) (e : WaitEntry) : ViewKept s (s.placeWait e).1 := by
  unfold State.placeWait
  split <;> exact ⟨rfl, rfl, rfl, rfl, rfl, rfl, rfl⟩

theorem candidateWithdrawn_viewKept (s : State) (i : Slot) (c : Candidate) : ViewKept s (s.candidateWithdrawn i c) := by
  have emptied := setSlot_viewKept s i { s.slot i with cand := none }
  unfold State.candidateWithdrawn
  dsimp only
  split
  · split
    · exact emptied.trans (placeWait_viewKept _ _)
    · exact (emptied.trans (placeWait_viewKept _ _)).trans (report_viewKept _ _ _)
  · exact emptied.trans (report_viewKept _ _ _)

/-! ### A peer's entry judged (R102, R104, R108, R125, R126) -/

theorem judgeQueued_viewKept (s : State) (touched : List Antenna) (i : Slot) : ViewKept s (s.judgeQueued touched i) := by
  unfold State.judgeQueued
  split
  · dsimp only
    split
    · split
      · exact ((withdraw_viewKept s _).trans (setSlot_viewKept _ _ _)).trans (candidateWithdrawn_viewKept _ _ _)
      · exact (withdraw_viewKept s _).trans (setSlot_viewKept _ _ _)
    · exact .refl s
  · exact .refl s

theorem judgeQueuedGrow_viewKept (s : State) (touched : List Antenna) (i : Slot) :
    ViewKept s (s.judgeQueuedGrow touched i) := by
  unfold State.judgeQueuedGrow
  split
  · split
    · dsimp only
      split
      · split
        · exact ((withdraw_viewKept s _).trans (setSlot_viewKept _ _ _)).trans (report_viewKept _ _ _)
        · exact withdraw_viewKept s _
      · exact .refl s
    · exact .refl s
  · exact .refl s

theorem judgeWindow_viewKept (s : State) (touched : List Antenna) (n : News) (i : Slot) :
    ViewKept s (s.judgeWindow touched n i) := by
  unfold State.judgeWindow
  repeat' split
  all_goals first
    | exact .refl s
    | exact dropCandidate_viewKept s _ _
    | exact offerAssert_viewKept s _ _ _ _

theorem judgeGrow_viewKept (s : State) (touched : List Antenna) (n : News) (i : Slot) :
    ViewKept s (s.judgeGrow touched n i) := by
  unfold State.judgeGrow
  repeat' split
  all_goals first
    | exact .refl s
    | exact (setSlot_viewKept s _ _).trans (offerAssert_viewKept _ _ _ _ _)
    | exact offerAssert_viewKept s _ _ _ _

theorem judgeHeld_viewKept (s : State) (touched : List Antenna) (n : News) (i : Slot) :
    ViewKept s (s.judgeHeld touched n i) := by
  unfold State.judgeHeld
  dsimp only
  repeat' split
  all_goals first
    | exact .refl s
    | exact freeHold_viewKept s _ _ _
    | exact offerAssert_viewKept s _ _ _ _

theorem judgeSlot_viewKept (s : State) (touched : List Antenna) (n : News) (i : Slot) :
    ViewKept s (s.judgeSlot touched n i) :=
  ((((judgeQueued_viewKept s touched i).trans (judgeQueuedGrow_viewKept _ touched i)).trans
    (judgeWindow_viewKept _ touched n i)).trans (judgeGrow_viewKept _ touched n i)).trans (judgeHeld_viewKept _ touched n i)

theorem judgeEntry_viewKept (s : State) (a : Antenna) (m : Mask) (n : News) : ViewKept s (s.judgeEntry a m n) := by
  unfold State.judgeEntry
  split
  · exact .refl s
  · exact List.foldlRecOn (motive := fun t => ViewKept s t) allSlots _ (.refl s)
      fun t h i _ => h.trans (judgeSlot_viewKept t _ n i)

theorem judgeStatus_viewKept (s : State) (f : StatusFrame) : ViewKept s (s.judgeStatus f) :=
  List.foldlRecOn (motive := fun t => ViewKept s t) (statusEntries f) _ (.refl s)
    fun t h _ _ => h.trans (judgeEntry_viewKept t _ _ _)

/-! ### A head read, and the Join Controller's reading (R29, R137 to R139) -/

theorem headHeard_viewKept (s : State) (p : Position) : ViewKept s (s.headHeard p) := by
  have read (s : State) (r : PeerRecord) : ViewKept s (s.readAnswer r) := by
    unfold State.readAnswer
    repeat' split
    all_goals first
      | exact .refl s
      | exact ⟨rfl, rfl, rfl, rfl, rfl, rfl, rfl⟩
  have dropped (s : State) (r : PeerRecord) : ViewKept s (s.dropAnswered r) := by
    rw [dropAnswered_eq, dropKept_eq, dropLatched_eq]
    split <;> exact ⟨rfl, rfl, rfl, rfl, rfl, rfl, rfl⟩
  have latched (s : State) (r : PeerRecord) : ViewKept s (s.latchAsk r) := by
    unfold State.latchAsk
    repeat' split
    · exact .of_claimsOnly ((setHu_claimsOnly s _).trans (autoGive_claimsOnly _))
    · exact .refl s
    · exact .refl s
  unfold State.headHeard
  split
  · exact .refl s
  · split
    · exact ((read s _).trans (dropped _ _)).trans (latched _ _)
    · exact .refl s

theorem senderHeard_pt {s : State} {p : Position} {probe : Bool} (other : s.jc.number ≠ some p) :
    (s.senderHeard p probe).pt = s.pt ∧ (s.senderHeard p probe).jc.number = s.jc.number := by
  refine ⟨?_, senderHeard_number s p probe⟩
  unfold State.senderHeard
  split
  · rw [attemptFailed_eq, (attemptFrom_pt _ _).1]
    rfl
  · rw [if_neg (by simp [State.isOwn, other])]

end Sys2Proof.Machine

/-! SUPPORT. What a STATUS makes of its sender's record (4.2 to 4.4). -/

namespace Sys2Proof.Machine

/-! ### Entries, slot by slot (R65, R69) -/

/-- A fold that touches one slot at a time does to each slot of its list what its step does there. -/
theorem get_foldl_slots {α : Type} {F : Slots α → Slot → Slots α} {g : Slot → α → α}
    (step : ∀ x i j, (F x i).get j = if j = i then g j (x.get j) else x.get j) {l : List Slot} (nodup : l.Nodup)
    (x : Slots α) (j : Slot) : (l.foldl F x).get j = if j ∈ l then g j (x.get j) else x.get j := by
  induction l generalizing x with
  | nil => rfl
  | cons i l ih =>
    rw [List.nodup_cons] at nodup
    rw [List.foldl_cons, ih nodup.2, step]
    by_cases hj : j = i
    · subst hj
      rw [if_neg nodup.1, if_pos rfl, if_pos List.mem_cons_self]
    · rw [if_neg hj]
      simp [hj]

theorem get_clearElsewhere (a : Antenna) (keep : List Slot) (x : Slots (Option PeerEntry)) (j : Slot) :
    (clearElsewhere a keep x).get j =
      if j ∈ keep then x.get j else (x.get j).filter (fun e => e.antenna != a) := by
  unfold clearElsewhere
  rw [get_foldl_slots (g := fun j y => if j ∈ keep then y else y.filter (fun e => e.antenna != a)) _ (by decide),
    if_pos (mem_allSlots j)]
  intro x i j
  by_cases kept : i ∈ keep
  · rw [if_neg (by simp [kept])]
    by_cases hj : j = i
    · subst hj
      rw [if_pos rfl, if_pos kept]
    · rw [if_neg hj]
  · by_cases hj : j = i
    · subst hj
      rw [if_pos rfl, if_neg kept]
      cases e : x.get j with
      | none => rw [if_neg (by simp [entryIs]), e]; rfl
      | some y =>
        by_cases same : y.antenna = a
        · rw [if_pos (by simp [kept, entryIs, same]), Slots.get_set_self, Option.filter_some, if_neg (by simp [same])]
        · rw [if_neg (by simp [entryIs, same]), e, Option.filter_some, if_pos (by simp [same])]
    · rw [if_neg hj]
      split
      · exact Slots.get_set_ne _ _ hj
      · rfl

theorem get_expireEntries (now limit : Nat) (x : Slots (Option PeerEntry)) (j : Slot) :
    (expireEntries now limit x).get j = (x.get j).filter (fun e => decide (now < e.since + limit)) := by
  unfold expireEntries
  rw [get_foldl_slots (g := fun _ y => y.filter (fun e => decide (now < e.since + limit))) _ (by decide),
    if_pos (mem_allSlots j)]
  intro x i j
  by_cases hj : j = i
  · subst hj
    rw [if_pos rfl]
    cases e : x.get j with
    | none => exact e
    | some y =>
      rw [Option.filter_some]
      dsimp only
      by_cases old : y.since + limit ≤ now
      · rw [if_pos old, Slots.get_set_self, if_neg (by simpa using old)]
      · rw [if_neg old, e, if_pos (by simpa using old)]
  · rw [if_neg hj]
    split
    · split
      · exact Slots.get_set_ne _ _ hj
      · rfl
    · rfl

/-- The entries a STATUS carries, set into their slots. -/
theorem get_foldl_entries {l : List (Slot × EntryCode)} (nodup : (l.map Prod.fst).Nodup) (now : Nat)
    (x : Slots (Option PeerEntry)) :
    (∀ e ∈ l, (l.foldl (fun x e => x.set e.1 (entryOf e.2.antenna e.2.mask e.2.tenure now)) x).get e.1 =
      entryOf e.2.antenna e.2.mask e.2.tenure now) ∧
    ∀ j, j ∉ l.map Prod.fst →
      (l.foldl (fun x e => x.set e.1 (entryOf e.2.antenna e.2.mask e.2.tenure now)) x).get j = x.get j := by
  induction l generalizing x with
  | nil => exact ⟨nofun, fun _ _ => rfl⟩
  | cons e l ih =>
    rw [List.map_cons, List.nodup_cons] at nodup
    obtain ⟨set, rest⟩ := ih nodup.2 (x.set e.1 (entryOf e.2.antenna e.2.mask e.2.tenure now))
    refine ⟨fun y hy => ?_, fun j hj => ?_⟩
    · rw [List.foldl_cons]
      obtain rfl | hy := List.mem_cons.1 hy
      · rw [rest _ nodup.1, Slots.get_set_self]
      · exact set y hy
    · rw [List.map_cons, List.mem_cons, not_or] at hj
      rw [List.foldl_cons, rest j hj.2, Slots.get_set_ne _ _ hj.1]

/-- An entry outside the slice goes where the slice names its antenna (R65). -/
theorem get_foldl_clear (l : List (Slot × EntryCode)) (keep : List Slot) (x : Slots (Option PeerEntry)) (j : Slot) :
    (l.foldl (fun x e => if e.2.antenna = 0 then x else clearElsewhere e.2.antenna.toNat keep x) x).get j =
      if j ∈ keep then x.get j
      else (x.get j).filter (fun e => l.all (fun y => y.2.antenna == 0 || y.2.antenna.toNat != e.antenna)) := by
  induction l generalizing x with
  | nil =>
    split
    · rfl
    · rw [List.foldl_nil]
      cases x.get j <;> rfl
  | cons e l ih =>
    rw [List.foldl_cons, ih]
    by_cases none : e.2.antenna = 0
    · rw [if_pos none]
      simp [none]
    · rw [if_neg none, get_clearElsewhere]
      by_cases kept : j ∈ keep
      · rw [if_pos kept, if_pos kept, if_pos kept]
      · rw [if_neg kept, if_neg kept, if_neg kept, Option.filter_filter]
        have named : (e.2.antenna == 0) = false := beq_eq_false_iff_ne.2 none
        congr 1
        funext y
        rw [List.all_cons, named, Bool.false_or, bne_comm]

theorem statusEntries_slots {f : StatusFrame} (e : Slot × EntryCode) (h : e ∈ statusEntries f) : e.1 ∈ statusSlots f :=
  (List.of_mem_zip h).1

/-- The entries after a STATUS: those of its slice set, those outside it kept where the slice does not name their
antenna (R65). -/
theorem get_applyEntries (f : StatusFrame) (now : Nat) (x : Slots (Option PeerEntry)) :
    (∀ e ∈ statusEntries f, (applyEntries f now x).get e.1 = entryOf e.2.antenna e.2.mask e.2.tenure now) ∧
    ∀ j, j ∉ statusSlots f → (applyEntries f now x).get j = (x.get j).filter (fun e =>
      (statusEntries f).all (fun y => y.2.antenna == 0 || y.2.antenna.toNat != e.antenna)) := by
  obtain ⟨set, rest⟩ := get_foldl_entries (statusEntries_nodup f) now x
  refine ⟨fun e he => ?_, fun j hj => ?_⟩
  · unfold applyEntries
    dsimp only
    rw [get_foldl_clear, if_pos (statusEntries_slots e he)]
    exact set e he
  · have out : j ∉ (statusEntries f).map Prod.fst := fun h => by
      obtain ⟨e, he, rfl⟩ := List.mem_map.1 h
      exact hj (statusEntries_slots e he)
    unfold applyEntries
    dsimp only
    rw [get_foldl_clear, if_neg hj, rest j out]

theorem periodOf_pos (code : Nat) : 0 < periodOf code := Nat.mul_pos (by decide) (by omega)

/-! ### The record after a STATUS (R62, R64, R65, R69) -/

theorem recordAfter_eq (s : State) (f : StatusFrame) (r : PeerRecord) :
    s.recordAfter f r = { s.statusRecord f r with
      entries := if s.peerPeriod r = s.peerPeriod (s.statusRecord f r) then applyEntries f s.now r.entries
        else expireEntries s.now (s.peerLimit (s.statusRecord f r)) (applyEntries f s.now r.entries) } := by
  unfold State.recordAfter
  split <;> rfl

theorem recordAfter_entries (s : State) (f : StatusFrame) (r : PeerRecord) :
    (∀ e ∈ statusEntries f, (s.recordAfter f r).entries.get e.1 = entryOf e.2.antenna e.2.mask e.2.tenure s.now) ∧
    ∀ j, j ∉ statusSlots f → (s.recordAfter f r).entries.get j = (r.entries.get j).filter (fun e =>
      (statusEntries f).all (fun y => y.2.antenna == 0 || y.2.antenna.toNat != e.antenna) &&
        (periodOf (r.periodCode.getD s.timing.periodCode) == periodOf (min 12 f.periodCode.toNat) ||
          decide (s.now < e.since + 9 * periodOf (min 12 f.periodCode.toNat)))) := by
  obtain ⟨set, rest⟩ := get_applyEntries f s.now r.entries
  have old : s.peerPeriod r = periodOf (r.periodCode.getD s.timing.periodCode) := rfl
  have new : s.peerPeriod (s.statusRecord f r) = periodOf (min 12 f.periodCode.toNat) := rfl
  have limit : s.peerLimit (s.statusRecord f r) = 9 * periodOf (min 12 f.periodCode.toNat) := rfl
  rw [recordAfter_eq, old, new, limit]
  by_cases same : periodOf (r.periodCode.getD s.timing.periodCode) = periodOf (min 12 f.periodCode.toNat)
  · rw [if_pos same]
    refine ⟨set, fun j hj => ?_⟩
    rw [rest j hj]
    simp [same]
  · rw [if_neg same]
    refine ⟨fun e he => ?_, fun j hj => ?_⟩
    · rw [get_expireEntries, set e he]
      unfold entryOf
      split
      · rfl
      · have positive : 0 < periodOf (min 12 f.periodCode.toNat) := periodOf_pos _
        rw [Option.filter_some, if_pos (by simp [positive])]
    · rw [get_expireEntries, rest j hj, Option.filter_filter]
      have changed := beq_eq_false_iff_ne.2 same
      congr 1
      funext y
      rw [changed, Bool.false_or, Bool.and_comm]

/-- A STATUS without a fault has the shape of its cadence and no code at fault (R43). -/
theorem good_status {f : StatusFrame} (good : (FrameBody.status f).fault = none) :
    f.shapeOk = true ∧ f.codesOk = true := by
  have checks : (if f.cadence == 3 then some FaultKind.cadenceFault else if !f.shapeOk then some .lengthFault
      else if f.codesOk then none else some .encodingFault) = none := good
  split at checks
  · cases checks
  · split at checks
    · cases checks
    next shape =>
      split at checks
      next codes => exact ⟨by simpa using shape, codes⟩
      next => cases checks

/-- Every slot reported makes the record LIVE (R62). -/
theorem allReported_iff (x : Slots Bool) : allReported x = true ↔ ∀ i, x.get i = true := by
  have slots : (∀ i, x.get i = true) ↔ x.main = true ∧ x.aux = true ∧ x.nextA = true ∧ x.nextB = true :=
    ⟨fun h => ⟨h .main, h .aux, h .nextA, h .nextB⟩, fun ⟨h0, h1, h2, h3⟩ i => by cases i <;> assumption⟩
  rw [slots]
  simp [allReported, and_assoc]

theorem recordAfter_reported (s : State) (f : StatusFrame) (r : PeerRecord) (i : Slot) :
    (s.recordAfter f r).slotsReported.get i = if i ∈ statusSlots f then true else r.slotsReported.get i := by
  rw [recordAfter_eq]
  exact get_foldl_set (statusSlots f) r.slotsReported true i

theorem recordAfter_live (s : State) (f : StatusFrame) (r : PeerRecord) :
    (s.recordAfter f r).live = true ↔ r.live = true ∨ ∀ i, (s.recordAfter f r).slotsReported.get i = true := by
  rw [← allReported_iff, recordAfter_eq, ← Bool.or_eq_true]
  rfl

/-- The head a STATUS leaves, its codes read (R64, R65). -/
theorem recordAfter_head (s : State) {f : StatusFrame} (good : (FrameBody.status f).fault = none) (r : PeerRecord) :
    (s.recordAfter f r).freq = (if f.freq = 1048575 then none else some (min 1000000 f.freq.toNat)) ∧
    (s.recordAfter f r).band = (if f.band.toNat ≤ 10 then f.band.toNat else 0) ∧
    (s.recordAfter f r).periodCode = some (min 12 f.periodCode.toNat) ∧ (s.recordAfter f r).keyed = f.keyed ∧
    (s.recordAfter f r).keyTenure = f.keyTenure.toNat ∧ (s.recordAfter f r).standby = f.standby ∧
    (s.recordAfter f r).linkLost = f.linkLost ∧ (s.recordAfter f r).planInfo = some (f.planCheck, f.planValid) ∧
    (s.recordAfter f r).mismatch = (f.planValid && s.ps.plan.isSome && f.planCheck != s.ps.planCheck) ∧
    (s.recordAfter f r).priority = some f.priority ∧
    (s.recordAfter f r).ask = (if f.askAntenna = 0 then none else some (f.askTarget, f.askAntenna.toNat)) ∧
    (s.recordAfter f r).answer = (if f.answerAntenna = 0 ∨ f.answer = 0 then none
      else some (f.answerTarget, f.answerAntenna.toNat, if f.answer = 1 then .keep else .giving)) ∧
    (s.recordAfter f r).headSince = s.now := by
  have answer : statusAnswer f = if f.answerAntenna = 0 ∨ f.answer = 0 then none
      else some (f.answerTarget, f.answerAntenna.toNat, if f.answer = 1 then .keep else .giving) := by
    have three : f.answer ≠ 3 := by
      have codes := (good_status good).2
      simp only [StatusFrame.codesOk, Bool.and_eq_true, bne_iff_ne] at codes
      exact codes.2
    unfold statusAnswer
    by_cases none : f.answerAntenna = 0
    · rw [if_pos none, if_pos (.inl none)]
    · rw [if_neg none]
      have codes : f.answer = 0 ∨ f.answer = 1 ∨ f.answer = 2 ∨ f.answer = 3 := by
        generalize f.answer = x
        revert x
        decide
      obtain h | h | h | h := codes
      · simp [h]
      · rw [h, if_neg (not_or.2 ⟨none, by decide⟩)]; rfl
      · rw [h, if_neg (not_or.2 ⟨none, by decide⟩)]; rfl
      · exact absurd h three
  rw [recordAfter_eq, ← answer]
  exact ⟨rfl, rfl, rfl, rfl, rfl, rfl, rfl, rfl, rfl, rfl, rfl, rfl, rfl⟩

/-- A STATUS in SINGLE carries the identity, and no other does (R39, R83). -/
theorem ident_iff_single {f : StatusFrame} (good : (FrameBody.status f).fault = none) :
    f.ident.isSome = true ↔ f.cadence = 0 := by
  have shape := (good_status good).1
  simp only [StatusFrame.shapeOk, Bool.and_eq_true, beq_iff_eq] at shape
  rw [shape.2, beq_iff_eq]

theorem statusSlots_single {f : StatusFrame} (single : f.cadence = 0) (i : Slot) : i ∈ statusSlots f := by
  unfold statusSlots
  rw [single]
  exact mem_allSlots i

theorem tokenDiffers_ident {f : StatusFrame} {r : PeerRecord} (h : tokenDiffers f r = true) : f.ident.isSome = true := by
  unfold tokenDiffers at h
  split at h
  next e _ => rw [e]; rfl
  next => cases h

/-! ### A STATUS applied (R61 to R65, R75) -/

theorem recordBefore_pos {s : State} {p : Position} {f : StatusFrame} {r : PeerRecord} (pos : r.pos = p) :
    (s.recordBefore p f r).pos = p := by
  unfold State.recordBefore
  split
  · rfl
  · exact pos

/-- The view after a STATUS: its sender's record replaced, the others as they were, link lost cleared where the record
went LIVE. -/
theorem applyStatus_view {s : State} {p : Position} {r : PeerRecord} (f : StatusFrame) (record : s.recordFor p = some r)
    (pos : r.pos = p) :
    (s.applyStatus p f).pt.find p = some (s.recordAfter f (s.recordBefore p f r)) ∧
      (∀ q, q ≠ p → (s.applyStatus p f).pt.find q = s.pt.find q) ∧
      (s.applyStatus p f).pt.liveSeen = s.pt.liveSeen ∧
      ((s.recordAfter f (s.recordBefore p f r)).live = true → (s.recordBefore p f r).live = false →
        (s.applyStatus p f).pt.linkLost = false) ∧
      (¬ ((s.recordAfter f (s.recordBefore p f r)).live = true ∧ (s.recordBefore p f r).live = false) →
        (s.applyStatus p f).pt.linkLost = (s.viewFor p f r).pt.linkLost) := by
  have view (q : Position) (h : q ≠ p) : (s.viewFor p f r).pt.find q = s.pt.find q := by
    unfold State.viewFor
    split
    · exact find_removePeer_ne s h
    · rfl
  have rest : (s.viewFor p f r).now = s.now ∧ (s.viewFor p f r).ps = s.ps ∧ (s.viewFor p f r).pt.liveSeen = s.pt.liveSeen := by
    unfold State.viewFor
    split
    · refine ⟨(removePeer_frame s p).1, (removePeer_others s p).2.1, ?_⟩
      exact removePeer_same s p .liveSeen (by decide)
    · exact ⟨rfl, rfl, rfl⟩
  obtain ⟨now, ps, seen⟩ := rest
  have before : (s.viewFor p f r).recordBefore p f r = s.recordBefore p f r := by
    unfold State.recordBefore
    rw [now]
  have after : (s.viewFor p f r).recordAfter f = s.recordAfter f := by
    have timing : (s.viewFor p f r).timing = s.timing := by simp only [State.timing, ps]
    have period : (s.viewFor p f r).peerPeriod = s.peerPeriod := by funext x; simp only [State.peerPeriod, timing]
    have limit : (s.viewFor p f r).peerLimit = s.peerLimit := by funext x; simp only [State.peerLimit, period]
    have status : (s.viewFor p f r).statusRecord = s.statusRecord := by
      funext f x
      simp only [State.statusRecord, State.mismatchOf, now, ps]
    funext x
    unfold State.recordAfter
    rw [period, limit, status, now]
  have name : (s.recordAfter f (s.recordBefore p f r)).pos = p := by
    rw [recordAfter_eq]
    exact recordBefore_pos pos
  have same (r0 x : PeerRecord) (t : State) :
      (t.putStatus r0 x).pt.records = (t.putPeer x).pt.records ∧ (t.putStatus r0 x).pt.liveSeen = t.pt.liveSeen := by
    unfold State.putStatus
    split <;> exact ⟨rfl, rfl⟩
  rw [applyStatus_eq f record, before, after]
  obtain ⟨records, live⟩ := same (s.recordBefore p f r) (s.recordAfter f (s.recordBefore p f r)) (s.viewFor p f r)
  refine ⟨?_, fun q hq => ?_, live.trans seen, fun up down => ?_, fun still => ?_⟩
  · unfold PeerTable.find
    rw [records]
    have self := find_putPeer_self (s.viewFor p f r) (s.recordAfter f (s.recordBefore p f r))
    rwa [name] at self
  · unfold PeerTable.find
    rw [records]
    exact (find_putPeer_ne (s.viewFor p f r) _ (by rw [name]; exact hq)).trans (view q hq)
  · unfold State.putStatus
    rw [if_pos (by simp [up, down])]
    rfl
  · unfold State.putStatus
    rw [if_neg (by simpa using still)]
    rfl

theorem commit_liveSeen {heard : KeyHeard} {before s : State} (run : s.jc.state = .run) :
    (commit heard before s).pt.liveSeen = (s.pt.liveSeen || s.pt.anyLive) := by
  have early : Same [.marks] s (State.recentReact before (State.remark heard before s)) :=
    (remark_same heard before s).trans (recentReact_same before _).any
  have jc : (State.recentReact before (State.remark heard before s)).jc = s.jc := by
    unfold State.recentReact
    split <;> rfl
  have records : (State.recentReact before (State.remark heard before s)).pt.records = s.pt.records := early .records (by decide)
  have seen : (State.recentReact before (State.remark heard before s)).pt.liveSeen = s.pt.liveSeen := early .liveSeen (by decide)
  have late : Aspect.liveSeen.Kept (reactStart heard before s) (commit heard before s) :=
    ((reactSettled_same heard before s .liveSeen (by decide)).trans (reactJudged_same heard before s .liveSeen (by decide))).trans
      (commit_same_judged heard before s .liveSeen (by decide))
  refine Eq.trans late ?_
  unfold reactStart State.ptReact PeerTable.anyLive
  rw [jc, records]
  cases live : s.pt.records.any (fun r => r.live) with
  | true =>
    rw [if_pos ⟨run, rfl⟩, Bool.or_true]
    rfl
  | false => rw [if_neg (by simp), Bool.or_false, seen]

/-- A STATUS of another position: the view after it is that of the frame applied. -/
theorem statusHeard_view {s : State} {p : Position} {f : StatusFrame} (other : s.jc.number ≠ some p) :
    (State.statusHeard p f s).pt = (s.applyStatus p f).pt := by
  have other' : (s.applyStatus p f).jc.number ≠ some p := by rw [applyStatus_jc]; exact other
  obtain ⟨view, -⟩ := senderHeard_pt (s := s.applyStatus p f) (probe := false) other'
  unfold State.statusHeard
  rw [(headHeard_viewKept _ _).pt]
  refine Eq.trans ?_ view
  unfold State.fromPeer
  split
  · rfl
  · exact (judgeStatus_viewKept _ _).pt


/-- A frame of another position is applied to the record there is, or to a fresh one where R60 allows it. -/
theorem recordFor_room {s : State} {p : Position} (other : s.jc.number ≠ some p)
    (room : (s.pt.find p).isSome = true ∨ s.pt.records.length < 15) :
    ∃ r, s.recordFor p = some r ∧ r.pos = p ∧
      (s.pt.find p = some r ∨ s.pt.find p = none ∧ r = PeerRecord.fresh p s.now) := by
  unfold State.recordFor
  rw [if_neg (by simp [State.isOwn, other])]
  cases found : s.pt.find p with
  | some r => exact ⟨r, rfl, pos_of_find found, .inl rfl⟩
  | none =>
    rw [found] at room
    exact ⟨_, if_pos (room.resolve_left nofun), rfl, .inr ⟨rfl, rfl⟩⟩

end Sys2Proof.Machine

namespace Sys2Proof.Proofs

open Sys2Proof.Machine

/-- Settles O21. -/
theorem statusReplacesPeerHead : Obligations.StatusReplacesPeerHead := by
  intro p f s good frame other room
  obtain ⟨r, record, pos, was⟩ := recordFor_room other room
  obtain ⟨found, others, seen, up, still⟩ := applyStatus_view (s := s.heardFrame) f record pos
  have view : (State.statusHeard p f s.heardFrame).pt = (s.heardFrame.applyStatus p f).pt := statusHeard_view other
  have ident := ident_iff_single good
  have before : tokenDiffers f r = true ∧ s.heardFrame.recordBefore p f r = PeerRecord.fresh p s.now ∨
      tokenDiffers f r = false ∧ s.heardFrame.recordBefore p f r = r := by
    unfold State.recordBefore
    cases tokenDiffers f r
    · exact .inr ⟨rfl, rfl⟩
    · exact .inl ⟨rfl, rfl⟩
  have single (h : tokenDiffers f r = true) : f.cadence = 0 := ident.1 (tokenDiffers_ident h)
  obtain ⟨set, rest⟩ := recordAfter_entries s.heardFrame f (s.heardFrame.recordBefore p f r)
  have reported := recordAfter_reported s.heardFrame f (s.heardFrame.recordBefore p f r)
  have live := recordAfter_live s.heardFrame f (s.heardFrame.recordBefore p f r)
  obtain ⟨freq, band, code, keyed, tenure, standby, link, plan, mismatch, priority, ask, answer, head⟩ :=
    recordAfter_head s.heardFrame good (s.heardFrame.recordBefore p f r)
  refine ⟨_, s.heardFrame.recordAfter f (s.heardFrame.recordBefore p f r),
    congrArg (fun u => Host.Outcome.next (commit .nothing s u)) (takeGood_of_frame frame good), ?_⟩
  simp only [commit_find, commit_linkLost, commit_records, view]
  refine ⟨found, freq, band, code, keyed, tenure, standby, link, plan, mismatch, priority, ask, answer, head,
    fun i hi => (reported i).trans (if_pos hi), set, fun i hi => ?_, fun once => ⟨?_, ?_⟩, fun sliced => ?_, fun h => live.2 (.inr h),
    fun i hi => ?_, ?_, ?_, fun run => ?_, others⟩
  · obtain found | ⟨none, rfl⟩ := was
    · rw [found]
      obtain ⟨differs, fresh⟩ | ⟨same, kept⟩ := before
      · exact absurd (statusSlots_single (single differs) i) hi
      · rw [rest i hi, kept]
        exact (if_neg (by simp [same])).symm
    · rw [none, rest i hi]
      obtain ⟨-, fresh⟩ | ⟨-, fresh⟩ := before
      all_goals
        rw [fresh]
        cases i <;> rfl
  · exact live.2 (.inr fun i => (reported i).trans (if_pos (statusSlots_single once i)))
  · obtain ⟨⟨l, t⟩, carried⟩ := Option.isSome_iff_exists.1 (ident.2 once)
    rw [recordAfter_eq, carried]
    show some (l, t) = some (((f.ident.map (fun i => i.1)).orElse _).getD _, ((f.ident.map (fun i => i.2)).orElse _).getD _)
    rw [carried]
    rfl
  · have none : f.ident = none := by simpa using mt ident.1 sliced
    have kept : s.heardFrame.recordBefore p f r = r := before.elim (fun h => absurd (single h.1) sliced) And.right
    rw [recordAfter_eq, kept]
    show ((f.ident.map (fun i => i.2)).orElse fun _ => r.token) = _ ∧ ((f.ident.map (fun i => i.1)).orElse fun _ => r.label) = _
    rw [none]
    obtain found | ⟨gone, rfl⟩ := was
    · rw [found]
      exact ⟨rfl, rfl⟩
    · rw [gone]
      exact ⟨rfl, rfl⟩
  · rw [reported i, if_neg hi]
    obtain found | ⟨gone, rfl⟩ := was
    · obtain ⟨differs, -⟩ | ⟨-, kept⟩ := before
      · exact absurd (statusSlots_single (single differs) i) hi
      · rw [found, kept]
        rfl
    · rw [gone]
      obtain ⟨-, fresh⟩ | ⟨-, fresh⟩ := before
      all_goals
        rw [fresh]
        cases i <;> rfl
  · rw [live]
    constructor
    · rintro (h | h)
      · obtain ⟨-, fresh⟩ | ⟨-, kept⟩ := before
        · rw [fresh] at h
          cases h
        · rw [kept] at h
          obtain found | ⟨-, rfl⟩ := was
          · exact .inr (.inr ⟨r, found, h⟩)
          · cases h
      · exact .inr (.inl h)
    · rintro (h | h | ⟨r0, found, h⟩)
      · exact .inr fun i => (reported i).trans (if_pos (statusSlots_single h i))
      · exact .inr h
      · obtain ⟨differs, -⟩ | ⟨-, kept⟩ := before
        · exact .inr fun i => (reported i).trans (if_pos (statusSlots_single (single differs) i))
        · obtain was | ⟨gone, -⟩ := was
          · rw [found] at was
            cases was
            exact .inl (by rw [kept]; exact h)
          · rw [found] at gone
            cases gone
  · split
    next goes =>
      obtain ⟨now, was_⟩ := goes
      refine up now ?_
      obtain ⟨-, fresh⟩ | ⟨-, kept⟩ := before
      · rw [fresh]
        rfl
      · rw [kept]
        obtain found | ⟨-, rfl⟩ := was
        · exact was_ r found
        · rfl
    next stays =>
      intro same
      have kept : s.heardFrame.recordBefore p f r = r := before.elim (fun h => by
        obtain found | ⟨-, rfl⟩ := was
        · rw [same r found] at h
          exact absurd h.1 nofun
        · exact h.2) And.right
      have view : s.heardFrame.viewFor p f r = s.heardFrame := if_neg (by
        obtain found | ⟨-, rfl⟩ := was
        · rw [same r found]; exact nofun
        · unfold tokenDiffers
          split
          next e => cases e
          next => exact nofun)
      refine (still fun h => stays ⟨h.1, fun r0 found0 => ?_⟩).trans (by rw [view]; rfl)
      obtain found | ⟨gone, -⟩ := was
      · rw [found] at found0
        cases found0
        rw [kept] at h
        exact h.2
      · rw [gone] at found0
        cases found0
  · have heard : State.statusHeard p f s.heardFrame =
        ((s.heardFrame.applyStatus p f).judgeStatus f).headHeard p := statusHeard_other f run other
    rw [commit_liveSeen, view, seen]
    · rfl
    · rw [heard, (headHeard_viewKept _ _).jc, (judgeStatus_viewKept _ _).jc, applyStatus_jc]
      exact run

end Sys2Proof.Proofs

/-! SUPPORT. A peer's RELEASE and KEY (4.3, 6.8, 10.1). -/

namespace Sys2Proof.Machine

theorem recordFor_found {s : State} {p : Position} {r : PeerRecord} (other : s.jc.number ≠ some p)
    (found : s.pt.find p = some r) : s.recordFor p = some r := by
  unfold State.recordFor
  rw [if_neg (by simp [State.isOwn, other]), found]

/-! ### A RELEASE applied (R67) -/

/-- The record after a RELEASE. -/
def State.releasedRecord (s : State) (f : ReleaseFrame) (r : PeerRecord) : PeerRecord :=
  { r with
    entries := r.entries.set f.slot ((r.entries.get f.slot).bind (s.releasedEntry f.antenna.toNat)), headSince := s.now }

theorem applyRelease_found {s : State} {p : Position} {r : PeerRecord} (f : ReleaseFrame) (other : s.jc.number ≠ some p)
    (found : s.pt.find p = some r) : s.applyRelease p f = s.putPeer (s.releasedRecord f r) := by
  unfold State.applyRelease
  rw [recordFor_found other found]
  rfl

theorem applyRelease_rest (s : State) (p : Position) (f : ReleaseFrame) :
    s.applyRelease p f = s.setPt { s.pt with records := (s.applyRelease p f).pt.records } := by
  unfold State.applyRelease
  split <;> rfl

theorem releasedEntry_eq (s : State) (a : Antenna) (e : PeerEntry) :
    (e.antenna = a → s.releasedEntry a e = none) ∧
    (e.antenna ≠ a → e.mask &&& s.placeIn e.antenna a = 0 → s.releasedEntry a e = some e) ∧
    (e.antenna ≠ a → e.mask &&& s.placeIn e.antenna a ≠ 0 → s.releasedEntry a e =
      if e.mask &&& ~~~s.placeIn e.antenna a &&& s.placesOf e.antenna = 0 then none
      else some { e with mask := e.mask &&& ~~~s.placeIn e.antenna a }) := by
  unfold State.releasedEntry
  refine ⟨fun same => if_pos same, fun apart out => ?_, fun apart in_ => ?_⟩
  · rw [if_neg apart]
    exact if_pos out
  · rw [if_neg apart]
    exact if_neg in_

/-- A record put in a record's place, its LIVE flag and mismatch the same, leaves plan disagreement where none is (R78). -/
theorem disagreement_putPeer {s : State} {p : Position} {r0 r : PeerRecord} (found : s.pt.find p = some r0)
    (live : r.live = r0.live) (mismatch : r.mismatch = r0.mismatch) (agreed : s.pt.disagreement = false) :
    (s.putPeer r).pt.disagreement = false := by
  have mem (l : List PeerRecord) (x : PeerRecord) (h : x ∈ putRecord r l) : x = r ∨ x ∈ l := by
    induction l with
    | nil => exact .inl (List.mem_singleton.1 h)
    | cons y ys ih =>
      unfold putRecord at h
      split at h
      · obtain rfl | h := List.mem_cons.1 h
        · exact .inr List.mem_cons_self
        · exact (ih h).imp id (List.mem_cons_of_mem _)
      · split at h
        · exact (List.mem_cons.1 h).imp id (List.mem_cons_of_mem _)
        · exact List.mem_cons.1 h
  have none (x : PeerRecord) (h : x ∈ s.pt.records) : ¬ (x.live && x.mismatch) = true := by
    unfold PeerTable.disagreement at agreed
    exact List.any_eq_false.1 agreed x h
  unfold PeerTable.disagreement
  refine List.any_eq_false.2 fun x h => ?_
  obtain rfl | h := mem _ x h
  · rw [live, mismatch]
    exact none r0 (List.mem_of_find?_eq_some found)
  · exact none x h

/-! ### Yield grace (R113) -/

theorem freedBy_eq {s : State} {p : Position} {r : PeerRecord} (f : ReleaseFrame) (found : s.pt.find p = some r) :
    s.freedBy p f = f.antenna.toNat :: (match r.entries.get f.slot with
      | some e => if e.antenna = f.antenna.toNat then s.membersOf e.antenna e.mask else []
      | none => []) := by
  unfold State.freedBy
  rw [found]
  dsimp only [Option.bind_some]
  cases r.entries.get f.slot with
  | none => rfl
  | some e =>
    dsimp only
    by_cases same : e.antenna = f.antenna.toNat
    · rw [if_pos same, if_pos same, same]
      rfl
    · rw [if_neg same, if_neg same]

theorem foldl_reserve_viewKept (l : List Antenna) (y : Position) (s : State) :
    (l.foldl (fun s a => s.reserve a y) s).pt = s.pt :=
  List.foldlRecOn (motive := fun (t : State) => t.pt = s.pt) l _ rfl fun _ h _ _ => h

/-- Each antenna of a list is reserved for the position, for 2W (R113). -/
theorem mem_foldl_reserve (l : List Antenna) (y : Position) (s : State) {a : Antenna}
    (h : a ∈ l ∨ (⟨a, y, s.now + 2 * s.window⟩ : Reservation) ∈ s.ct.reservations) :
    (⟨a, y, s.now + 2 * s.window⟩ : Reservation) ∈ (l.foldl (fun s a => s.reserve a y) s).ct.reservations := by
  induction l generalizing s with
  | nil => exact h.resolve_left List.not_mem_nil
  | cons b l ih =>
    rw [List.foldl_cons]
    refine ih (s.reserve b y) ?_
    by_cases same : a = b
    · subst same
      exact .inr (List.mem_append_right _ List.mem_cons_self)
    · refine h.imp (fun mem => (List.mem_cons.1 mem).resolve_left same) fun mem => ?_
      exact List.mem_append_left _ (List.mem_filter.2 ⟨mem, by simpa using same⟩)

theorem serveFirst_kept (s : State) (a : Antenna) : SlotsStay s (s.serveFirst a) ∧ Kept s (s.serveFirst a) := by
  unfold State.serveFirst
  split
  · split
    · exact ⟨serveEntry_slotsStay s _, (serveEntry_moves s _).kept⟩
    · exact ⟨.refl s, .refl s⟩
  · exact ⟨.refl s, .refl s⟩

theorem foldl_serveFirst_kept (l : List Antenna) (s : State) :
    SlotsStay s (l.foldl (fun s a => s.serveFirst a) s) ∧ Kept s (l.foldl (fun s a => s.serveFirst a) s) :=
  List.foldlRecOn (motive := fun t => SlotsStay s t ∧ Kept s t) l _ ⟨.refl s, .refl s⟩ fun t h a _ =>
    ⟨h.1.trans (serveFirst_kept t a).1, h.2.trans (serveFirst_kept t a).2⟩

/-- The entry for an antenna yielded to this part, served where its claim passes the checks (R113). -/
theorem serveFirst_serves {s : State} {a : Antenna} {w : WaitEntry} (waits : s.waitEntry a = some w)
    (free : (s.slot w.slot).cand = none) (agreed : s.pt.disagreement = false)
    (check : s.localCheck w.slot w.antenna w.mask = none) (room : s.lc.queue.length < 8) :
    ((s.serveFirst a).slot w.slot).cand = some ⟨w.antenna, w.mask, .queued, w.waits, none, false⟩ ∧
      ((s.serveFirst a).slot w.slot).held = (s.slot w.slot).held := by
  unfold State.serveFirst
  rw [waits]
  dsimp only
  rw [if_pos (serviceOpen_of_localCheck check)]
  obtain ⟨cand, held, -⟩ := serveEntry_served_slot (e := w) ⟨free, .inl agreed⟩ check room
  exact ⟨cand, held⟩

/-! ### A RELEASE at its receivers -/

theorem yieldGrace_mine {s : State} {y : Position} (l : List Antenna) (h : s.jc.number = some y) :
    s.yieldGrace y l = l.foldl (fun s a => s.serveFirst a) s := if_pos h

theorem yieldGrace_other {s : State} {y : Position} (l : List Antenna) (h : s.jc.number ≠ some y) :
    s.yieldGrace y l = l.foldl (fun s a => s.reserve a y) s := if_neg h

theorem yieldGrace_records (s : State) (y : Position) (l : List Antenna) :
    (s.yieldGrace y l).pt.records = s.pt.records := by
  unfold State.yieldGrace
  split
  · exact (foldl_serveFirst_kept l s).2.records
  · rw [foldl_reserve_viewKept]

theorem releaseHeard_records {s : State} {p : Position} (f : ReleaseFrame) (other : s.jc.number ≠ some p) :
    (State.releaseHeard p f s).pt.records = (s.applyRelease p f).pt.records := by
  have jc : (s.applyRelease p f).jc = s.jc := by rw [applyRelease_rest]; rfl
  obtain ⟨view, -⟩ := senderHeard_pt (s := s.applyRelease p f) (probe := false) (by rw [jc]; exact other)
  unfold State.releaseHeard State.fromPeer
  split
  · rw [view]
  · split
    · rw [yieldGrace_records, view]
    · rw [view]

/-- A RELEASE heard in RUN: its yield grace follows its reading (R113). -/
theorem releaseHeard_of_run {s : State} {p : Position} {f : ReleaseFrame} (run : s.jc.state = .run)
    (other : s.jc.number ≠ some p) (yields : f.yieldValid = true) (names : f.antenna ≠ 0) :
    State.releaseHeard p f s = (s.applyRelease p f).yieldGrace f.yieldTo (s.freedBy p f) := by
  have jc : (s.applyRelease p f).jc = s.jc := by rw [applyRelease_rest]; rfl
  unfold State.releaseHeard
  rw [senderHeard_other (by rw [jc]; exact other) (by rw [jc, run]; exact nofun)]
  unfold State.fromPeer
  rw [if_neg (by simp [State.isOwn, jc, other])]
  refine if_pos ?_
  rw [yields, Bool.true_and, bne_iff_ne]
  exact names

/-! ### A KEY applied and answered (R68, R170) -/

/-- The record after a KEY. -/
def State.keyedRecord (s : State) (f : KeyFrame) (r : PeerRecord) : PeerRecord :=
  { r with keyed := f.on, band := readBand f.band, freq := readFreq f.freq, keyTenure := f.tenure.toNat, headSince := s.now }

theorem applyKey_found {s : State} {p : Position} {r : PeerRecord} (f : KeyFrame) (other : s.jc.number ≠ some p)
    (found : s.pt.find p = some r) : s.applyKey p f = s.putPeer (s.keyedRecord f r) := by
  unfold State.applyKey
  rw [recordFor_found other found]
  rfl

theorem offerKeyAssert_view (s : State) : s.offerKeyAssert.pt = s.pt := by
  unfold State.offerKeyAssert
  split
  · rfl
  · exact (offer_viewKept s _).pt

theorem answerPeerKey_pt (s : State) (p : Position) (f : KeyFrame) : (s.answerPeerKey p f).pt = s.pt := by
  unfold State.answerPeerKey
  repeat' split
  all_goals first
    | rfl
    | exact offerKeyAssert_view s

theorem keyHeard_view {s : State} {p : Position} {r : PeerRecord} (f : KeyFrame) (other : s.jc.number ≠ some p)
    (found : s.pt.find p = some r) : (State.keyHeard p f s).pt = (s.putPeer (s.keyedRecord f r)).pt := by
  obtain ⟨view, -⟩ := senderHeard_pt (s := s.putPeer (s.keyedRecord f r)) (probe := false) other
  unfold State.keyHeard State.fromPeer
  rw [applyKey_found f other found]
  split
  · exact view
  · rw [answerPeerKey_pt, view]

/-- What calls for the answer of an assert KEY (R170). -/
def State.answersKey (s : State) (f : KeyFrame) (r : PeerRecord) : Bool :=
  (s.bandEntry s.fu.band).single && s.fu.band != 0 && r.counted && r.band == s.fu.band && f.on &&
    (!f.isAssert || !s.peerKeyRanksFirst r)

theorem answersKey_iff (s : State) (f : KeyFrame) (r : PeerRecord) :
    s.answersKey f (s.keyedRecord f r) = true ↔
      (s.bandEntry s.fu.band).single = true ∧ s.fu.band ≠ 0 ∧ f.band.toNat = s.fu.band ∧ s.fu.band ≤ 10 ∧
        r.live = true ∧ r.standby = false ∧ f.freq ≠ 1048575 ∧ f.on = true ∧
        (f.isAssert = true → rankBefore f.tenure.toNat (s.peerPriority r) r.pos s.ks.keyTenureLink s.ownPriority s.self =
          false) := by
  have freq : (readFreq f.freq).isSome = true ↔ f.freq ≠ 1048575 := by
    unfold readFreq
    by_cases h : f.freq = 1048575 <;> simp [h]
  have band (h : s.fu.band ≠ 0) : readBand f.band = s.fu.band ↔ f.band.toNat = s.fu.band ∧ s.fu.band ≤ 10 := by
    unfold readBand
    split
    next low => exact ⟨fun e => ⟨e, e ▸ low⟩, And.left⟩
    next high => exact ⟨fun e => absurd e.symm h, fun ⟨e, low⟩ => absurd (e ▸ low) high⟩
  have rank : s.peerKeyRanksFirst (s.keyedRecord f r) =
      rankBefore f.tenure.toNat (s.peerPriority r) r.pos s.ks.keyTenureLink s.ownPriority s.self := rfl
  have counted : (s.keyedRecord f r).counted = (r.live && !r.standby && (readFreq f.freq).isSome) := rfl
  have onBand : (s.keyedRecord f r).band = readBand f.band := rfl
  unfold State.answersKey
  rw [rank, counted, onBand]
  simp only [Bool.and_eq_true, Bool.or_eq_true, Bool.not_eq_true', bne_iff_ne, beq_iff_eq, freq]
  constructor
  · rintro ⟨⟨⟨⟨⟨single, some⟩, ⟨live, out⟩, valid⟩, at_⟩, on⟩, first⟩
    obtain ⟨same, low⟩ := (band some).1 at_
    exact ⟨single, some, same, low, live, out, valid, on, fun assert => first.resolve_left (by simp [assert])⟩
  · rintro ⟨single, some, same, low, live, out, valid, on, first⟩
    refine ⟨⟨⟨⟨⟨single, some⟩, ⟨live, out⟩, valid⟩, (band some).2 ⟨same, low⟩⟩, on⟩, ?_⟩
    cases assert : f.isAssert with
    | false => exact .inl rfl
    | true => exact .inr (first assert)

theorem answerPeerKey_eq {s : State} {p : Position} {r : PeerRecord} (f : KeyFrame) (found : s.pt.find p = some r) :
    s.answerPeerKey p f =
      if (s.ks.state = .ampOn ∨ s.ks.state = .transmit) ∧ s.answersKey f r = true then s.offerKeyAssert else s := by
  unfold State.answerPeerKey State.answersKey
  rw [found]
  cases state : s.ks.state <;> simp

/-- The assert KEY offered stands in the queue or is the held offer (R49). -/
theorem offerKeyAssert_stands {s : State} (loud : s.leavingSilently = false) (room : s.lc.queue.length < 8) :
    (flyingIs isKey s.lc.queue = true ∧ s.offerKeyAssert.lc.heldKey = some (s.keyFrame true true s.ks.keyTenure)) ∨
      ∃ e ∈ s.offerKeyAssert.lc.queue, e.inFlight = false ∧ e.frame = s.keyFrame true true s.ks.keyTenure := by
  have eq : s.offerKeyAssert = (s.offerKey (s.keyFrame true true s.ks.keyTenure)).1 := if_neg (by simp [loud])
  obtain ⟨-, taken⟩ := offer_keyOn (s := s) (p := s.self)
    (k := ⟨true, true, bandCode s.fu.band, freqCode s.fu.freq, tenureCode s.ks.keyTenure⟩) rfl (.inl room)
  rw [eq]
  unfold LinkCtl.KeyTaken at taken
  split at taken
  next flown => exact .inl ⟨flown, taken⟩
  next => exact .inr taken

end Sys2Proof.Machine

namespace Sys2Proof.Proofs

open Sys2Proof.Machine

/-- Settles O23. -/
theorem releaseAndKeySetPeerRecord : Obligations.ReleaseAndKeySetPeerRecord := by
  refine ⟨fun p f s r0 good frame other found => ?_, fun p f s r0 frame other found => ?_⟩
  · obtain rfl := pos_of_find found
    have run : exec (.releaseReceived r0.pos f) s =
        .next (commit .nothing s (State.releaseHeard r0.pos f s.heardFrame)) :=
      congrArg (fun u => Host.Outcome.next (commit .nothing s u)) (takeGood_of_frame frame good)
    have applied := applyRelease_found (s := s.heardFrame) f other found
    have records := releaseHeard_records (s := s.heardFrame) f other
    have find (q : Position) : (commit .nothing s (State.releaseHeard r0.pos f s.heardFrame)).pt.find q =
        (s.putPeer (s.releasedRecord f r0)).pt.find q := by
      rw [commit_find]
      unfold PeerTable.find
      rw [records, applied]
      rfl
    obtain ⟨same, out, in_⟩ : _ ∧ _ ∧ _ := ⟨fun e => (releasedEntry_eq s f.antenna.toNat e).1,
      fun e => (releasedEntry_eq s f.antenna.toNat e).2.1, fun e => (releasedEntry_eq s f.antenna.toNat e).2.2⟩
    have self : (s.releasedRecord f r0).entries.get f.slot = (r0.entries.get f.slot).bind (s.releasedEntry f.antenna.toNat) :=
      Slots.get_set_self ..
    refine ⟨_, s.releasedRecord f r0, run, (find _).trans (find_putPeer_self s (s.releasedRecord f r0)), rfl,
      fun none => ?_, fun e at_ => ⟨fun h => ?_, fun h k => ?_, fun h k => ?_⟩,
      fun i hi => Slots.get_set_ne _ _ hi, fun q hq => (find q).trans (find_putPeer_ne s _ hq),
      fun run yields names apart a ha => ?_, fun run yields names mine => ⟨?_, fun w waits free apart room agreed check => ?_⟩⟩
    · rw [self, none]
      rfl
    · rw [self, at_]
      exact same e h
    · rw [self, at_]
      exact out e h k
    · rw [self, at_]
      exact in_ e h k
    · rw [commit_reservations, releaseHeard_of_run (s := s.heardFrame) run other yields names, applied]
      rw [yieldGrace_other (s := s.heardFrame.putPeer (s.heardFrame.releasedRecord f r0)) _ apart]
      refine mem_foldl_reserve _ f.yieldTo (s.heardFrame.putPeer (s.heardFrame.releasedRecord f r0)) (.inl ?_)
      rw [freedBy_eq (s := s.heardFrame) f found]
      obtain rfl | ⟨e, at_, same, mem⟩ := ha
      · exact List.mem_cons_self
      · refine List.mem_cons_of_mem _ ?_
        rw [at_]
        dsimp only
        rw [if_pos same]
        exact mem
    · rw [commit_reservations, releaseHeard_of_run (s := s.heardFrame) run other yields names, applied]
      rw [yieldGrace_mine (s := s.heardFrame.putPeer (s.heardFrame.releasedRecord f r0)) _ mine]
      exact (foldl_serveFirst_kept _ (s.heardFrame.putPeer (s.heardFrame.releasedRecord f r0))).2.reservations
    · obtain ⟨x, hx⟩ : ∃ x, x = s.heardFrame.putPeer (s.heardFrame.releasedRecord f r0) := ⟨_, rfl⟩
      have ct : x.ct = s.ct := hx ▸ rfl
      have slots : x.slot = s.slot := by funext i; exact slot_congr (congrArg _ ct) i
      obtain ⟨rest, heard⟩ : ∃ rest : List Antenna, State.releaseHeard r0.pos f s.heardFrame =
          rest.foldl (fun s a => s.serveFirst a) (x.serveFirst f.antenna.toNat) := by
        rw [releaseHeard_of_run (s := s.heardFrame) run other yields names, applied, ← hx]
        rw [yieldGrace_mine (s := x) _ (hx ▸ mine), freedBy_eq (s := s.heardFrame) f found]
        exact ⟨_, rfl⟩
      have check' : x.localCheck w.slot w.antenna w.mask = none := by
        refine (localCheck_congr ?_ _ _ _).trans check
        rw [hx, applyRelease_found f other found]
        rfl
      obtain ⟨cand, held⟩ := serveFirst_serves (s := x) (a := f.antenna.toNat) (w := w)
        (by unfold State.waitEntry; rw [ct]; exact waits) (by rw [slots]; exact free)
        (hx ▸ disagreement_putPeer (s := s.heardFrame) found rfl rfl agreed) check' (by
          rw [hx]
          exact Nat.lt_succ_of_lt room)
      obtain ⟨first, kept⟩ := serveFirst_kept x f.antenna.toNat
      obtain ⟨others, kept'⟩ := foldl_serveFirst_kept rest (x.serveFirst f.antenna.toNat)
      have whole : Kept x (State.releaseHeard r0.pos f s.heardFrame) := by rw [heard]; exact kept.trans kept'
      have stay : SlotsStay s (State.releaseHeard r0.pos f s.heardFrame) := by
        rw [heard]
        exact ((SlotsStay.of_ct ct).trans first).trans others
      have reacted := commit_slotsStay .nothing (before := s) (s := State.releaseHeard r0.pos f s.heardFrame)
        (by rw [whole.fu, hx]; rfl) (by rw [whole.obligation, hx]; rfl) (fun i old => by
          rw [Bool.eq_false_iff]
          intro on
          rw [slotLive_of_stays stay on] at old
          cases old)
      rw [heard] at reacted
      obtain ⟨record, -⟩ := (others.trans reacted) w.slot
      obtain ⟨c, hc, eq, pace⟩ := record.cand _ cand
      have mark := pace fun h hh => by
        rw [held, slots] at hh
        exact apart h hh
      rw [heard, hc, eq, mark]
  · obtain rfl := pos_of_find found
    have gathering : s.gathering = true := by simpa [State.gathering] using frame
    have run : exec (.keyReceived r0.pos f) s =
        .next (commit (keyNews r0.pos f) s (State.keyHeard r0.pos f s.heardFrame)) := by
      show Host.Outcome.next (commit (if s.gathering then keyNews r0.pos f else .nothing) s
        (s.takeGood (.key f) (State.keyHeard r0.pos f))) = _
      rw [if_pos gathering, takeGood_of_frame frame rfl]
    have view := keyHeard_view (s := s.heardFrame) f other found
    refine ⟨⟨_, run, ?_, fun q hq => ?_⟩, fun running => ⟨_, run, ?_⟩⟩
    · rw [commit_find, view]
      exact find_putPeer_self s.heardFrame (s.heardFrame.keyedRecord f r0)
    · rw [commit_find, view]
      exact find_putPeer_ne s.heardFrame (s.heardFrame.keyedRecord f r0) hq
    · obtain ⟨x, hx⟩ : ∃ x, x = s.heardFrame.putPeer (s.heardFrame.keyedRecord f r0) := ⟨_, rfl⟩
      have at_ : x.pt.find r0.pos = some (s.keyedRecord f r0) := by
        rw [hx]
        exact find_putPeer_self s.heardFrame (s.heardFrame.keyedRecord f r0)
      have heard : State.keyHeard r0.pos f s.heardFrame = x.answerPeerKey r0.pos f := by
        unfold State.keyHeard State.fromPeer
        rw [applyKey_found (s := s.heardFrame) f other found, ← hx,
          senderHeard_other (by rw [hx]; exact other) (by
            rw [hx]
            rintro ⟨probe, -⟩
            cases probe.symm.trans running),
          if_neg (show ¬ x.isOwn r0.pos = true by rw [isOwn_iff, hx]; exact other)]
      have same : x.answersKey f (s.keyedRecord f r0) = s.answersKey f (s.keyedRecord f r0) := hx ▸ rfl
      have state : x.ks.state = s.ks.state := hx ▸ rfl
      have queue : x.lc.queue = s.lc.queue ∧ x.lc.heldKey = s.lc.heldKey := hx ▸ ⟨rfl, rfl⟩
      have frameOf : x.keyFrame true true x.ks.keyTenure = s.keyFrame true true s.ks.keyTenure := hx ▸ rfl
      have loud : x.leavingSilently = false := by
        rw [hx]
        show (s.jc.state == .leaving && _) = false
        rw [running]
        rfl
      rw [heard, answerPeerKey_eq f at_, same, state]
      by_cases calls : (s.ks.state = .ampOn ∨ s.ks.state = .transmit) ∧ s.answersKey f (s.keyedRecord f r0) = true
      · rw [if_pos calls, if_pos ((and_congr_right' (answersKey_iff s f r0)).1 calls)]
        intro room
        have stands := offerKeyAssert_stands loud (by rw [queue.1]; exact room)
        rwa [queue.1, frameOf] at stands
      · rw [if_neg calls, if_neg (mt (and_congr_right' (answersKey_iff s f r0)).2 calls)]
        exact queue

end Sys2Proof.Proofs

/-! SUPPORT. A peer's entry judged against one slot (6.3 to 6.5, 7.3). -/

namespace Sys2Proof.Machine

/-! ### What the judging reads -/

section
variable {s t : State} (h : ViewKept s t)
include h

theorem ViewKept.uses : t.uses = s.uses := by
  funext a m
  simp only [State.uses, State.membersOf, State.groupOf, h.ps]

theorem ViewKept.membersOf : t.membersOf = s.membersOf := by
  funext a m
  simp only [State.membersOf, State.groupOf, h.ps]

theorem ViewKept.entryHolds : t.entryHolds = s.entryHolds := by
  funext e a
  simp only [State.entryHolds, h.uses]

theorem ViewKept.holders : t.holders = s.holders := by
  funext a
  simp only [State.holders, State.peerHolds, h.entryHolds, h.pt]

theorem ViewKept.capacity : t.capacity = s.capacity := by
  funext a
  simp only [State.capacity, State.antenna, h.ps]

theorem ViewKept.available : t.available = s.available := by
  funext a
  unfold State.available State.holderCount
  rw [h.holders, h.capacity]

theorem ViewKept.filled : t.filled = s.filled := by
  funext x l
  simp only [State.filled, h.available]

theorem ViewKept.row : t.row = s.row := by
  funext p
  simp only [State.row, h.ps]

theorem ViewKept.losesRank {x y : HeldPart} (link : y.tenureLink = x.tenureLink) (a : Antenna) :
    t.losesRank y a = s.losesRank x a := by
  have priority : t.peerPriority = s.peerPriority := by
    funext r
    simp only [State.peerPriority, h.row]
  have own : t.ownPriority = s.ownPriority := by
    unfold State.ownPriority State.ownRow
    rw [h.jc, h.row]
  have self : t.self = s.self := by
    unfold State.self
    rw [h.jc]
  have tenure : t.peerTenure = s.peerTenure := by
    unfold State.peerTenure
    rw [h.entryHolds]
  unfold State.losesRank State.ranksBefore
  rw [h.available, h.capacity, h.holders, priority, own, self, tenure, link]

theorem ViewKept.claimFrame (i : Slot) (a : Antenna) (m : Mask) (b : Bool) (n : Nat) :
    t.claimFrame i a m b n = s.claimFrame i a m b n := claimFrame_congr h.jc h.ps i a m b n

end

theorem filled_iff (s : State) (touched l : List Antenna) :
    s.filled touched l = true ↔ ∃ a ∈ l, a ∈ touched ∧ s.available a = false := by
  simp [State.filled]

/-- The part's hold has lost an antenna by rank, the ranks spelled out (R108). -/
theorem losesRank_iff (s : State) (h : HeldPart) (a : Antenna) :
    s.losesRank h a = true ↔ s.available a = false ∧ s.capacity a ≤
      ((s.holders a).filter (fun r => decide (h.tenureLink < s.peerTenure r a) ||
        (s.peerTenure r a == h.tenureLink && (decide ((s.peerPriority r).toNat < s.ownPriority.toNat) ||
          (s.peerPriority r == s.ownPriority && decide (r.pos.toNat < s.self.toNat)))))).length := by
  unfold State.losesRank State.ranksBefore rankBefore
  simp only [Bool.and_eq_true, Bool.not_eq_true', decide_eq_true_eq]

/-! ### The queue thinned by a withdrawal (R51) -/

/-- Frames may have gone from the queue and flights may have been marked; none has come. -/
structure Thinned (s t : State) : Prop where
  length : t.lc.queue.length ≤ s.lc.queue.length
  unsent : ∀ e ∈ t.lc.queue, e.inFlight = false → e ∈ s.lc.queue
  flying : ∀ e ∈ t.lc.queue, e.inFlight = true →
    ∃ x ∈ s.lc.queue, x.inFlight = true ∧ x.frame = e.frame ∧ (x.withdraw = true → e.withdraw = true)

theorem Thinned.of_lc {s t : State} (h : t.lc = s.lc) : Thinned s t := by
  refine ⟨by rw [h], fun e he _ => h ▸ he, fun e he fly => ⟨e, h ▸ he, fly, rfl, id⟩⟩

theorem Thinned.trans {s t u : State} (h : Thinned s t) (k : Thinned t u) : Thinned s u := by
  refine ⟨k.length.trans h.length, fun e he idle => h.unsent e (k.unsent e he idle) idle, fun e he fly => ?_⟩
  obtain ⟨x, hx, flyx, framex, markx⟩ := k.flying e he fly
  obtain ⟨y, hy, flyy, framey, marky⟩ := h.flying x hx flyx
  exact ⟨y, hy, flyy, framey.trans framex, markx ∘ marky⟩

/-- A frame of the thinned queue, with what a withdrawal of some frames leaves of it. -/
theorem mem_withdraw {lc : LinkCtl} {p : LinkFrame → Bool} {e : QueueEntry} (h : e ∈ (lc.withdraw p).queue) :
    ∃ x ∈ lc.queue, x.inFlight = e.inFlight ∧ x.frame = e.frame ∧ (x.withdraw = true → e.withdraw = true) ∧
      (e.inFlight = false → x = e ∧ p e.frame = false) ∧ (e.inFlight = true → p e.frame = true → e.withdraw = true) := by
  obtain ⟨x, hx, rfl⟩ := List.mem_map.1 h
  obtain ⟨mem, kept⟩ := List.mem_filter.1 hx
  by_cases flown : (x.inFlight && p x.frame) = true
  · rw [if_pos flown]
    obtain ⟨fly, -⟩ := Bool.and_eq_true_iff.1 flown
    refine ⟨x, mem, rfl, rfl, fun _ => rfl, fun idle => ?_, fun _ _ => rfl⟩
    rw [show x.inFlight = false from idle] at fly
    cases fly
  · rw [if_neg flown]
    refine ⟨x, mem, rfl, rfl, id, fun idle => ⟨rfl, by simpa [idle] using kept⟩, fun fly out => ?_⟩
    rw [fly, out] at flown
    exact absurd rfl flown

theorem withdraw_thinned (s : State) (p : LinkFrame → Bool) : Thinned s (s.withdraw p) := by
  refine ⟨?_, fun e he idle => ?_, fun e he fly => ?_⟩
  · exact (List.length_map _).trans_le (dropUnsent_length_le _ _)
  · obtain ⟨x, hx, -, -, -, same, -⟩ := mem_withdraw he
    obtain ⟨rfl, -⟩ := same idle
    exact hx
  · obtain ⟨x, hx, flight, frame, mark, -⟩ := mem_withdraw he
    exact ⟨x, hx, flight.trans fly, frame, mark⟩

/-- A withdrawal of other frames leaves an unsent frame unsent. -/
theorem unsent_withdraw_other {lc : LinkCtl} {p q : LinkFrame → Bool} (apart : ∀ f, q f = true → p f = false)
    (h : (unsent q lc.queue).isSome = true) : (unsent q (lc.withdraw p).queue).isSome = true := by
  obtain ⟨e, he, idle, hq⟩ := unsent_isSome.1 h
  refine unsent_isSome.2 ⟨e, List.mem_map.2 ⟨e, List.mem_filter.2 ⟨he, ?_⟩, ?_⟩, idle, hq⟩
  · rw [apart _ hq, Bool.not_false, Bool.or_true]
  · rw [if_neg (by simp [idle])]

theorem isClaimFor_of_plain {i : Slot} {a : Antenna} {f : LinkFrame} (h : isPlainClaimFor i a f = true) :
    isClaimFor i a f = true := by
  unfold isPlainClaimFor at h
  unfold isClaimFor
  split at h
  · exact (Bool.and_eq_true_iff.1 h).1
  · cases h

theorem isClaimFor_other {i : Slot} {a b : Antenna} {f : LinkFrame} (h : isClaimFor i a f = true) (apart : b ≠ a) :
    isClaimFor i b f = false := by
  unfold isClaimFor at h ⊢
  split at h
  · obtain ⟨-, same⟩ := Bool.and_eq_true_iff.1 h
    rw [beq_iff_eq] at same
    rw [same]
    simp [apart.symm]
  · cases h

/-! ### A QUEUED candidate judged (R102) -/

/-- The candidate with wait mode read and its CLAIM withdrawn. -/
def State.candRead (s : State) (i : Slot) (c : Candidate) : State :=
  (s.withdraw (isPlainClaimFor i c.antenna)).setSlot i { s.slot i with cand := some { c with readWait := s.pi.waitMode } }

theorem judgeQueued_of_not {s : State} {touched : List Antenna} {i : Slot}
    (h : ∀ c, (s.slot i).cand = some c → c.phase = .queued → s.filled touched (s.uses c.antenna c.mask) = false) :
    s.judgeQueued touched i = s := by
  unfold State.judgeQueued
  split
  next c hc =>
    refine if_neg fun ⟨queued, filled⟩ => ?_
    rw [h c hc queued] at filled
    cases filled
  next => rfl

theorem judgeQueued_of_filled {s : State} {touched : List Antenna} {i : Slot} {c : Candidate}
    (cand : (s.slot i).cand = some c) (queued : c.phase = .queued)
    (filled : s.filled touched (s.uses c.antenna c.mask) = true) :
    s.judgeQueued touched i =
      if (unsent (isPlainClaimFor i c.antenna) s.lc.queue).isSome = true then
        (s.candRead i c).candidateWithdrawn i { c with readWait := s.pi.waitMode }
      else s.candRead i c := by
  unfold State.judgeQueued
  rw [cand]
  exact if_pos ⟨queued, filled⟩

theorem placeWait_room {s : State} (e : WaitEntry) (room : s.ct.waitList.length < 4) :
    s.placeWait e = (s.setCt { s.ct with waitList := s.ct.waitList ++ [e] }, .waiting) := if_pos room

theorem placeWait_rest (s : State) (e : WaitEntry) :
    (s.placeWait e).1.ct.slots = s.ct.slots ∧ (s.placeWait e).1.lc = s.lc := by
  unfold State.placeWait
  split <;> exact ⟨rfl, rfl⟩

/-- A candidate withdrawn leaves its slot; it waits where it may (R102). -/
theorem candidateWithdrawn_fields (s : State) (i : Slot) (c : Candidate) :
    (s.candidateWithdrawn i c).slot i = { s.slot i with cand := none } ∧
      (s.candidateWithdrawn i c).lc = s.lc ∧
      (c.waits = true ∨ c.readWait = true → s.ct.waitList.length < 4 →
        (s.candidateWithdrawn i c).ct.waitList = s.ct.waitList ++ [⟨c.antenna, i, c.mask, c.waits⟩]) ∧
      (c.waits = false → c.readWait = false → (s.candidateWithdrawn i c).ct.waitList = s.ct.waitList) := by
  obtain ⟨slots, lc⟩ := placeWait_rest (s.setSlot i { s.slot i with cand := none }) ⟨c.antenna, i, c.mask, c.waits⟩
  unfold State.candidateWithdrawn
  dsimp only
  split
  next waits =>
    refine ⟨?_, ?_, fun _ room => ?_, fun off off' => ?_⟩
    · refine Eq.trans (b := (((s.setSlot i { s.slot i with cand := none }).placeWait ⟨c.antenna, i, c.mask, c.waits⟩).1).slot i) ?_ ?_
      · split <;> rfl
      · exact (slot_congr slots i).trans (slot_setSlot_self _ _ _)
    · split <;> exact lc
    · have eq := placeWait_room (s := s.setSlot i { s.slot i with cand := none }) ⟨c.antenna, i, c.mask, c.waits⟩ room
      rw [eq, if_pos rfl]
      rfl
    · rw [off, off'] at waits
      cases waits
  next still =>
    refine ⟨slot_setSlot_self _ _ _, rfl, fun waits _ => ?_, fun _ _ => rfl⟩
    simp only [Bool.or_eq_true] at still
    exact absurd waits still

/-- The judging of a QUEUED candidate touches its candidate, its CLAIM and the wait list alone. -/
theorem judgeQueued_rest (s : State) (touched : List Antenna) (i : Slot) :
    ((s.judgeQueued touched i).slot i).held = (s.slot i).held ∧
      ((s.judgeQueued touched i).slot i).freeing = (s.slot i).freeing ∧ Thinned s (s.judgeQueued touched i) := by
  have read (c : Candidate) : ((s.candRead i c).slot i).held = (s.slot i).held ∧
      ((s.candRead i c).slot i).freeing = (s.slot i).freeing ∧ Thinned s (s.candRead i c) := by
    refine ⟨?_, ?_, (withdraw_thinned s (isPlainClaimFor i c.antenna)).trans (.of_lc rfl)⟩
    all_goals
      unfold State.candRead
      rw [slot_setSlot_self]
  by_cases h : ∀ c, (s.slot i).cand = some c → c.phase = .queued → s.filled touched (s.uses c.antenna c.mask) = false
  · rw [judgeQueued_of_not h]
    exact ⟨rfl, rfl, .of_lc rfl⟩
  · obtain ⟨c, cand, queued, filled⟩ : ∃ c, (s.slot i).cand = some c ∧ c.phase = .queued ∧
        s.filled touched (s.uses c.antenna c.mask) = true := by simpa using h
    obtain ⟨held, freeing, thin⟩ := read c
    rw [judgeQueued_of_filled cand queued filled]
    split
    · obtain ⟨slot, lc, -, -⟩ := candidateWithdrawn_fields (s.candRead i c) i { c with readWait := s.pi.waitMode }
      rw [slot]
      exact ⟨held, freeing, thin.trans (.of_lc lc)⟩
    · exact ⟨held, freeing, thin⟩

/-! ### A QUEUED grow judged (R125) -/

theorem judgeQueuedGrow_of_not {s : State} {touched : List Antenna} {i : Slot}
    (h : ∀ x g, (s.slot i).held = some x → x.grow = some g → g.phase = .queued →
      s.filled touched (s.membersOf x.antenna (g.mask &&& ~~~x.mask)) = false) :
    s.judgeQueuedGrow touched i = s := by
  unfold State.judgeQueuedGrow
  split
  next x hx =>
    split
    next g hg =>
      refine if_neg fun ⟨queued, filled⟩ => ?_
      rw [h x g hx hg queued] at filled
      cases filled
    next => rfl
  next => rfl

theorem judgeQueuedGrow_of_filled {s : State} {touched : List Antenna} {i : Slot} {x : HeldPart} {g : Grow}
    (held : (s.slot i).held = some x) (grow : x.grow = some g) (queued : g.phase = .queued)
    (filled : s.filled touched (s.membersOf x.antenna (g.mask &&& ~~~x.mask)) = true) :
    s.judgeQueuedGrow touched i =
      if (unsent (isPlainClaimFor i x.antenna) s.lc.queue).isSome = true then
        (s.withdraw (isPlainClaimFor i x.antenna)).growWithdrawn i x g
      else s.withdraw (isPlainClaimFor i x.antenna) := by
  unfold State.judgeQueuedGrow
  rw [held]
  dsimp only
  rw [grow]
  exact if_pos ⟨queued, filled⟩

theorem growWithdrawn_slot (s : State) (i : Slot) (h : HeldPart) (g : Grow) :
    (s.growWithdrawn i h g).slot i = { s.slot i with held := some { h with grow := none } } := slot_setSlot_self _ _ _

/-- The judging of a QUEUED grow touches the grow and its CLAIM alone. -/
theorem judgeQueuedGrow_rest (s : State) (touched : List Antenna) (i : Slot) :
    ((s.judgeQueuedGrow touched i).slot i).cand = (s.slot i).cand ∧
      ((s.judgeQueuedGrow touched i).slot i).freeing = (s.slot i).freeing ∧
      (s.judgeQueuedGrow touched i).ct.waitList = s.ct.waitList ∧ Thinned s (s.judgeQueuedGrow touched i) ∧
      ∀ x, (s.slot i).held = some x → ∃ g, ((s.judgeQueuedGrow touched i).slot i).held = some { x with grow := g } ∧
        (g = x.grow ∨ g = none) := by
  by_cases h : ∀ x g, (s.slot i).held = some x → x.grow = some g → g.phase = .queued →
      s.filled touched (s.membersOf x.antenna (g.mask &&& ~~~x.mask)) = false
  · rw [judgeQueuedGrow_of_not h]
    exact ⟨rfl, rfl, rfl, .of_lc rfl, fun x hx => ⟨x.grow, hx, .inl rfl⟩⟩
  · obtain ⟨x, held, g, grow, queued, filled⟩ : ∃ x, (s.slot i).held = some x ∧ ∃ g, x.grow = some g ∧ g.phase = .queued ∧
        s.filled touched (s.membersOf x.antenna (g.mask &&& ~~~x.mask)) = true := by simpa using h
    have thin := withdraw_thinned s (isPlainClaimFor i x.antenna)
    rw [judgeQueuedGrow_of_filled held grow queued filled]
    split
    · rw [growWithdrawn_slot]
      refine ⟨rfl, rfl, rfl, thin.trans (.of_lc rfl), fun y hy => ⟨none, ?_, .inr rfl⟩⟩
      rw [held] at hy
      cases hy
      rfl
    · exact ⟨rfl, rfl, rfl, thin, fun y hy => ⟨y.grow, hy, .inl rfl⟩⟩

end Sys2Proof.Machine

/-! SUPPORT. What the judging of a WINDOW candidate, a grow and a hold does (6.4, 6.5, 7.3). -/

namespace Sys2Proof.Machine

/-! ### What an assert leaves (R107) -/

/-- The slot's candidate is there as it was, its pacing apart; the queue may hold up to k frames more, none of them
in flight or a plain CLAIM, and has lost none. -/
structure Asserted (i : Slot) (k : Nat) (s t : State) : Prop where
  cand : ∀ c, (s.slot i).cand = some c → ∃ c', (t.slot i).cand = some c' ∧ c' = { c with lastAssert := c'.lastAssert }
  noCand : (s.slot i).cand = none → (t.slot i).cand = none
  waitList : t.ct.waitList = s.ct.waitList
  length : t.lc.queue.length ≤ s.lc.queue.length + k
  stays : ∀ e ∈ s.lc.queue, e ∈ t.lc.queue
  enters : ∀ e ∈ t.lc.queue, e ∈ s.lc.queue ∨ e.inFlight = false ∧ ∀ a, isPlainClaimFor i a e.frame = false

theorem Asserted.of_same {i : Slot} {s t : State} (cand : (t.slot i).cand = (s.slot i).cand)
    (waitList : t.ct.waitList = s.ct.waitList) (lc : t.lc = s.lc) (k : Nat) : Asserted i k s t := by
  refine ⟨fun c hc => ⟨c, cand.trans hc, rfl⟩, cand.trans, waitList, ?_, fun e he => lc ▸ he, fun e he => .inl (lc ▸ he)⟩
  rw [lc]
  exact Nat.le_add_right _ _

theorem Asserted.refl (i : Slot) (k : Nat) (s : State) : Asserted i k s s := .of_same rfl rfl rfl k

theorem Asserted.trans {i : Slot} {j k : Nat} {s t u : State} (h : Asserted i j s t) (g : Asserted i k t u) :
    Asserted i (j + k) s u := by
  refine ⟨fun c hc => ?_, g.noCand ∘ h.noCand, g.waitList.trans h.waitList, ?_, fun e he => g.stays e (h.stays e he),
    fun e he => ?_⟩
  · obtain ⟨x, hx, eqx⟩ := h.cand c hc
    obtain ⟨y, hy, eqy⟩ := g.cand x hx
    exact ⟨y, hy, by rw [eqy, eqx]⟩
  · exact g.length.trans (by rw [← Nat.add_assoc]; exact Nat.add_le_add_right h.length k)
  · obtain old | new := g.enters e he
    · exact h.enters e old
    · exact .inr new

/-- With room, an assert CLAIM enters the queue and its slot is paced (R107). -/
theorem offerAssert_eq {s : State} (i : Slot) (a : Antenna) (m : Mask) (n : Nat) (room : s.lc.queue.length < 8) :
    s.offerAssert i a m n =
      (s.setLc { s.lc with queue := enqueue ⟨s.claimFrame i a m true n, false, false⟩ s.lc.queue }).setSlot i
        ((s.slot i).paced a s.now) := by
  unfold State.offerAssert
  rw [offer_enters (claimFrame_noKin _ s i a m true n) room]
  exact if_neg nofun

theorem offerAssert_paced {s : State} (i : Slot) (a : Antenna) (m : Mask) (n : Nat) (room : s.lc.queue.length < 8) :
    (s.offerAssert i a m n).slot i = (s.slot i).paced a s.now := by
  rw [offerAssert_eq i a m n room, slot_setSlot_self]

theorem offerAssert_queue {s : State} (i : Slot) (a : Antenna) (m : Mask) (n : Nat) (room : s.lc.queue.length < 8) :
    (s.offerAssert i a m n).lc.queue = enqueue ⟨s.claimFrame i a m true n, false, false⟩ s.lc.queue := by
  rw [offerAssert_eq i a m n room]
  rfl

theorem paced_cand {r : SlotRecord} (a : Antenna) (n : Nat) :
    (r.cand = none → (r.paced a n).cand = none) ∧
    ∀ c, r.cand = some c → ∃ c', (r.paced a n).cand = some c' ∧ c' = { c with lastAssert := c'.lastAssert } := by
  refine ⟨fun none => by simp [SlotRecord.paced, none], fun c hc => ?_⟩
  refine ⟨if c.antenna = a then { c with lastAssert := some n } else c, by simp [SlotRecord.paced, hc], ?_⟩
  split <;> rfl

/-- The pacing of another antenna leaves a hold as it was. -/
theorem paced_held_other {r : SlotRecord} {h : HeldPart} {a : Antenna} (n : Nat) (held : r.held = some h)
    (apart : h.antenna ≠ a) : (r.paced a n).held = some h := by
  simp [SlotRecord.paced, held, apart]

theorem offerAssert_asserted {s : State} (i : Slot) (a : Antenna) (m : Mask) (n : Nat) (room : s.lc.queue.length < 8) :
    Asserted i 1 s (s.offerAssert i a m n) := by
  obtain ⟨none, some⟩ := paced_cand (r := s.slot i) a s.now
  refine ⟨?_, ?_, offerAssert_waitList s i a m n, ?_, fun e he => ?_, fun e he => ?_⟩
  · rw [offerAssert_paced i a m n room]
    exact some
  · rw [offerAssert_paced i a m n room]
    exact none
  · rw [offerAssert_queue i a m n room, enqueue_length]
  · rw [offerAssert_queue i a m n room]
    exact mem_enqueue.2 (.inr he)
  · rw [offerAssert_queue i a m n room] at he
    obtain rfl | old := mem_enqueue.1 he
    · exact .inr ⟨rfl, fun b => by simp [isPlainClaimFor, State.claimFrame]⟩
    · exact .inl old

/-! ### A WINDOW candidate judged (R104, R107) -/

theorem judgeWindow_of_not {s : State} {touched : List Antenna} {n : News} {i : Slot}
    (h : ∀ c due, (s.slot i).cand = some c → c.phase ≠ .window due) : s.judgeWindow touched n i = s := by
  unfold State.judgeWindow
  split
  next c hc =>
    split
    next => rfl
    next due hp => exact absurd hp (h c due hc)
  next => rfl

theorem judgeWindow_of_window {s : State} {touched : List Antenna} {n : News} {i : Slot} {c : Candidate} {due : Nat}
    (cand : (s.slot i).cand = some c) (window : c.phase = .window due) :
    s.judgeWindow touched n i =
      if s.filled touched (s.uses c.antenna c.mask) = true then
        if n.strong = true then s.dropCandidate i .lost
        else if (n.late && s.mayAssert i c.antenna c.lastAssert) = true then s.offerAssert i c.antenna c.mask 0
        else s
      else s := by
  unfold State.judgeWindow
  rw [cand]
  dsimp only
  rw [window]

/-- A WINDOW candidate that is not defeated stays, its pacing apart (R104, R107). -/
theorem judgeWindow_asserted {s : State} {touched : List Antenna} {n : News} {i : Slot} (room : s.lc.queue.length < 8)
    (h : ∀ c due, (s.slot i).cand = some c → c.phase = .window due →
      ¬ (s.filled touched (s.uses c.antenna c.mask) = true ∧ n.strong = true)) :
    Asserted i 1 s (s.judgeWindow touched n i) := by
  by_cases window : ∃ c due, (s.slot i).cand = some c ∧ c.phase = .window due
  · obtain ⟨c, due, cand, window⟩ := window
    rw [judgeWindow_of_window cand window]
    have stands := h c due cand window
    split
    next filled =>
      rw [if_neg fun strong => stands ⟨filled, strong⟩]
      split
      · exact offerAssert_asserted i c.antenna c.mask 0 room
      · exact .refl i 1 s
    next => exact .refl i 1 s
  · rw [judgeWindow_of_not fun c due cand phase => window ⟨c, due, cand, phase⟩]
    exact .refl i 1 s

/-- A defeated WINDOW candidate goes, its RELEASE offered (R104). -/
theorem dropCandidate_lost {s : State} {i : Slot} {c : Candidate} {due : Nat} (cand : (s.slot i).cand = some c)
    (window : c.phase = .window due) (small : c.antenna ≤ 32) (room : s.lc.queue.length < 8) :
    ((s.dropCandidate i .lost).slot i).cand = none ∧ (s.dropCandidate i .lost).lc.queue.length ≤ s.lc.queue.length + 1 ∧
      (s.leavingSilently = false →
        ∃ e ∈ (s.dropCandidate i .lost).lc.queue, e.frame = s.releaseFrame i c.antenna .lost none) := by
  have eq : s.dropCandidate i .lost =
      ((s.setSlot i { s.slot i with cand := none }).offerRelease i c.antenna .lost none).1 := by
    unfold State.dropCandidate
    rw [cand]
    dsimp only
    rw [window]
  refine ⟨?_, (dropCandidate_frame s i .lost).2.2.2.2.1, fun loud => ?_⟩
  · rw [dropCandidate_slot_self]
  · rw [eq, offerRelease_room (s := s.setSlot i { s.slot i with cand := none }) .lost none loud
      (Nat.le_trans small (by decide)) room]
    exact ⟨⟨s.releaseFrame i c.antenna .lost none, false, false⟩, mem_enqueue.2 (.inl rfl), rfl⟩

/-- What the judging of a WINDOW candidate leaves of the slot's hold and freeing parts. -/
theorem judgeWindow_rest {s : State} (touched : List Antenna) (n : News) (i : Slot) (room : s.lc.queue.length < 8) :
    ((s.judgeWindow touched n i).slot i).freeing = (s.slot i).freeing ∧
      ∀ h, (s.slot i).held = some h → ∃ h', ((s.judgeWindow touched n i).slot i).held = some h' ∧
        h' = { h with lastAssert := h'.lastAssert } ∧
        ((∀ c, (s.slot i).cand = some c → c.antenna ≠ h.antenna) → h' = h) := by
  by_cases window : ∃ c due, (s.slot i).cand = some c ∧ c.phase = .window due
  · obtain ⟨c, due, cand, window⟩ := window
    rw [judgeWindow_of_window cand window]
    repeat' split
    · rw [dropCandidate_slot_self]
      exact ⟨rfl, fun h hh => ⟨h, hh, rfl, fun _ => rfl⟩⟩
    · rw [offerAssert_paced i c.antenna c.mask 0 room]
      refine ⟨rfl, fun h hh => ?_⟩
      obtain ⟨h', held, eq⟩ := paced_held c.antenna s.now hh
      refine ⟨h', held, eq, fun apart => ?_⟩
      rw [paced_held_other s.now hh (apart c cand).symm] at held
      exact (Option.some.inj held).symm
    · exact ⟨rfl, fun h hh => ⟨h, hh, rfl, fun _ => rfl⟩⟩
    · exact ⟨rfl, fun h hh => ⟨h, hh, rfl, fun _ => rfl⟩⟩
  · rw [judgeWindow_of_not fun c due cand phase => window ⟨c, due, cand, phase⟩]
    exact ⟨rfl, fun h hh => ⟨h, hh, rfl, fun _ => rfl⟩⟩

/-! ### A grow in WINDOW judged (R126) -/

theorem judgeGrow_of_not {s : State} {touched : List Antenna} {n : News} {i : Slot}
    (h : ∀ x m due after, (s.slot i).held = some x → x.grow ≠ some ⟨m, .window due, after⟩) :
    s.judgeGrow touched n i = s := by
  unfold State.judgeGrow
  split
  next x hx =>
    split
    next m due after hg => exact absurd hg (h x m due after hx)
    next => rfl
  next => rfl

theorem judgeGrow_of_window {s : State} {touched : List Antenna} {n : News} {i : Slot} {x : HeldPart} {m : Mask}
    {due : Nat} {after : Option Mask} (held : (s.slot i).held = some x) (grow : x.grow = some ⟨m, .window due, after⟩) :
    s.judgeGrow touched n i =
      if s.filled touched (s.membersOf x.antenna (m &&& ~~~x.mask)) = true then
        if n.strong = true then s.growLost i x
        else if (n.late && s.mayAssert i x.antenna x.lastAssert) = true then s.offerAssert i x.antenna m 0
        else s
      else s := by
  unfold State.judgeGrow
  rw [held]
  dsimp only
  rw [grow]

theorem setSlot_asserted (s : State) (i : Slot) {r : SlotRecord} (h : r.cand = (s.slot i).cand) :
    Asserted i 0 s (s.setSlot i r) := by
  have cand : ((s.setSlot i r).slot i).cand = (s.slot i).cand := by rw [slot_setSlot_self, h]
  exact .of_same cand rfl rfl 0

theorem growLost_asserted {s : State} {i : Slot} {x : HeldPart} (room : s.lc.queue.length < 8) :
    Asserted i 1 s (s.growLost i x) := by
  have emptied : Asserted i 0 s (s.setSlot i { s.slot i with held := some { x with grow := none } }) :=
    setSlot_asserted s i rfl
  exact emptied.trans (offerAssert_asserted (s := s.setSlot i { s.slot i with held := some { x with grow := none } }) i
    x.antenna x.mask x.tenure room)

/-- What the judging of a grow in WINDOW leaves: an assert at most, and the hold with its grow or without. -/
theorem judgeGrow_rest {s : State} (touched : List Antenna) (n : News) (i : Slot) (room : s.lc.queue.length < 8) :
    Asserted i 1 s (s.judgeGrow touched n i) ∧ ((s.judgeGrow touched n i).slot i).freeing = (s.slot i).freeing ∧
      ∀ x, (s.slot i).held = some x → ∃ y, ((s.judgeGrow touched n i).slot i).held = some y ∧
        y = { x with grow := y.grow, lastAssert := y.lastAssert } ∧ (y.grow = x.grow ∨ y.grow = none) ∧
        (∀ m due after, x.grow = some ⟨m, .window due, after⟩ →
          s.filled touched (s.membersOf x.antenna (m &&& ~~~x.mask)) = true → n.strong = true → y.grow = none) ∧
        (∀ m phase after, x.grow = some ⟨m, phase, after⟩ →
          s.filled touched (s.membersOf x.antenna (m &&& ~~~x.mask)) = false → y.grow = x.grow) := by
  by_cases window : ∃ x m due after, (s.slot i).held = some x ∧ x.grow = some ⟨m, .window due, after⟩
  · obtain ⟨x, m, due, after, held, grow⟩ := window
    have only (y : HeldPart) (hy : (s.slot i).held = some y) : y = x := Option.some.inj (hy.symm.trans held)
    rw [judgeGrow_of_window held grow]
    by_cases filled : s.filled touched (s.membersOf x.antenna (m &&& ~~~x.mask)) = true
    · rw [if_pos filled]
      by_cases strong : n.strong = true
      · rw [if_pos strong]
        have slot : (s.growLost i x).slot i =
            ({ s.slot i with held := some { x with grow := none } } : SlotRecord).paced x.antenna s.now := by
          unfold State.growLost
          dsimp only
          rw [offerAssert_paced (s := s.setSlot i { s.slot i with held := some { x with grow := none } }) i x.antenna x.mask
            x.tenure room, slot_setSlot_self]
          rfl
        refine ⟨growLost_asserted room, by rw [slot]; rfl, fun y hy => ?_⟩
        obtain rfl := only y hy
        obtain ⟨z, hz, eq⟩ := paced_held (r := { s.slot i with held := some { y with grow := none } }) y.antenna s.now rfl
        have none : z.grow = none := by rw [eq]
        refine ⟨z, by rw [slot]; exact hz, by rw [eq], .inr none, fun _ _ _ _ _ _ => none, fun m' phase after' same out => ?_⟩
        rw [grow] at same
        cases same
        rw [filled] at out
        cases out
      · rw [if_neg strong]
        have paced (t : State) (h : t = s.offerAssert i x.antenna m 0 ∨ t = s) : Asserted i 1 s t ∧
            (t.slot i).freeing = (s.slot i).freeing ∧ ∃ y, (t.slot i).held = some y ∧ y = { x with lastAssert := y.lastAssert } := by
          obtain rfl | rfl := h
          · rw [offerAssert_paced i x.antenna m 0 room]
            exact ⟨offerAssert_asserted i x.antenna m 0 room, rfl, paced_held x.antenna s.now held⟩
          · exact ⟨.refl i 1 t, rfl, x, held, rfl⟩
        obtain ⟨asserted, freeing, z, hz, eq⟩ := paced
          (if (n.late && s.mayAssert i x.antenna x.lastAssert) = true then s.offerAssert i x.antenna m 0 else s) (by
            split
            · exact .inl rfl
            · exact .inr rfl)
        refine ⟨asserted, freeing, fun y hy => ?_⟩
        obtain rfl := only y hy
        have same : z.grow = y.grow := by rw [eq]
        exact ⟨z, hz, by rw [eq], .inl same, fun _ _ _ _ _ on => absurd on strong, fun _ _ _ _ _ => same⟩
    · rw [if_neg filled]
      refine ⟨.refl i 1 s, rfl, fun y hy => ?_⟩
      obtain rfl := only y hy
      refine ⟨y, hy, rfl, .inl rfl, fun m' due' after' same on _ => ?_, fun _ _ _ _ _ => rfl⟩
      rw [grow] at same
      cases same
      exact absurd on filled
  · rw [judgeGrow_of_not fun x m due after held grow => window ⟨x, m, due, after, held, grow⟩]
    exact ⟨.refl i 1 s, rfl, fun x hx => ⟨x, hx, rfl, .inl rfl,
      fun m due after grow => absurd ⟨x, m, due, after, hx, grow⟩ window, fun _ _ _ _ _ => rfl⟩⟩

/-! ### A hold judged (R107, R108) -/

theorem judgeHeld_of_none {s : State} {touched : List Antenna} {n : News} {i : Slot} (h : (s.slot i).held = none) :
    s.judgeHeld touched n i = s := by
  unfold State.judgeHeld
  rw [h]

theorem judgeHeld_eq {s : State} {touched : List Antenna} {n : News} {i : Slot} {h : HeldPart}
    (held : (s.slot i).held = some h) :
    s.judgeHeld touched n i =
      if n.ranks = true then
        if ((s.uses h.antenna h.mask).filter (fun a => touched.contains a)).any (s.losesRank h) = true then
          s.freeHold i .lost none
        else s
      else if (n.late && ((s.uses h.antenna h.mask).filter (fun a => touched.contains a)).any (fun a => !s.available a) &&
          s.mayAssert i h.antenna h.lastAssert) = true then
        s.offerAssert i h.antenna h.mask h.tenure
      else s := by
  unfold State.judgeHeld
  rw [held]

theorem judgeHeld_asserted {s : State} (touched : List Antenna) (n : News) (i : Slot) (room : s.lc.queue.length < 8) :
    Asserted i 1 s (s.judgeHeld touched n i) := by
  have freed : Asserted i 1 s (s.freeHold i .lost none) := by
    refine .of_same ?_ (freeHold_waitList s i .lost none) (freeHold_claimsOnly s i .lost none).lc 1
    rw [freeHold_slot_self]
  cases held : (s.slot i).held with
  | none =>
    rw [judgeHeld_of_none held]
    exact .refl i 1 s
  | some h =>
    rw [judgeHeld_eq held]
    repeat' split
    · exact freed
    · exact .refl i 1 s
    · exact offerAssert_asserted i h.antenna h.mask h.tenure room
    · exact .refl i 1 s

/-- Some antenna of a hold that an entry touched is lost by rank. -/
theorem losesTouched_iff (s : State) (touched : List Antenna) (h : HeldPart) :
    ((s.uses h.antenna h.mask).filter (fun a => touched.contains a)).any (s.losesRank h) = true ↔
      ∃ a ∈ s.uses h.antenna h.mask, a ∈ touched ∧ s.losesRank h a = true := by
  simp [List.any_filter]

end Sys2Proof.Machine

/-! SUPPORT. A CLAIM of a peer judged at one slot, from its five stages (6.3 to 6.5, 7.3). -/

namespace Sys2Proof.Machine

/-! ### The stages -/

/-- The part once an entry's QUEUED candidate and QUEUED grow have been judged (R102, R125). -/
def State.queuedJudged (s : State) (touched : List Antenna) (i : Slot) : State :=
  (s.judgeQueued touched i).judgeQueuedGrow touched i

/-- The part once the WINDOW candidate has been judged too (R104, R107). -/
def State.windowJudged (s : State) (touched : List Antenna) (n : News) (i : Slot) : State :=
  (s.queuedJudged touched i).judgeWindow touched n i

/-- The part once a grow in WINDOW has been judged too (R126). -/
def State.growJudged (s : State) (touched : List Antenna) (n : News) (i : Slot) : State :=
  (s.windowJudged touched n i).judgeGrow touched n i

theorem judgeSlot_eq (s : State) (touched : List Antenna) (n : News) (i : Slot) :
    s.judgeSlot touched n i = (s.growJudged touched n i).judgeHeld touched n i := rfl

section
variable {s : State} (touched : List Antenna) (n : News) (i : Slot)

theorem queuedJudged_thinned (s : State) : Thinned s (s.queuedJudged touched i) :=
  (judgeQueued_rest s touched i).2.2.trans (judgeQueuedGrow_rest _ touched i).2.2.2.1

theorem queuedJudged_viewKept (s : State) : ViewKept s (s.queuedJudged touched i) :=
  (judgeQueued_viewKept s touched i).trans (judgeQueuedGrow_viewKept _ touched i)

theorem windowJudged_viewKept (s : State) : ViewKept s (s.windowJudged touched n i) :=
  (queuedJudged_viewKept touched i s).trans (judgeWindow_viewKept _ touched n i)

theorem growJudged_viewKept (s : State) : ViewKept s (s.growJudged touched n i) :=
  (windowJudged_viewKept touched n i s).trans (judgeGrow_viewKept _ touched n i)

theorem judgeWindow_length (s : State) (room : s.lc.queue.length < 8) :
    (s.judgeWindow touched n i).lc.queue.length ≤ s.lc.queue.length + 1 := by
  by_cases window : ∃ c due, (s.slot i).cand = some c ∧ c.phase = .window due
  · obtain ⟨c, due, cand, window⟩ := window
    rw [judgeWindow_of_window cand window]
    repeat' split
    · exact (dropCandidate_frame s i .lost).2.2.2.2.1
    · exact (offerAssert_asserted i c.antenna c.mask 0 room).length
    · exact Nat.le_succ _
    · exact Nat.le_succ _
  · rw [judgeWindow_of_not fun c due cand phase => window ⟨c, due, cand, phase⟩]
    exact Nat.le_succ _

variable (room : s.lc.queue.length < 6)
include room

theorem queuedJudged_room : (s.queuedJudged touched i).lc.queue.length < 6 :=
  (queuedJudged_thinned touched i s).length.trans_lt room

theorem windowJudged_room : (s.windowJudged touched n i).lc.queue.length < 7 :=
  (judgeWindow_length touched n i _ ((queuedJudged_room touched i room).trans (by decide))).trans_lt
    (Nat.succ_lt_succ (queuedJudged_room touched i room))

theorem growJudged_asserted : Asserted i 1 (s.windowJudged touched n i) (s.growJudged touched n i) :=
  (judgeGrow_rest touched n i ((windowJudged_room touched n i room).trans (by decide))).1

theorem growJudged_room : (s.growJudged touched n i).lc.queue.length < 8 :=
  (growJudged_asserted touched n i room).length.trans_lt (Nat.succ_lt_succ (windowJudged_room touched n i room))

theorem judgeSlot_asserted : Asserted i 2 (s.windowJudged touched n i) (s.judgeSlot touched n i) :=
  (growJudged_asserted touched n i room).trans (judgeHeld_asserted touched n i (growJudged_room touched n i room))

end

/-! ### A QUEUED candidate (R102) -/

section
variable {s : State} {touched : List Antenna} {n : News} {i : Slot}

theorem queuedJudged_cand (s : State) (touched : List Antenna) (i : Slot) :
    ((s.queuedJudged touched i).slot i).cand = ((s.judgeQueued touched i).slot i).cand :=
  (judgeQueuedGrow_rest _ touched i).1

theorem queuedJudged_waitList (s : State) (touched : List Antenna) (i : Slot) :
    (s.queuedJudged touched i).ct.waitList = (s.judgeQueued touched i).ct.waitList :=
  (judgeQueuedGrow_rest _ touched i).2.2.1

/-- With no WINDOW candidate in the slot only the two last stages follow. -/
theorem judgeSlot_of_noWindow (room : s.lc.queue.length < 6)
    (h : ∀ c due, ((s.judgeQueued touched i).slot i).cand = some c → c.phase ≠ .window due) :
    Asserted i 2 (s.queuedJudged touched i) (s.judgeSlot touched n i) := by
  have still : s.windowJudged touched n i = s.queuedJudged touched i :=
    judgeWindow_of_not (by rw [queuedJudged_cand]; exact h)
  rw [← still]
  exact judgeSlot_asserted touched n i room

variable {c : Candidate} (room : s.lc.queue.length < 6) (cand : (s.slot i).cand = some c) (queued : c.phase = .queued)
include room cand queued

/-- One the entry does not fill stays. -/
theorem judgeSlot_queued_stays (open_ : s.filled touched (s.uses c.antenna c.mask) = false) :
    ∃ c', ((s.judgeSlot touched n i).slot i).cand = some c' ∧ c' = { c with lastAssert := c'.lastAssert } := by
  have same : s.judgeQueued touched i = s := judgeQueued_of_not fun x hx _ => by
    rw [cand] at hx
    cases hx
    exact open_
  refine (judgeSlot_of_noWindow (n := n) room fun x due hx phase => ?_).cand c ?_
  · rw [same, cand] at hx
    cases hx
    rw [queued] at phase
    cases phase
  · rw [queuedJudged_cand, same, cand]

/-- One it fills with its CLAIM in flight has wait mode read, and the flight is marked. -/
theorem judgeSlot_queued_read (filled : s.filled touched (s.uses c.antenna c.mask) = true)
    (flown : unsent (isPlainClaimFor i c.antenna) s.lc.queue = none) :
    (∃ c', ((s.judgeSlot touched n i).slot i).cand = some c' ∧
      c' = { c with readWait := s.pi.waitMode, lastAssert := c'.lastAssert }) ∧
    ∀ e ∈ (s.judgeSlot touched n i).lc.queue, e.inFlight = true → isPlainClaimFor i c.antenna e.frame = true →
      e.withdraw = true := by
  have read : s.judgeQueued touched i = s.candRead i c := by
    rw [judgeQueued_of_filled cand queued filled, flown]
    rfl
  have now : ((s.judgeQueued touched i).slot i).cand = some { c with readWait := s.pi.waitMode } := by
    rw [read]
    exact congrArg SlotRecord.cand (slot_setSlot_self _ i _)
  have rest : Asserted i 2 (s.queuedJudged touched i) (s.judgeSlot touched n i) :=
    judgeSlot_of_noWindow room fun x due hx phase => by
      rw [now] at hx
      cases hx
      rw [show ({ c with readWait := s.pi.waitMode } : Candidate).phase = .queued from queued] at phase
      cases phase
  refine ⟨rest.cand _ ((queuedJudged_cand s touched i).trans now), fun e he fly plain => ?_⟩
  obtain old | ⟨idle, -⟩ := rest.enters e he
  · obtain ⟨-, -, -, thin, -⟩ := judgeQueuedGrow_rest (s.judgeQueued touched i) touched i
    obtain ⟨x, hx, flyx, frame, mark⟩ := thin.flying e old fly
    rw [read] at hx
    obtain ⟨-, -, -, -, -, -, marked⟩ := mem_withdraw (lc := s.lc) (p := isPlainClaimFor i c.antenna) (e := x) hx
    exact mark (marked flyx (by rw [frame]; exact plain))
  · rw [fly] at idle
    cases idle

/-- One it fills with its CLAIM unsent is taken out, and waits where it may. -/
theorem judgeSlot_queued_gone (filled : s.filled touched (s.uses c.antenna c.mask) = true)
    (unsent_ : (unsent (isPlainClaimFor i c.antenna) s.lc.queue).isSome = true) :
    ((s.judgeSlot touched n i).slot i).cand = none ∧
    (∀ e ∈ (s.judgeSlot touched n i).lc.queue, e.inFlight = false → isPlainClaimFor i c.antenna e.frame = false) ∧
    (c.waits = true ∨ s.pi.waitMode = true → s.ct.waitList.length < 4 →
      (s.judgeSlot touched n i).ct.waitList = s.ct.waitList ++ [⟨c.antenna, i, c.mask, c.waits⟩]) ∧
    (c.waits = false → s.pi.waitMode = false → (s.judgeSlot touched n i).ct.waitList = s.ct.waitList) := by
  have gone : s.judgeQueued touched i = (s.candRead i c).candidateWithdrawn i { c with readWait := s.pi.waitMode } := by
    rw [judgeQueued_of_filled cand queued filled]
    exact if_pos unsent_
  obtain ⟨slot, lc, waits, drops⟩ := candidateWithdrawn_fields (s.candRead i c) i { c with readWait := s.pi.waitMode }
  have none : ((s.judgeQueued touched i).slot i).cand = none := by rw [gone, slot]
  have rest : Asserted i 2 (s.queuedJudged touched i) (s.judgeSlot touched n i) :=
    judgeSlot_of_noWindow room fun x due hx => by
      rw [none] at hx
      cases hx
  have list : (s.judgeSlot touched n i).ct.waitList =
      ((s.candRead i c).candidateWithdrawn i { c with readWait := s.pi.waitMode }).ct.waitList := by
    rw [rest.waitList, queuedJudged_waitList, gone]
  refine ⟨rest.noCand ((queuedJudged_cand s touched i).trans none), fun e he idle => ?_, fun h len => ?_, fun h off => ?_⟩
  · obtain old | ⟨-, other⟩ := rest.enters e he
    · obtain ⟨-, -, -, thin, -⟩ := judgeQueuedGrow_rest (s.judgeQueued touched i) touched i
      have hx := thin.unsent e old idle
      rw [gone, lc] at hx
      obtain ⟨_, -, -, -, -, out, -⟩ := mem_withdraw (lc := s.lc) (p := isPlainClaimFor i c.antenna) (e := e) hx
      exact (out idle).2
    · exact other c.antenna
  · rw [list]
    exact waits h len
  · rw [list]
    exact drops h off

end

/-! ### A WINDOW candidate (R104, R107) -/

/-- What paces an assert is as it was where no unsent CLAIM for the slot and antenna has come (R107). -/
theorem mayAssert_of_kept {s t : State} {i : Slot} {a : Antenna} {last : Option Nat} (view : ViewKept s t)
    (level : t.lc.level = s.lc.level)
    (fewer : ∀ e ∈ t.lc.queue, e.inFlight = false → isClaimFor i a e.frame = true → e ∈ s.lc.queue)
    (may : s.mayAssert i a last = true) : t.mayAssert i a last = true := by
  have timing : t.timing = s.timing := by unfold State.timing; rw [view.ps]
  have window : t.window = s.window := by unfold State.window; rw [timing, level]
  unfold State.mayAssert at may ⊢
  rw [window, view.now]
  obtain ⟨none, pace⟩ := Bool.and_eq_true_iff.1 may
  refine Bool.and_eq_true_iff.2 ⟨?_, pace⟩
  rw [Option.isNone_iff_eq_none, ← Option.not_isSome_iff_eq_none, unsent_isSome] at none ⊢
  rintro ⟨e, he, idle, claim⟩
  exact none ⟨e, fewer e he idle claim, idle, claim⟩

theorem level_of_same {s t : State} (h : Same [] s t) : t.lc.level = s.lc.level := (h .counts (by decide)).2.1

section
variable {s : State} {touched : List Antenna} {n : News} {i : Slot} {c : Candidate} {due : Nat}
  (room : s.lc.queue.length < 6) (cand : (s.slot i).cand = some c) (window : c.phase = .window due)
include cand window

theorem queuedJudged_window : ((s.queuedJudged touched i).slot i).cand = some c := by
  rw [queuedJudged_cand, judgeQueued_of_not fun x hx queued => ?_, cand]
  rw [cand] at hx
  cases hx
  rw [window] at queued
  cases queued

include room

/-- One defeated is gone, its RELEASE in the queue. -/
theorem judgeSlot_window_lost (small : c.antenna ≤ 32) (filled : s.filled touched (s.uses c.antenna c.mask) = true)
    (strong : n.strong = true) :
    ((s.judgeSlot touched n i).slot i).cand = none ∧ (s.leavingSilently = false →
      ∃ e ∈ (s.judgeSlot touched n i).lc.queue, e.frame = s.releaseFrame i c.antenna .lost none) := by
  have at_ := queuedJudged_window (touched := touched) cand window
  have view := queuedJudged_viewKept touched i s
  have lost : s.windowJudged touched n i = (s.queuedJudged touched i).dropCandidate i .lost := by
    unfold State.windowJudged
    rw [judgeWindow_of_window at_ window, view.filled, view.uses, if_pos filled, if_pos strong]
  have rest := judgeSlot_asserted touched n i room
  rw [lost] at rest
  obtain ⟨none, -, release⟩ := dropCandidate_lost at_ window small ((queuedJudged_room touched i room).trans (by decide))
  refine ⟨rest.noCand none, fun loud => ?_⟩
  obtain ⟨e, he, frame⟩ := release (by
    unfold State.leavingSilently
    rw [view.jc]
    exact loud)
  refine ⟨e, rest.stays e he, frame.trans ?_⟩
  unfold State.releaseFrame State.self
  rw [view.jc]

/-- One not defeated stays. -/
theorem judgeSlot_window_stays (h : ¬ (s.filled touched (s.uses c.antenna c.mask) = true ∧ n.strong = true)) :
    ∃ c', ((s.judgeSlot touched n i).slot i).cand = some c' ∧ c' = { c with lastAssert := c'.lastAssert } := by
  have at_ := queuedJudged_window (touched := touched) cand window
  have view := queuedJudged_viewKept touched i s
  have first : Asserted i 1 (s.queuedJudged touched i) (s.windowJudged touched n i) :=
    judgeWindow_asserted ((queuedJudged_room touched i room).trans (by decide)) fun x d hx _ => by
      rw [at_] at hx
      cases hx
      rw [view.filled, view.uses]
      exact h
  exact (first.trans (judgeSlot_asserted touched n i room)).cand c at_

/-- One that a late CLAIM fills answers with an assert, as the pacing lets it. -/
theorem judgeSlot_window_asserts (filled : s.filled touched (s.uses c.antenna c.mask) = true)
    (late : n = .plainClaim 0) (may : s.mayAssert i c.antenna c.lastAssert = true) :
    ∃ e ∈ (s.judgeSlot touched n i).lc.queue, e.frame = s.claimFrame i c.antenna c.mask true 0 := by
  subst late
  have at_ := queuedJudged_window (touched := touched) cand window
  have view := queuedJudged_viewKept touched i s
  have may' : (s.queuedJudged touched i).mayAssert i c.antenna c.lastAssert = true :=
    mayAssert_of_kept view (level_of_same ((judgeQueued_same s touched i).trans (judgeQueuedGrow_same _ touched i)))
      (fun e he idle _ => (queuedJudged_thinned touched i s).unsent e he idle) may
  have asserts : s.windowJudged touched (.plainClaim 0) i = (s.queuedJudged touched i).offerAssert i c.antenna c.mask 0 := by
    unfold State.windowJudged
    rw [judgeWindow_of_window at_ window, view.filled, view.uses, if_pos filled, if_neg nofun, may']
    rfl
  obtain ⟨e, he, -, frame⟩ := offerAssert_room (s := s.queuedJudged touched i) i c.antenna c.mask 0
    ((queuedJudged_room touched i room).trans (by decide))
  rw [← asserts] at he
  exact ⟨e, (judgeSlot_asserted touched _ i room).stays e he, frame.trans (view.claimFrame ..)⟩

end

/-! ### A hold (R107, R108, R125, R126) -/

section
variable {s : State} {touched : List Antenna} {n : News} {i : Slot} {h : HeldPart} (room : s.lc.queue.length < 6)
  (held : (s.slot i).held = some h)
include held

/-- The hold as the QUEUED judging leaves it: its grow goes where the entry fills it and its CLAIM was unsent (R125). -/
theorem queuedJudged_held :
    ((s.queuedJudged touched i).slot i).freeing = (s.slot i).freeing ∧
    ∃ g, ((s.queuedJudged touched i).slot i).held = some { h with grow := g } ∧ (g = h.grow ∨ g = none) ∧
      (∀ m after, h.grow = some ⟨m, .queued, after⟩ →
        s.filled touched (s.membersOf h.antenna (m &&& ~~~h.mask)) = true →
        (unsent (isPlainClaimFor i h.antenna) s.lc.queue).isSome = true →
        (∀ c, (s.slot i).cand = some c → c.antenna ≠ h.antenna) → g = none) ∧
      (∀ m phase after, h.grow = some ⟨m, phase, after⟩ →
        s.filled touched (s.membersOf h.antenna (m &&& ~~~h.mask)) = false ∨ phase ≠ .queued → g = h.grow) := by
  obtain ⟨same, freeing, -⟩ := judgeQueued_rest s touched i
  obtain ⟨-, freeing', -, -, grows⟩ := judgeQueuedGrow_rest (s.judgeQueued touched i) touched i
  have view := judgeQueued_viewKept s touched i
  have held' := same.trans held
  obtain ⟨g, at_, either⟩ := grows h held'
  refine ⟨freeing'.trans freeing, g, at_, either, fun m after grow filled claim apart => ?_, fun m phase after grow out => ?_⟩
  · have claim' : (unsent (isPlainClaimFor i h.antenna) (s.judgeQueued touched i).lc.queue).isSome = true := by
      by_cases none : ∀ c, (s.slot i).cand = some c → c.phase = .queued → s.filled touched (s.uses c.antenna c.mask) = false
      · rw [judgeQueued_of_not none]
        exact claim
      · obtain ⟨c, cand, queued, fills⟩ : ∃ c, (s.slot i).cand = some c ∧ c.phase = .queued ∧
            s.filled touched (s.uses c.antenna c.mask) = true := by simpa using none
        have still := unsent_withdraw_other (lc := s.lc) (p := isPlainClaimFor i c.antenna) (q := isPlainClaimFor i h.antenna)
          (fun f hf => by
            have other := isClaimFor_other (isClaimFor_of_plain hf) (apart c cand)
            rw [Bool.eq_false_iff]
            intro on
            rw [isClaimFor_of_plain on] at other
            cases other) claim
        rw [judgeQueued_of_filled cand queued fills]
        split
        · rw [(candidateWithdrawn_fields (s.candRead i c) i { c with readWait := s.pi.waitMode }).2.1]
          exact still
        · exact still
    have drops : s.queuedJudged touched i =
        ((s.judgeQueued touched i).withdraw (isPlainClaimFor i h.antenna)).growWithdrawn i h ⟨m, .queued, after⟩ := by
      unfold State.queuedJudged
      rw [judgeQueuedGrow_of_filled held' grow rfl (by rw [view.filled, view.membersOf]; exact filled)]
      exact if_pos claim'
    have none : ((s.queuedJudged touched i).slot i).held = some { h with grow := none } := by
      rw [drops, growWithdrawn_slot]
    exact congrArg HeldPart.grow (Option.some.inj (at_.symm.trans none))
  · have still : (s.judgeQueued touched i).judgeQueuedGrow touched i = s.judgeQueued touched i := by
      refine judgeQueuedGrow_of_not fun x y hx hy queued => ?_
      rw [held'] at hx
      cases hx
      rw [grow] at hy
      cases hy
      obtain out | other := out
      · rw [view.filled, view.membersOf]
        exact out
      · exact absurd queued other
    rw [still, held'] at at_
    exact (congrArg HeldPart.grow (Option.some.inj at_)).symm

/-- The hold as all but the last stage leave it. -/
theorem growJudged_held (room : s.lc.queue.length < 6) :
    ((s.growJudged touched n i).slot i).freeing = (s.slot i).freeing ∧
    ∃ x, ((s.growJudged touched n i).slot i).held = some x ∧
      x = { h with grow := x.grow, lastAssert := x.lastAssert } ∧
      (∀ m phase after, h.grow = some ⟨m, phase, after⟩ →
        s.filled touched (s.membersOf h.antenna (m &&& ~~~h.mask)) = true →
        (if phase = .queued then (unsent (isPlainClaimFor i h.antenna) s.lc.queue).isSome = true ∧
            ∀ c, (s.slot i).cand = some c → c.antenna ≠ h.antenna
          else n.strong = true) → x.grow = none) ∧
      (∀ m phase after, h.grow = some ⟨m, phase, after⟩ →
        s.filled touched (s.membersOf h.antenna (m &&& ~~~h.mask)) = false → x.grow = h.grow) := by
  obtain ⟨freeing, g, at_, either, goes, stays⟩ := queuedJudged_held (touched := touched) held
  obtain ⟨freeing', keeps⟩ := judgeWindow_rest (s := s.queuedJudged touched i) touched n i
    ((queuedJudged_room touched i room).trans (by decide))
  obtain ⟨y, hy, eqy, -⟩ := keeps _ at_
  have growy : y.grow = g := by rw [eqy]
  have masky : y.mask = h.mask := by rw [eqy]
  have antennay : y.antenna = h.antenna := by rw [eqy]
  obtain ⟨-, freeing'', moves⟩ := judgeGrow_rest (s := s.windowJudged touched n i) touched n i
    ((windowJudged_room touched n i room).trans (by decide))
  obtain ⟨x, hx, eqx, growx, lost, open_⟩ := moves y hy
  have view := windowJudged_viewKept touched n i s
  rw [masky, antennay] at lost open_
  rw [view.filled, view.membersOf, growy] at lost open_
  rw [growy] at growx
  refine ⟨freeing''.trans (freeing'.trans freeing), x, hx, by rw [eqx, eqy], fun m phase after grow filled cause => ?_,
    fun m phase after grow out => ?_⟩
  · cases phase with
    | queued =>
      obtain ⟨claim, apart⟩ : _ ∧ _ := cause
      have none := goes m after grow filled claim apart
      rw [none] at growx
      exact growx.elim id id
    | window due =>
      have same := stays m (.window due) after grow (.inr nofun)
      exact lost m due after (same.trans grow) filled cause
  · have same := stays m phase after grow (.inl out)
    rw [open_ m phase after (same.trans grow) out, same]

end

end Sys2Proof.Machine

/-! SUPPORT. A CLAIM of a peer at its receivers (4.3, 6.5). -/

namespace Sys2Proof.Machine

/-! ### The hold at the last stage (R107, R108) -/

section
variable {s : State} {touched : List Antenna} {n : News} {i : Slot} {h : HeldPart} (room : s.lc.queue.length < 6)
  (held : (s.slot i).held = some h)
include room held

/-- A hold outranked is lost, FREEING with reason LOST (R108). -/
theorem judgeSlot_held_lost (ranks : n.ranks = true)
    (loses : ∃ a ∈ s.uses h.antenna h.mask, a ∈ touched ∧ s.losesRank h a = true) :
    ((s.judgeSlot touched n i).slot i).held = none ∧
      ((s.judgeSlot touched n i).slot i).freeing = (s.slot i).freeing ++
        [⟨h.antenna, h.mask, h.drive, h.tenure, h.tenureLink, .lost, none, false⟩] := by
  obtain ⟨freeing, x, at_, eq, -⟩ := growJudged_held (touched := touched) (n := n) held room
  have view := growJudged_viewKept touched n i s
  have antenna : x.antenna = h.antenna := by rw [eq]
  have mask : x.mask = h.mask := by rw [eq]
  have freed : x.freed .lost none = ⟨h.antenna, h.mask, h.drive, h.tenure, h.tenureLink, .lost, none, false⟩ := by rw [eq]; rfl
  have lost : s.judgeSlot touched n i = (s.growJudged touched n i).freeHold i .lost none := by
    rw [judgeSlot_eq, judgeHeld_eq at_, if_pos ranks, if_pos]
    rw [losesTouched_iff, view.uses, antenna, mask]
    obtain ⟨a, mem, touches, loses⟩ := loses
    exact ⟨a, mem, touches, (view.losesRank (x := h) (y := x) (by rw [eq]) a).trans loses⟩
  rw [lost, freeHold_slot_self, at_, freeing]
  exact ⟨rfl, congrArg (fun p => _ ++ [p]) freed⟩

/-- A hold not outranked stays, its grow as the earlier stages leave it (R108). -/
theorem judgeSlot_held_stays
    (stays : ¬ (n.ranks = true ∧ ∃ a ∈ s.uses h.antenna h.mask, a ∈ touched ∧ s.losesRank h a = true)) :
    ∃ x y, ((s.growJudged touched n i).slot i).held = some x ∧ ((s.judgeSlot touched n i).slot i).held = some y ∧
      y = { x with lastAssert := y.lastAssert } := by
  obtain ⟨-, x, at_, eq, -⟩ := growJudged_held (touched := touched) (n := n) held room
  have view := growJudged_viewKept touched n i s
  have antenna : x.antenna = h.antenna := by rw [eq]
  have mask : x.mask = h.mask := by rw [eq]
  refine ⟨x, ?_⟩
  rw [judgeSlot_eq, judgeHeld_eq at_]
  repeat' split
  next ranks loses =>
    rw [losesTouched_iff, view.uses, antenna, mask] at loses
    obtain ⟨a, mem, touches, loses⟩ := loses
    exact absurd ⟨ranks, a, mem, touches, (view.losesRank (x := h) (y := x) (by rw [eq]) a).symm.trans loses⟩ stays
  · exact ⟨x, at_, at_, rfl⟩
  · obtain ⟨y, hy, eqy⟩ := paced_held (r := (s.growJudged touched n i).slot i) x.antenna (s.growJudged touched n i).now at_
    refine ⟨y, at_, ?_, eqy⟩
    rw [offerAssert_paced i x.antenna x.mask x.tenure (growJudged_room touched n i room)]
    exact hy
  · exact ⟨x, at_, at_, rfl⟩

omit room held in
/-- A candidate the QUEUED judging leaves is the one there was. -/
theorem queuedJudged_cand_of {c : Candidate} (cand : ((s.queuedJudged touched i).slot i).cand = some c) :
    ∃ x, (s.slot i).cand = some x ∧ x.antenna = c.antenna := by
  rw [queuedJudged_cand] at cand
  by_cases none : ∀ c, (s.slot i).cand = some c → c.phase = .queued → s.filled touched (s.uses c.antenna c.mask) = false
  · rw [judgeQueued_of_not none] at cand
    exact ⟨c, cand, rfl⟩
  · obtain ⟨x, at_, queued, fills⟩ : ∃ c, (s.slot i).cand = some c ∧ c.phase = .queued ∧
        s.filled touched (s.uses c.antenna c.mask) = true := by simpa using none
    rw [judgeQueued_of_filled at_ queued fills] at cand
    split at cand
    · rw [(candidateWithdrawn_fields (s.candRead i x) i { x with readWait := s.pi.waitMode }).1] at cand
      cases cand
    · unfold State.candRead at cand
      rw [slot_setSlot_self] at cand
      cases cand
      exact ⟨x, at_, rfl⟩

variable (late : n = .plainClaim 0) (apart : ∀ c, (s.slot i).cand = some c → c.antenna ≠ h.antenna)
include late apart

/-- A late CLAIM's assert for another antenna of the slot leaves the hold as it was, and what paces the hold's assert. -/
theorem windowJudged_apart (small : ∀ c, (s.slot i).cand = some c → c.antenna ≤ 32) :
    (∃ g, ((s.windowJudged touched n i).slot i).held = some { h with grow := g } ∧ (g = h.grow ∨ g = none) ∧
      ∀ m due after, h.grow = some ⟨m, .window due, after⟩ → g = h.grow) ∧
    (s.mayAssert i h.antenna h.lastAssert = true →
      (s.windowJudged touched n i).mayAssert i h.antenna h.lastAssert = true) := by
  obtain ⟨-, g, at_, either, -, stays⟩ := queuedJudged_held (touched := touched) held
  have far (c : Candidate) (hc : ((s.queuedJudged touched i).slot i).cand = some c) : c.antenna ≠ h.antenna := by
    obtain ⟨x, hx, same⟩ := queuedJudged_cand_of hc
    exact same ▸ apart x hx
  have room2 : (s.queuedJudged touched i).lc.queue.length < 8 := (queuedJudged_room touched i room).trans (by decide)
  obtain ⟨-, keeps⟩ := judgeWindow_rest (s := s.queuedJudged touched i) touched n i room2
  obtain ⟨y, hy, -, same⟩ := keeps _ at_
  refine ⟨⟨g, hy.trans (congrArg some (same far)), either, fun m due after grow => stays m (.window due) after grow (.inr nofun)⟩,
    mayAssert_of_kept (windowJudged_viewKept touched n i s) (level_of_same
      (((judgeQueued_same s touched i).trans (judgeQueuedGrow_same _ touched i)).trans (judgeWindow_same _ touched n i)))
      fun e he idle claim => ?_⟩
  refine (queuedJudged_thinned touched i s).unsent e ?_ idle
  by_cases window : ∃ c due, ((s.queuedJudged touched i).slot i).cand = some c ∧ c.phase = .window due
  · obtain ⟨c, due, cand, window⟩ := window
    have strong : n.strong = false := by rw [late]; rfl
    unfold State.windowJudged at he
    rw [judgeWindow_of_window cand window] at he
    split at he
    · rw [if_neg (by simp [strong])] at he
      split at he
      · rw [offerAssert_queue i c.antenna c.mask 0 room2] at he
        obtain rfl | old := mem_enqueue.1 he
        · obtain ⟨x, hx, same⟩ := queuedJudged_cand_of cand
          have code : (antennaCode c.antenna).toNat = c.antenna :=
            antennaCode_toNat (Nat.le_trans (same ▸ small x hx) (by decide))
          simp only [isClaimFor, State.claimFrame, code, Bool.and_eq_true, beq_iff_eq] at claim
          exact absurd claim.2 (far c cand)
        · exact old
      · exact he
    · exact he
  · unfold State.windowJudged at he
    rwa [judgeWindow_of_not fun c due cand phase => window ⟨c, due, cand, phase⟩] at he

/-- A late CLAIM that fills the hold draws its assert, as the pacing lets it (R107). -/
theorem judgeSlot_held_asserts (small : ∀ c, (s.slot i).cand = some c → c.antenna ≤ 32)
    (filled : s.filled touched (s.uses h.antenna h.mask) = true) (may : s.mayAssert i h.antenna h.lastAssert = true)
    (closed : ∀ m due after, h.grow ≠ some ⟨m, .window due, after⟩) :
    ∃ e ∈ (s.judgeSlot touched n i).lc.queue, e.frame = s.claimFrame i h.antenna h.mask true h.tenure := by
  obtain ⟨⟨g, at_, either, -⟩, may'⟩ := windowJudged_apart (touched := touched) room held late apart small
  have view := windowJudged_viewKept touched n i s
  have still : s.growJudged touched n i = s.windowJudged touched n i := by
    refine judgeGrow_of_not fun x m due after hx grow => ?_
    rw [at_] at hx
    cases hx
    obtain rfl | rfl := either
    · exact closed m due after grow
    · cases grow
  have room8 : (s.windowJudged touched n i).lc.queue.length < 8 := (windowJudged_room touched n i room).trans (by decide)
  have asserts : s.judgeSlot touched n i = (s.windowJudged touched n i).offerAssert i h.antenna h.mask h.tenure := by
    have ranks : ¬ n.ranks = true := by rw [late]; exact nofun
    have full : ((s.uses h.antenna h.mask).filter (fun a => touched.contains a)).any (fun a => !s.available a) = true := by
      rw [List.any_filter]
      exact filled
    rw [judgeSlot_eq, still, judgeHeld_eq at_, if_neg ranks, view.available, view.uses]
    refine if_pos ?_
    rw [show n.late = true by rw [late]; rfl, Bool.true_and]
    exact Bool.and_eq_true_iff.2 ⟨full, may' may⟩
  obtain ⟨e, he, -, frame⟩ := offerAssert_room (s := s.windowJudged touched n i) i h.antenna h.mask h.tenure room8
  rw [← asserts] at he
  exact ⟨e, he, frame.trans (view.claimFrame ..)⟩

/-- One that fills the members of a grow in WINDOW draws the grow's (R107, R126; log 18). -/
theorem judgeSlot_grow_asserts (small : ∀ c, (s.slot i).cand = some c → c.antenna ≤ 32) {m : Mask} {due : Nat}
    {after : Option Mask} (grow : h.grow = some ⟨m, .window due, after⟩)
    (filled : s.filled touched (s.membersOf h.antenna (m &&& ~~~h.mask)) = true)
    (may : s.mayAssert i h.antenna h.lastAssert = true) :
    ∃ e ∈ (s.judgeSlot touched n i).lc.queue, e.frame = s.claimFrame i h.antenna m true 0 := by
  obtain ⟨⟨g, at_, -, stays⟩, may'⟩ := windowJudged_apart (touched := touched) room held late apart small
  obtain rfl := stays m due after grow
  have view := windowJudged_viewKept touched n i s
  have room8 : (s.windowJudged touched n i).lc.queue.length < 8 := (windowJudged_room touched n i room).trans (by decide)
  have asserts : s.growJudged touched n i = (s.windowJudged touched n i).offerAssert i h.antenna m 0 := by
    unfold State.growJudged
    rw [judgeGrow_of_window at_ grow, view.filled, view.membersOf, if_pos filled, if_neg (by rw [late]; exact nofun)]
    refine if_pos ?_
    rw [show n.late = true by rw [late]; rfl, Bool.true_and]
    exact may' may
  obtain ⟨e, he, -, frame⟩ := offerAssert_room (s := s.windowJudged touched n i) i h.antenna m 0 room8
  rw [← asserts] at he
  exact ⟨e, (judgeHeld_asserted touched n i (growJudged_room touched n i room)).stays e he, frame.trans (view.claimFrame ..)⟩

end

/-! ### A CLAIM applied (R66) and judged in RUN (R102 to R108) -/

/-- The record after a CLAIM. -/
def State.claimedRecord (s : State) (f : ClaimFrame) (r : PeerRecord) : PeerRecord :=
  { r with
    entries := if f.antenna = 0 then r.entries.set f.slot (entryOf f.antenna f.mask f.tenure s.now)
      else clearElsewhere f.antenna.toNat [f.slot] (r.entries.set f.slot (entryOf f.antenna f.mask f.tenure s.now)),
    priority := some f.priority, headSince := s.now }

theorem applyClaim_eq {s : State} {p : Position} {r : PeerRecord} (f : ClaimFrame) (h : s.recordFor p = some r) :
    s.applyClaim p f = s.putPeer (s.claimedRecord f r) := by
  unfold State.applyClaim
  rw [h]
  rfl

/-- The entries after a CLAIM: its slot's is set, and no other is of its antenna (R66). -/
theorem claimedRecord_entries (s : State) (f : ClaimFrame) (r : PeerRecord) :
    (s.claimedRecord f r).entries.get f.slot =
      (if f.antenna = 0 then none else some ⟨f.antenna.toNat, f.mask, f.tenure.toNat, s.now⟩) ∧
    ∀ i e, f.antenna ≠ 0 → i ≠ f.slot → (s.claimedRecord f r).entries.get i = some e → e.antenna ≠ f.antenna.toNat := by
  unfold State.claimedRecord
  dsimp only
  refine ⟨?_, fun i e names other at_ => ?_⟩
  · split
    next none =>
      rw [Slots.get_set_self]
      exact if_pos none
    next names =>
      rw [get_clearElsewhere, if_pos (List.mem_singleton.2 rfl), Slots.get_set_self]
      exact if_neg names
  · rw [if_neg names, get_clearElsewhere, if_neg (by simpa using other)] at at_
    simpa using (Option.filter_eq_some_iff.1 at_).2

theorem claimHeard_records {s : State} {p : Position} (f : ClaimFrame) (other : s.jc.number ≠ some p) :
    (State.claimHeard p f s).pt = (s.applyClaim p f).pt := by
  have jc : (s.applyClaim p f).jc = s.jc := by
    unfold State.applyClaim
    split <;> rfl
  obtain ⟨view, -⟩ := senderHeard_pt (s := s.applyClaim p f) (probe := false) (by rw [jc]; exact other)
  unfold State.claimHeard State.fromPeer
  split
  · exact view
  · exact (judgeEntry_viewKept _ _ _ _).pt.trans view

/-- In RUN it is judged against each slot in turn. -/
theorem claimHeard_of_run {s : State} {p : Position} {f : ClaimFrame} (run : s.jc.state = .run)
    (other : s.jc.number ≠ some p) (names : f.antenna ≠ 0) :
    State.claimHeard p f s = allSlots.foldl
      (fun x i => x.judgeSlot (s.uses f.antenna.toNat f.mask)
        (if f.isAssert then .assertClaim else .plainClaim f.tenure.toNat) i)
      ((s.applyClaim p f).unreserve f.antenna.toNat p) := by
  have rest : (s.applyClaim p f).jc = s.jc ∧ (s.applyClaim p f).ps = s.ps := by
    unfold State.applyClaim
    split <;> exact ⟨rfl, rfl⟩
  obtain ⟨jc, ps⟩ := rest
  have some : f.antenna.toNat ≠ 0 := fun h => names (BitVec.eq_of_toNat_eq h)
  have fold (l : List Slot) (x : State) (hx : x.ps = s.ps) (n : News) :
      l.foldl (fun s i => s.judgeSlot (s.uses f.antenna.toNat f.mask) n i) x =
        l.foldl (fun x i => x.judgeSlot (s.uses f.antenna.toNat f.mask) n i) x := by
    induction l generalizing x with
    | nil => rfl
    | cons i l ih =>
      have uses : x.uses f.antenna.toNat f.mask = s.uses f.antenna.toNat f.mask := by
        simp only [State.uses, State.membersOf, State.groupOf, hx]
      rw [List.foldl_cons, List.foldl_cons, uses]
      exact ih _ ((judgeSlot_viewKept x _ n i).ps.trans hx)
  unfold State.claimHeard
  rw [senderHeard_other (by rw [jc]; exact other) (by rw [jc, run]; exact nofun)]
  unfold State.fromPeer
  rw [if_neg (by simp [State.isOwn, jc, other])]
  unfold State.judgeEntry
  exact (if_neg some).trans (fold allSlots ((s.applyClaim p f).unreserve f.antenna.toNat p) ps _)

end Sys2Proof.Machine

namespace Sys2Proof.Proofs

open Sys2Proof.Machine

/-- Settles O22. -/
theorem claimSetsPeerEntry : Obligations.ClaimSetsPeerEntry := by
  refine ⟨fun p f s good frame other space => ?_, fun s touched n i fills hfills room small small' => ?_⟩
  · have run : exec (.claimReceived p f) s = .next (commit .nothing s (State.claimHeard p f s.heardFrame)) :=
      congrArg (fun u => Host.Outcome.next (commit .nothing s u)) (takeGood_of_frame frame good)
    obtain ⟨r, record, rfl, -⟩ := recordFor_room (s := s.heardFrame) other space
    have view := claimHeard_records (s := s.heardFrame) f other
    rw [applyClaim_eq f record] at view
    obtain ⟨set, others⟩ := claimedRecord_entries s f r
    refine ⟨⟨_, s.claimedRecord f r, run, ?_, set, rfl, rfl, others, fun q hq => ?_⟩, fun running names => ?_⟩
    · rw [commit_find, view]
      exact find_putPeer_self s.heardFrame (s.claimedRecord f r)
    · rw [commit_find, view]
      exact find_putPeer_ne s.heardFrame (s.claimedRecord f r) hq
    · rw [run, claimHeard_of_run (s := s.heardFrame) running other names]
      rfl
  · obtain rfl : fills = fun l => s.filled touched l = true :=
      funext fun l => propext ((hfills l).trans (filled_iff s touched l).symm)
    refine ⟨fun c cand queued => ⟨fun open_ => ?_, fun filled flown => ⟨?_, ?_⟩, fun filled idle => ?_⟩,
      fun c due cand window => ⟨fun filled strong => judgeSlot_window_lost room cand window (small c cand) filled strong,
        fun stays => ?_, fun filled late may => judgeSlot_window_asserts room cand window filled late may⟩,
      fun h held => ⟨fun ranks loses => judgeSlot_held_lost room held ranks loses, fun stays => ?_, losesRank_iff s h,
        fun filled late may apart closed => judgeSlot_held_asserts room held late apart small filled may closed,
        fun m due after grow filled late may apart => judgeSlot_grow_asserts room held late apart small grow filled may⟩⟩
    · obtain ⟨c', at_, eq⟩ := judgeSlot_queued_stays (n := n) room cand queued ((Bool.not_eq_true _).mp open_)
      exact ⟨c', at_, by rw [eq], by rw [eq], by rw [eq]; exact queued, by rw [eq]⟩
    · obtain ⟨⟨c', at_, eq⟩, -⟩ := judgeSlot_queued_read (n := n) room cand queued filled flown
      exact ⟨c', at_, by rw [eq], by rw [eq], by rw [eq]; exact queued, by rw [eq]⟩
    · exact (judgeSlot_queued_read (n := n) room cand queued filled flown).2
    · exact judgeSlot_queued_gone room cand queued filled idle
    · obtain ⟨c', at_, eq⟩ := judgeSlot_window_stays (n := n) room cand window stays
      exact ⟨c', at_, by rw [eq], by rw [eq], by rw [eq]⟩
    · obtain ⟨-, x, at_, eq, goes, same⟩ := growJudged_held (touched := touched) (n := n) held room
      obtain ⟨x', y, hx, hy, eqy⟩ := judgeSlot_held_stays room held stays
      obtain rfl : x' = x := Option.some.inj (hx.symm.trans at_)
      have grow : y.grow = x'.grow := by rw [eqy]
      refine ⟨y, hy, by rw [eqy, eq], by rw [eqy, eq], by rw [eqy, eq], by rw [eqy, eq], by rw [eqy, eq], by rw [eqy, eq],
        fun m phase after hg filled cause => ?_, fun m phase after hg open_ => ?_⟩
      · rw [grow]
        exact goes m phase after hg filled cause
      · rw [grow]
        exact same m phase after hg ((Bool.not_eq_true _).mp open_)

end Sys2Proof.Proofs

/-! SUPPORT. When a display record starts (12.6). -/

namespace Sys2Proof.Machine

/-! ### What the displayed content reads of the Panel Interface -/

/-- The sending of records is no content. -/
theorem displayed_setPi (s : State) {p : PanelIf} (mode : p.waitMode = s.pi.waitMode) (answer : p.answer = s.pi.answer) :
    (s.setPi p).displayed = s.displayed := by
  have content : (s.setPi p).content = s.content := by
    have join : (s.setPi p).joinBytes = s.joinBytes := by
      unfold State.joinBytes
      rw [State.setPi_pi, mode]
      rfl
    unfold State.content
    rw [join, State.setPi_pi, answer]
    rfl
  unfold State.displayed
  rw [content]
  rfl

/-! ### The reactions' last word (R199, R200) -/

/-- The part as the Panel Interface takes up the changes of an event. -/
def reactOffered (heard : KeyHeard) (before s : State) : State := State.sgReact before (reactJudged heard before s)

theorem commit_panel (heard : KeyHeard) (before s : State) :
    (commit heard before s).pi = (State.piReact before (reactOffered heard before s)).pi := by
  rw [commit_eq]
  rfl

theorem reactOffered_panel (heard : KeyHeard) (before s : State) :
    (reactOffered heard before s).pi = { s.pi with answer := (reactOffered heard before s).pi.answer } := by
  have start := (reactStart_same heard before s).mono (Y := [.marks, .liveSeen, .rd, .ask, .latch]) (by decide)
  have whole : Same [.marks, .liveSeen, .rd, .ask, .latch] s (reactOffered heard before s) :=
    ((start.trans ((reactSettled_same heard before s).mono (by decide))).trans
      ((reactJudged_same heard before s).mono (by decide))).trans (sgReact_same before _).any
  exact whole .panel (by decide)

theorem piReact_displayed (before s : State) : (State.piReact before s).displayed = s.displayed := by
  unfold State.piReact State.startRecord
  repeat' split
  · exact displayed_setPi s rfl rfl
  · rfl
  · exact displayed_setPi s rfl rfl
  · exact displayed_setPi s rfl rfl

theorem commit_displayed (heard : KeyHeard) (before s : State) :
    (commit heard before s).displayed = (reactOffered heard before s).displayed := by
  rw [commit_eq]
  exact piReact_displayed before (reactOffered heard before s)

theorem reactOffered_now (heard : KeyHeard) (before s : State) :
    (reactOffered heard before s).now = (commit heard before s).now := by
  have still : (State.piReact before (reactOffered heard before s)).now = (reactOffered heard before s).now := by
    unfold State.piReact State.startRecord
    repeat' split
    all_goals rfl
  rw [commit_eq]
  exact still.symm

/-! ### The three cases of the Panel Interface (R199, R200) -/

/-- With nothing sent and nothing on its way the first record is owed (R200). -/
theorem firstOwed_iff (s : State) : s.firstOwed = true ↔ s.pi.last = none ∧ s.pi.inFlight = false := by
  simp [State.firstOwed, Option.isNone_iff_eq_none]

theorem piReact_first {before s : State} (owed : s.firstOwed = true) :
    (State.piReact before s).pi = { s.pi with
      last := some before.displayed, inFlight := true, pendingChange := before.displayed != s.displayed,
      refresh := before.timerFor (Config.sec 1) } := by
  unfold State.piReact
  rw [if_pos owed]
  rfl

theorem piReact_same_content {before s : State} (sent : s.firstOwed = false) (same : before.displayed = s.displayed) :
    State.piReact before s = s := by
  unfold State.piReact
  rw [if_neg (by simp [sent]), if_pos same]

theorem piReact_waits {before s : State} (sent : s.firstOwed = false) (changed : before.displayed ≠ s.displayed)
    (flight : s.pi.inFlight = true) : (State.piReact before s).pi = { s.pi with pendingChange := true } := by
  unfold State.piReact
  rw [if_neg (by simp [sent]), if_neg changed, if_pos flight]
  rfl

theorem piReact_starts {before s : State} (sent : s.firstOwed = false) (changed : before.displayed ≠ s.displayed)
    (idle : s.pi.inFlight = false) : State.piReact before s = s.startRecord := by
  unfold State.piReact
  rw [if_neg (by simp [sent]), if_neg changed, if_neg (by simp [idle])]

/-! ### The Panel Interface's own commands (R199) -/

theorem exec_displayRecordSent {s : State} (flight : s.pi.inFlight = true) :
    exec .displayRecordSent s = .next (commit .nothing s s.recordSent) := by
  have sent : s.openFirst = s := if_neg (by simp [State.firstOwed, flight])
  show Host.Outcome.next (commit .nothing s s.openFirst.recordSent) = _
  rw [sent]

/-- A record's last character gone: the next one starts for a pending change that shows, and else none is on its way. -/
theorem recordSent_fields {s : State} (flight : s.pi.inFlight = true) :
    if s.pi.pendingChange = true ∧ s.pi.last ≠ some s.displayed then
      s.recordSent.pi.last = some s.displayed ∧ s.recordSent.pi.inFlight = true ∧ s.recordSent.pi.pendingChange = false ∧
        s.recordSent.pi.refresh = .running (s.now + Config.sec 1)
    else s.recordSent.pi.inFlight = false ∧ s.recordSent.pi.pendingChange = false ∧ s.recordSent.pi.last = s.pi.last := by
  have shown : (s.setPi { s.pi with inFlight := false, pendingChange := false }).displayed = s.displayed :=
    displayed_setPi s rfl rfl
  have eq : s.recordSent =
      if s.pi.pendingChange = true ∧ s.pi.last ≠ some s.displayed then
        (s.setPi { s.pi with inFlight := false, pendingChange := false }).startRecord
      else s.setPi { s.pi with inFlight := false, pendingChange := false } := by
    unfold State.recordSent
    rw [if_pos flight]
    dsimp only
    rw [shown]
    exact if_congr (by simp) rfl rfl
  rw [eq]
  split
  · refine ⟨congrArg some shown, rfl, rfl, rfl⟩
  · exact ⟨rfl, rfl, rfl⟩

end Sys2Proof.Machine

/-! SUPPORT. The layout of a display record (13.4). -/

namespace Sys2Proof.Machine

/-! ### The groups of content and their places -/

theorem lampBytes_length (s : State) : s.lampBytes.length = 16 := by simp [State.lampBytes]

theorem joinBytes_length (s : State) : s.joinBytes.length = 5 := rfl

theorem keyBytes_length (s : State) : s.keyBytes.length = 11 := by
  unfold State.keyBytes
  rw [List.length_append, List.length_take, List.length_append, List.length_replicate]
  show 3 + min 8 _ = 11
  omega

theorem radioBytes_length (s : State) : s.radioBytes.length = 3 := rfl

theorem slotsBytes_eq (s : State) : s.slotsBytes =
    slotBytes (s.slot .main) ++ (slotBytes (s.slot .aux) ++ (slotBytes (s.slot .nextA) ++ slotBytes (s.slot .nextB))) := by
  simp [State.slotsBytes, allSlots]

theorem slotsBytes_length (s : State) : s.slotsBytes.length = 12 := by rw [slotsBytes_eq]; rfl

theorem latchBytes_length (s : State) : s.latchBytes.length = 5 := by
  unfold State.latchBytes
  split <;> rfl

theorem askBytes_length (s : State) : s.askBytes.length = 5 := by
  unfold State.askBytes
  cases s.hu.ask <;> cases s.hu.answer <;> rfl

theorem stationBytes_length (s : State) : s.stationBytes.length = 4 := by
  unfold State.stationBytes
  cases s.cu.quiet <;> cases s.cu.last <;> rfl

theorem positionBytes_length (s : State) (hit : PeerRecord → Bool) : (s.positionBytes hit).length = 2 := rfl

theorem answerBytes_length (x : Option PanelAnswer) : (answerBytes x).length = 3 := by
  unfold answerBytes
  split <;> rfl

theorem counterBytes_length (s : State) : s.counterBytes.length = 5 := rfl

theorem relayBytes_length (s : State) : s.relayBytes.length = 6 := rfl

theorem content_length (s : State) : s.content.length = 79 := by
  simp only [State.content, List.length_append, lampBytes_length, joinBytes_length, keyBytes_length, radioBytes_length,
    slotsBytes_length, latchBytes_length, askBytes_length, stationBytes_length, positionBytes_length, answerBytes_length,
    counterBytes_length, relayBytes_length]

/-- A character of a group of the content, at the group's place in the record. -/
theorem record_getD {c A B C : List Byte} (h : c = A ++ (B ++ C)) {j n : Nat} (hn : 2 + A.length + j = n) (hj : j < B.length) :
    (displayRecord c).getD n 0 = B.getD j 0 := by
  have split : displayRecord c = (165 :: 79 :: A) ++ (B ++ (C ++ [byte ((79 :: c).foldl (fun acc c => acc + c.toNat) 0)])) := by
    unfold displayRecord
    rw [h]
    simp
  have place : n = (165 :: 79 :: A).length + j := by
    rw [← hn, List.length_cons, List.length_cons]
    omega
  rw [split, List.getD_append_right _ _ _ _ (by omega), place, Nat.add_sub_cancel_left, List.getD_append _ _ _ _ hj]

/-- A group counted to the characters before it. -/
theorem eq_append_regroup {c A B C : List Byte} (h : c = A ++ (B ++ C)) : c = A ++ B ++ C :=
  h.trans (List.append_assoc A B C).symm

section
variable (s : State) {j : Nat}

theorem content_groups : s.content = s.lampBytes ++ (s.joinBytes ++ (s.keyBytes ++ (s.radioBytes ++ (s.slotsBytes ++
    (s.latchBytes ++ (s.askBytes ++ (s.stationBytes ++ (s.positionBytes (fun r => r.mismatch) ++
      (s.positionBytes (fun r => r.linkLost) ++ (answerBytes s.pi.answer ++ (s.counterBytes ++ s.relayBytes))))))))))) := by
  simp only [State.content, List.append_assoc]

theorem record_lamps (hj : j < 16) : (displayRecord s.content).getD (2 + j) 0 = s.lampBytes.getD j 0 :=
  record_getD ((content_groups s).trans (List.nil_append _).symm) rfl (by rw [lampBytes_length]; exact hj)

theorem record_join (hj : j < 5) : (displayRecord s.content).getD (18 + j) 0 = s.joinBytes.getD j 0 :=
  record_getD (content_groups s) (by rw [lampBytes_length]) hj

theorem record_key (hj : j < 11) : (displayRecord s.content).getD (23 + j) 0 = s.keyBytes.getD j 0 :=
  record_getD (eq_append_regroup (content_groups s)) (by rw [List.length_append, lampBytes_length, joinBytes_length])
    (by rw [keyBytes_length]; exact hj)

theorem record_radio (hj : j < 3) : (displayRecord s.content).getD (34 + j) 0 = s.radioBytes.getD j 0 :=
  record_getD (eq_append_regroup (eq_append_regroup (content_groups s)))
    (by rw [List.length_append, List.length_append, lampBytes_length, joinBytes_length, keyBytes_length]) hj

theorem record_slots (hj : j < 12) : (displayRecord s.content).getD (37 + j) 0 = s.slotsBytes.getD j 0 :=
  record_getD (eq_append_regroup (eq_append_regroup (eq_append_regroup (content_groups s))))
    (by simp only [List.length_append, lampBytes_length, joinBytes_length, keyBytes_length, radioBytes_length])
    (by rw [slotsBytes_length]; exact hj)

/-- The part of the content before the latch. -/
def State.contentHead (s : State) : List Byte :=
  s.lampBytes ++ s.joinBytes ++ s.keyBytes ++ s.radioBytes ++ s.slotsBytes

theorem contentHead_length : s.contentHead.length = 47 := by
  simp only [State.contentHead, List.length_append, lampBytes_length, joinBytes_length, keyBytes_length, radioBytes_length,
    slotsBytes_length]

theorem content_eq_head : s.content = s.contentHead ++ (s.latchBytes ++ (s.askBytes ++ (s.stationBytes ++
    (s.positionBytes (fun r => r.mismatch) ++ (s.positionBytes (fun r => r.linkLost) ++ (answerBytes s.pi.answer ++
      (s.counterBytes ++ s.relayBytes))))))) := by
  simp only [State.content, State.contentHead, List.append_assoc]

theorem record_latch (hj : j < 5) : (displayRecord s.content).getD (49 + j) 0 = s.latchBytes.getD j 0 :=
  record_getD (content_eq_head s) (by rw [contentHead_length]) (by rw [latchBytes_length]; exact hj)

theorem record_ask (hj : j < 5) : (displayRecord s.content).getD (54 + j) 0 = s.askBytes.getD j 0 :=
  record_getD (eq_append_regroup (content_eq_head s)) (by rw [List.length_append, contentHead_length, latchBytes_length])
    (by rw [askBytes_length]; exact hj)

theorem record_station (hj : j < 4) : (displayRecord s.content).getD (59 + j) 0 = s.stationBytes.getD j 0 :=
  record_getD (eq_append_regroup (eq_append_regroup (content_eq_head s)))
    (by rw [List.length_append, List.length_append, contentHead_length, latchBytes_length, askBytes_length])
    (by rw [stationBytes_length]; exact hj)

/-- The part of the content before the positions flagged. -/
def State.contentMiddle (s : State) : List Byte := s.contentHead ++ s.latchBytes ++ s.askBytes ++ s.stationBytes

theorem contentMiddle_length : s.contentMiddle.length = 61 := by
  simp only [State.contentMiddle, List.length_append, contentHead_length, latchBytes_length, askBytes_length,
    stationBytes_length]

theorem content_eq_middle : s.content = s.contentMiddle ++ (s.positionBytes (fun r => r.mismatch) ++
    (s.positionBytes (fun r => r.linkLost) ++ (answerBytes s.pi.answer ++ (s.counterBytes ++ s.relayBytes)))) := by
  simp only [content_eq_head, State.contentMiddle, List.append_assoc]

theorem record_mismatch (hj : j < 2) :
    (displayRecord s.content).getD (63 + j) 0 = (s.positionBytes (fun r => r.mismatch)).getD j 0 :=
  record_getD (content_eq_middle s) (by rw [contentMiddle_length]) hj

theorem record_linkLost (hj : j < 2) :
    (displayRecord s.content).getD (65 + j) 0 = (s.positionBytes (fun r => r.linkLost)).getD j 0 :=
  record_getD (eq_append_regroup (content_eq_middle s))
    (by rw [List.length_append, contentMiddle_length, positionBytes_length]) hj

theorem record_answer (hj : j < 3) : (displayRecord s.content).getD (67 + j) 0 = (answerBytes s.pi.answer).getD j 0 :=
  record_getD (eq_append_regroup (eq_append_regroup (content_eq_middle s)))
    (by simp only [List.length_append, contentMiddle_length, positionBytes_length])
    (by rw [answerBytes_length]; exact hj)

theorem record_counters (hj : j < 5) : (displayRecord s.content).getD (70 + j) 0 = s.counterBytes.getD j 0 :=
  record_getD (eq_append_regroup (eq_append_regroup (eq_append_regroup (content_eq_middle s))))
    (by simp only [List.length_append, contentMiddle_length, positionBytes_length, answerBytes_length]) hj

theorem record_relay (hj : j < 6) : (displayRecord s.content).getD (75 + j) 0 = s.relayBytes.getD j 0 :=
  record_getD (C := [])
    ((eq_append_regroup (eq_append_regroup (eq_append_regroup (eq_append_regroup (content_eq_middle s))))).trans
      (congrArg _ (List.append_nil _).symm))
    (by simp only [List.length_append, contentMiddle_length, positionBytes_length, answerBytes_length, counterBytes_length])
    hj

end

/-! ### The whole record -/

theorem byte_toNat (n : Nat) : (byte n).toNat = n % 256 := BitVec.toNat_ofNat n 8

theorem displayRecord_length (c : List Byte) : (displayRecord c).length = c.length + 3 := by simp [displayRecord]

/-- The last character is the sum of all but the first, modulo 256 (13.4). -/
theorem displayRecord_check {c : List Byte} (h : c.length = 79) :
    (((displayRecord c).take 81).drop 1).foldl (fun acc x => acc + x.toNat) 0 % 256 =
      ((displayRecord c).getD 81 0).toNat := by
  have body : ((displayRecord c).take 81).drop 1 = 79 :: c := by
    unfold displayRecord
    rw [List.take_append_of_le_length (by simp [h]), List.take_of_length_le (by simp [h])]
    rfl
  have last : (displayRecord c).getD 81 0 = byte ((79 :: c).foldl (fun acc c => acc + c.toNat) 0) := by
    unfold displayRecord
    rw [List.getD_append_right _ _ _ _ (by simp [h])]
    simp [h]
  rw [body, last, byte_toNat]

end Sys2Proof.Machine

/-! SUPPORT. What the fields of a display record show (13.4): the lamps, joining, keying, the radio and the slots. -/

namespace Sys2Proof.Machine

/-! ### The lamps (R198) -/

theorem lamp_le (s : State) (n : Antenna) : s.lamp n ≤ 8 := by
  unfold State.lamp
  repeat' split
  all_goals omega

theorem lampBytes_getD (s : State) {k : Nat} (hk : k < 16) :
    s.lampBytes.getD k 0 = byte (16 * s.lamp (2 * k + 1) + s.lamp (2 * k + 2)) := by
  unfold State.lampBytes
  rw [List.getD_eq_getElem _ _ (by simp [hk]), List.getElem_map, List.getElem_range]

theorem or_regroup (a b c d e : Prop) : (((a ∨ b ∨ c) ∨ d) ∨ e) ↔ (a ∨ d) ∨ (b ∨ e) ∨ c := by tauto

/-- A slot lights the lamp of what it has, and of the members its HELD and FREEING ports join (R198). -/
theorem slotShows_iff (s : State) (i : Slot) (n : Antenna) : s.slotShows i n = true ↔
    (∃ h, (s.slot i).held = some h ∧ (h.antenna = n ∨ n ∈ s.membersOf h.antenna h.mask)) ∨
      (∃ x ∈ (s.slot i).freeing, x.antenna = n ∨ n ∈ s.membersOf x.antenna x.mask) ∨
      ∃ c, (s.slot i).cand = some c ∧ c.antenna = n := by
  have held : (match (s.slot i).held with
      | some h => (s.membersOf h.antenna h.mask).contains n
      | none => false) = true ↔ ∃ h, (s.slot i).held = some h ∧ n ∈ s.membersOf h.antenna h.mask := by
    cases (s.slot i).held <;> simp
  have has : ((s.slot i).antennas).contains n = true ↔ (∃ h, (s.slot i).held = some h ∧ h.antenna = n) ∨
      (∃ x ∈ (s.slot i).freeing, x.antenna = n) ∨ ∃ c, (s.slot i).cand = some c ∧ c.antenna = n := by
    unfold SlotRecord.antennas
    simp only [List.contains_iff_mem, List.mem_append, Option.mem_toList, Option.map_eq_some_iff, List.mem_map, or_assoc]
  have freeing : (s.slot i).freeing.any (fun p => (s.membersOf p.antenna p.mask).contains n) = true ↔
      ∃ x ∈ (s.slot i).freeing, n ∈ s.membersOf x.antenna x.mask := by
    simp only [List.any_eq_true, List.contains_iff_mem]
  unfold State.slotShows
  rw [Bool.or_eq_true, Bool.or_eq_true]
  refine (or_congr (or_congr has held) freeing).trans ?_
  simp only [and_or_left, exists_or]
  exact or_regroup _ _ _ _ _

theorem noSuchAntenna_iff (s : State) (n : Antenna) : s.noSuchAntenna n = true ↔
    s.ps.plan = none ∨ (s.antenna n).kind = .absent ∨ (s.antenna n).kind = .stackPort ∧ s.groupOf n = none := by
  have table : s.noSuchAntenna n = true ↔
      (s.antenna n).kind = .absent ∨ (s.antenna n).kind = .stackPort ∧ s.groupOf n = none := by
    simp [State.noSuchAntenna, State.isPort]
  have unplanned (none : s.ps.plan = none) : (s.antenna n).kind = .absent := by
    unfold State.antenna
    rw [none]
    rfl
  rw [table]
  exact ⟨.inr, fun h => h.elim (fun none => .inl (unplanned none)) id⟩

theorem asked_iff (s : State) (n : Antenna) :
    s.asked n = true ↔ ∃ p k since m, s.hu.ask = .standing p n k since m := by
  unfold State.asked
  cases s.hu.ask <;> simp

theorem waitEntry_isSome_iff (s : State) (n : Antenna) :
    (s.waitEntry n).isSome = true ↔ ∃ e ∈ s.ct.waitList, e.antenna = n := by
  simp [State.waitEntry, List.find?_isSome]

theorem reservedElsewhere_iff (s : State) (n : Antenna) :
    s.reservedElsewhere n = true ↔ ∃ x ∈ s.ct.reservations, x.antenna = n ∧ s.jc.number ≠ some x.position := by
  unfold State.reservedElsewhere
  simp only [List.any_eq_true, Bool.and_eq_true, beq_iff_eq, bne_iff_ne, ne_comm]

/-- The lamp table: the first row that applies (R198). -/
theorem lamp_table (s : State) (n : Antenna) :
    (s.noSuchAntenna n = true → s.lamp n = 0) ∧
    (s.noSuchAntenna n = false →
      (s.slotShows .main n = true → s.lamp n = 2) ∧
      (s.slotShows .main n = false → s.slotShows .aux n = true → s.lamp n = 3) ∧
      (s.slotShows .main n = false → s.slotShows .aux n = false →
        (s.slotShows .nextA n || s.slotShows .nextB n) = true → s.lamp n = 4) ∧
      ((∀ i, s.slotShows i n = false) →
        (s.asked n = true → s.lamp n = 8) ∧
        (s.asked n = false →
          ((s.waitEntry n).isSome = true → s.lamp n = 6) ∧
          ((s.waitEntry n).isSome = false →
            (s.reservedElsewhere n = true → s.lamp n = 7) ∧
            (s.reservedElsewhere n = false → s.lamp n = if s.available n = true then 1 else 5))))) := by
  refine ⟨fun gone => if_pos gone, fun here => ⟨fun main => ?_, fun main aux => ?_, fun main aux next => ?_,
    fun dark => ⟨fun asked => ?_, fun asked => ⟨fun waits => ?_, fun waits => ⟨fun kept => ?_, fun kept => ?_⟩⟩⟩⟩⟩
  · simp [State.lamp, here, main]
  · simp [State.lamp, here, main, aux]
  · unfold State.lamp
    rw [here, main, aux, next]
    rfl
  · simp [State.lamp, here, dark, asked]
  · simp [State.lamp, here, dark, asked, waits]
  · unfold State.lamp
    rw [here, dark .main, dark .aux, dark .nextA, dark .nextB, asked, waits, kept]
    rfl
  · unfold State.lamp
    rw [here, dark .main, dark .aux, dark .nextA, dark .nextB, asked, waits, kept]
    rfl

/-! ### Flags, reasons and warnings -/

theorem flag_eq (b : Bool) (w : Nat) : flag b w = b.toNat * w := by cases b <;> simp [flag]

theorem inhibitCode_le (r : Reason) : inhibitCode r ≤ 15 := by cases r <;> decide

theorem allReasons_inhibitCode (r : Reason) : allReasons[inhibitCode r - 1]? = some r ∧ 1 ≤ inhibitCode r := by
  cases r <;> decide

theorem seqCode_le (x : SeqState) : seqCode x ≤ 6 := by cases x <;> decide

theorem seqStates_seqCode (x : SeqState) :
    [SeqState.receive, .keyWait, .announce, .ampOn, .transmit, .tail, .lockout][seqCode x]? = some x := by
  cases x <;> rfl

theorem joinCode_le (x : JoinState) : joinCode x ≤ 7 := by cases x <;> decide

theorem warningByte_toNat (kind : WarningKind) (p : Position) : (warningByte (kind, p)).toNat % 16 = p.toNat ∧
    [WarningKind.spacing, .harmonic2, .harmonic3][(warningByte (kind, p)).toNat / 16 - 1]? = some kind ∧
      1 ≤ (warningByte (kind, p)).toNat / 16 := by
  have small := p.isLt
  unfold warningByte
  rw [byte_toNat]
  cases kind
  · exact ⟨by dsimp only; omega, by rw [show (16 * 1 + p.toNat) % 256 / 16 = 1 by omega]; rfl, by dsimp only; omega⟩
  · exact ⟨by dsimp only; omega, by rw [show (16 * 2 + p.toNat) % 256 / 16 = 2 by omega]; rfl, by dsimp only; omega⟩
  · exact ⟨by dsimp only; omega, by rw [show (16 * 3 + p.toNat) % 256 / 16 = 3 by omega]; rfl, by dsimp only; omega⟩

/-- The warnings' bytes, after the three that precede them. -/
theorem keyBytes_warning (s : State) {k : Nat} (hk : k < 8) :
    s.keyBytes.getD (3 + k) 0 = (s.ie.warnings[k]?.map warningByte).getD 0 := by
  unfold State.keyBytes
  rw [List.getD_append_right _ _ _ _ (by simp), List.getD_eq_getElem?_getD]
  rw [List.length_cons, List.length_cons, List.length_cons, List.length_nil, Nat.add_sub_cancel_left,
    List.getElem?_take_of_lt hk]
  by_cases some : k < s.ie.warnings.length
  · rw [List.getElem?_append_left (by simpa using some), List.getElem?_map]
  · have none : s.ie.warnings[k]? = none := List.getElem?_eq_none (by omega)
    rw [List.getElem?_append_right (by simpa using some), List.getElem?_replicate, none]
    split <;> rfl

/-! ### Words of three bytes -/

/-- Three bytes carry a value below 2^24. -/
theorem word_of_bytes {w : Nat} (h : w < 16777216) :
    65536 * (byte (w / 65536)).toNat + 256 * (byte (w / 256)).toNat + (byte w).toNat = w := by
  rw [byte_toNat, byte_toNat, byte_toNat]
  omega

/-- The value a slot's three bytes carry: the first of its parts, 0 for an empty slot (R199, 13.4). -/
def slotWord (r : SlotRecord) : Nat :=
  match r.shown with
  | [] => 0
  | p :: _ => 262144 * p.antenna + 32768 * partCode p.state + 512 * p.tenure + 64 * p.mask.toNat

theorem slotBytes_eq (r : SlotRecord) :
    slotBytes r = [byte (slotWord r / 65536), byte (slotWord r / 256), byte (slotWord r)] := rfl

theorem slotWord_cand {r : SlotRecord} {c : Candidate} (h : r.cand = some c) : slotWord r =
    262144 * c.antenna + 32768 * (if c.phase = .queued then 3 else 4) + 512 * 0 + 64 * c.mask.toNat := by
  obtain ⟨antenna, mask, phase, waits, last, read⟩ := c
  unfold slotWord SlotRecord.shown
  rw [h]
  cases phase <;> rfl

theorem slotWord_held {r : SlotRecord} {h : HeldPart} (none : r.cand = .none) (held : r.held = some h) :
    slotWord r = 262144 * h.antenna + 32768 * 1 + 512 * h.tenure + 64 * h.mask.toNat := by
  unfold slotWord SlotRecord.shown
  rw [none, held]
  rfl

theorem slotWord_freeing {r : SlotRecord} {x : FreeingPart} (none : r.cand = .none) (bare : r.held = .none)
    (last : r.freeing.getLast? = some x) :
    slotWord r = 262144 * x.antenna + 32768 * 2 + 512 * x.tenure + 64 * x.mask.toNat := by
  obtain ⟨l, hl⟩ : ∃ l, r.freeing = l ++ [x] := List.getLast?_eq_some_iff.1 last
  unfold slotWord SlotRecord.shown
  rw [none, bare, hl, List.reverse_append]
  rfl

theorem slotWord_empty {r : SlotRecord} (none : r.cand = .none) (bare : r.held = .none) (free : r.freeing = []) :
    slotWord r = 0 := by
  unfold slotWord SlotRecord.shown
  rw [none, bare, free]
  rfl

end Sys2Proof.Machine

/-! SUPPORT. What the fields of a display record show (13.4): positions, answers, counters and lines, and each field read
from the record. -/

namespace Sys2Proof.Machine

/-! ### The positions flagged -/

/-- The word of the positions a test flags. -/
def State.positionWord (s : State) (hit : PeerRecord → Bool) : BitVec 16 :=
  (s.pt.records.filter hit).foldl (fun acc r => acc ||| 1#16 <<< r.pos.toNat) 0

theorem getLsbD_position_bit (p q : Position) : (1#16 <<< q.toNat).getLsbD p.toNat = decide (q = p) := by
  revert p q
  decide

/-- A bit of a fold of position bits: it was set, or a record of that position is in the list. -/
theorem getLsbD_foldl_position (l : List PeerRecord) (w : BitVec 16) (p : Position) :
    (l.foldl (fun acc r => acc ||| 1#16 <<< r.pos.toNat) w).getLsbD p.toNat = true ↔
      w.getLsbD p.toNat = true ∨ ∃ r ∈ l, r.pos = p := by
  induction l generalizing w with
  | nil => simp
  | cons r l ih =>
    rw [List.foldl_cons, ih, BitVec.getLsbD_or, getLsbD_position_bit]
    simp [or_assoc]

theorem positionWord_bit (s : State) (hit : PeerRecord → Bool) (p : Position) :
    (s.positionWord hit).toNat / 2 ^ p.toNat % 2 = 1 ↔ ∃ r ∈ s.pt.records, r.pos = p ∧ hit r = true := by
  have bit : (s.positionWord hit).getLsbD p.toNat = true ↔ ∃ r ∈ s.pt.records, r.pos = p ∧ hit r = true := by
    unfold State.positionWord
    rw [getLsbD_foldl_position]
    have zero : (0 : BitVec 16).getLsbD p.toNat = false := BitVec.getLsbD_zero
    simp only [zero, Bool.false_eq_true, false_or, List.mem_filter, and_assoc, and_comm (a := hit _ = true)]
  rw [← bit, BitVec.getLsbD, Nat.testBit_eq_decide_div_mod_eq, decide_eq_true_eq]

theorem positionBytes_word (s : State) (hit : PeerRecord → Bool) :
    256 * ((s.positionBytes hit).getD 0 0).toNat + ((s.positionBytes hit).getD 1 0).toNat =
      (s.positionWord hit).toNat := by
  have small := (s.positionWord hit).isLt
  have high : ((s.positionBytes hit).getD 0 0).toNat = (s.positionWord hit).toNat / 256 % 256 := by
    show ((s.positionWord hit).extractLsb' 8 8).toNat = _
    rw [BitVec.extractLsb'_toNat, Nat.shiftRight_eq_div_pow]
  have low : ((s.positionBytes hit).getD 1 0).toNat = (s.positionWord hit).toNat % 256 := by
    show ((s.positionWord hit).extractLsb' 0 8).toNat = _
    rw [BitVec.extractLsb'_toNat, Nat.shiftRight_zero]
  rw [high, low]
  omega

/-! ### Codes -/

theorem blocks_blockCode (b : Block) : 2 ≤ blockCode b ∧ blockCode b ≤ 14 ∧
    [Block.fu, .ps, .jc, .lc, .pt, .sg, .ct, .hu, .ie, .ks, .rd, .cu, .pi][blockCode b - 2]? = some b := by
  cases b <;> decide

theorem denials_denialCode (d : Denial) : 16 ≤ denialCode d ∧ denialCode d ≤ 36 ∧
    [Denial.notRunning, .noSuchAntenna, .wrongKind, .privateOwner, .notCovered, .relearn, .linkLost, .planDiff,
      .reserved, .mine, .busy, .full, .waitFull, .queue, .mask, .reshaping, .capacity, .notHeld, .notSingle, .noAsk,
      .notPermitted][denialCode d - 16]? = some d := by
  cases d <;> decide

theorem outcomes_outcomeCode {o : PanelOutcome} (taken : ∀ d, o ≠ .denied d) : 1 ≤ outcomeCode o ∧ outcomeCode o ≤ 9 ∧
    [PanelOutcome.accepted, .waiting, .asking, .valueSet, .unknown, .wait, .kept, .giving, .notSent][outcomeCode o - 1]? =
      some o := by
  cases o with
  | denied d => exact absurd rfl (taken d)
  | _ => decide

theorem answerCode_eq (k : AnswerKind) : answerCode k = if k = .keep then 1 else 2 := by cases k <;> rfl

theorem commandNames_commandCode (n : CommandName) : (commandCode n).toNat ≤ 3 ∧
    [CommandName.quiet, .quietEnd, .rejoin, .relearn][(commandCode n).toNat]? = some n := by
  cases n <;> decide

theorem askKinds_askKindCode (k : AskKind) :
    askKindCode k ≤ 2 ∧ [AskKind.main, .aux, .next][askKindCode k]? = some k := by
  cases k <;> decide

theorem targetAnswer_of_answer {s : State} {p : Position} {a : Antenna} {r : PeerRecord} {me : Position} {k : AnswerKind}
    (found : s.pt.find p = some r) (own : s.jc.number = some me) (answer : r.answer = some (me, a, k)) :
    s.targetAnswer p a = if k = .keep then 1 else 2 := by
  unfold State.targetAnswer
  rw [found]
  dsimp only [Option.bind_some]
  rw [answer]
  dsimp only
  rw [if_pos ⟨own, rfl⟩, answerCode_eq]

theorem targetAnswer_none {s : State} {p : Position} {a : Antenna}
    (none : ∀ r me k, s.pt.find p = some r → s.jc.number = some me → r.answer ≠ some (me, a, k)) :
    s.targetAnswer p a = 0 := by
  unfold State.targetAnswer
  split
  · next t n k h =>
    obtain ⟨r, found, answer⟩ := Option.bind_eq_some_iff.1 h
    refine if_neg fun ⟨own, same⟩ => none r t k found own ?_
    rw [answer, same]
  · rfl

theorem targetAnswer_le (s : State) (p : Position) (a : Antenna) : s.targetAnswer p a ≤ 2 := by
  have code (k : AnswerKind) : answerCode k ≤ 2 := by cases k <;> decide
  unfold State.targetAnswer
  split
  · split
    · exact code _
    · exact Nat.zero_le _
  · exact Nat.zero_le _

/-! ### The lowest line on -/

theorem lineOn_le (n : Nat) (l : BitVec n) : lineOn n l ≤ n := by
  unfold lineOn
  split
  · next h => exact List.mem_range.1 (List.mem_of_find?_eq_some h)
  · exact Nat.zero_le n

theorem lineOn_filterBit {b : Nat} (h : b ≤ 10) : lineOn 10 (filterBit b) = b := by
  have all : ∀ b < 11, lineOn 10 (filterBit b) = b := by decide
  exact all b (Nat.lt_succ_of_le h)

theorem lineOn_antBit {a : Nat} (h : a ≤ 32) : lineOn 32 (antBit a) = a := by
  have all : ∀ a < 33, lineOn 32 (antBit a) = a := by decide
  exact all a (Nat.lt_succ_of_le h)

end Sys2Proof.Machine

/-! SUPPORT. The fields of a display record as they are read from its characters (13.4). -/

namespace Sys2Proof.Machine

/-- The characters of the record of a part's content, as numbers. -/
def ReadsRecord (s : State) (at_ : Nat → Nat) : Prop := ∀ k, at_ k = ((displayRecord s.content).getD k 0).toNat

section
variable {s : State} {at_ : Nat → Nat} (hat : ReadsRecord s at_)
include hat

/-! ### The lamps -/

theorem at_lamps {k : Nat} (hk : k < 16) : at_ (2 + k) = 16 * s.lamp (2 * k + 1) + s.lamp (2 * k + 2) := by
  have first := lamp_le s (2 * k + 1)
  have second := lamp_le s (2 * k + 2)
  rw [hat, record_lamps s hk, lampBytes_getD s hk, byte_toNat]
  omega

/-- An odd antenna's lamp stands in the high half of its byte, an even one's in the low half. -/
theorem at_lamp {n : Nat} (low : 1 ≤ n) (high : n ≤ 32) :
    (if n % 2 = 1 then at_ (2 + (n - 1) / 2) / 16 else at_ (2 + (n - 1) / 2) % 16) = s.lamp n := by
  rcases Nat.even_or_odd' n with ⟨k, rfl | rfl⟩
  · obtain ⟨m, rfl⟩ : ∃ m, k = m + 1 := ⟨k - 1, by omega⟩
    have small := lamp_le s (2 * (m + 1))
    have both := at_lamps hat (k := m) (by omega)
    rw [if_neg (by omega), show (2 * (m + 1) - 1) / 2 = m by omega, both]
    show (_ + s.lamp (2 * (m + 1))) % 16 = _
    omega
  · have small := lamp_le s (2 * k + 2)
    have both := at_lamps hat (k := k) (by omega)
    rw [if_pos (by omega), show (2 * k + 1 - 1) / 2 = k by omega, both]
    omega

/-! ### Joining and flags -/

omit hat in
/-- Eight flags in one byte, the first in its bit 7. -/
theorem flags_byte (a b c d e f g h : Bool) :
    ∀ x ∈ [(7, a), (6, b), (5, c), (4, d), (3, e), (2, f), (1, g), (0, h)],
      (byte (flag a 128 + flag b 64 + flag c 32 + flag d 16 + flag e 8 + flag f 4 + flag g 2 + flag h 1)).toNat /
        2 ^ x.1 % 2 = x.2.toNat := by
  have ha := a.toNat_le
  have hb := b.toNat_le
  have hc := c.toNat_le
  have hd := d.toNat_le
  have he := e.toNat_le
  have hf := f.toNat_le
  have hg := g.toNat_le
  have hh := h.toNat_le
  simp only [List.forall_mem_cons, List.not_mem_nil, IsEmpty.forall_iff, implies_true, and_true, byte_toNat, flag_eq]
  refine ⟨?_, ?_, ?_, ?_, ?_, ?_, ?_, ?_⟩ <;> omega

omit hat in
/-- The number a record shows, 16 and more, or 0 for none. -/
def State.numberCode (s : State) : Nat :=
  match s.shownNumber with
  | some p => 16 + p.toNat
  | none => 0

omit hat in
theorem numberCode_le (s : State) : s.numberCode ≤ 31 := by
  unfold State.numberCode
  split
  · next p _ =>
    have := p.isLt
    omega
  · omega

theorem at_join {j : Nat} (hj : j < 5) : at_ (18 + j) = (s.joinBytes.getD j 0).toNat := by rw [hat, record_join s hj]

theorem at_join_first : at_ 18 / 32 = joinCode s.jc.state ∧ at_ 18 % 32 = s.numberCode := by
  have code := joinCode_le s.jc.state
  have number := numberCode_le s
  have first : at_ 18 = (32 * joinCode s.jc.state + s.numberCode) % 256 :=
    (at_join hat (j := 0) (by decide)).trans (byte_toNat _)
  omega

theorem at_attempts (h : s.jc.attempts ≤ 255) : at_ 19 = s.jc.attempts := by
  have second : at_ 19 = s.jc.attempts % 256 := (at_join hat (j := 1) (by decide)).trans (byte_toNat _)
  omega

theorem at_planCheck : at_ 20 = s.ps.planCheck.toNat := at_join hat (j := 2) (by decide)

theorem at_flags : ∀ x ∈ [(7, s.ps.planValid), (6, s.pi.waitMode), (5, s.ct.relearn.isRunning), (4, s.cu.standby),
    (3, s.cu.deferred), (2, s.pt.linkLost), (1, s.pt.disagreement), (0, s.cu.quiet.isSome)],
      at_ 21 / 2 ^ x.1 % 2 = x.2.toNat := by
  rw [show at_ 21 = _ from at_join hat (j := 3) (by decide)]
  exact flags_byte _ _ _ _ _ _ _ _

theorem at_panelMask (h : s.lc.level ≤ 15) : at_ 22 / 32 = (s.ct.panelMask.getD 0).toNat ∧
    at_ 22 / 16 % 2 = s.ks.overflowMark.toNat ∧ at_ 22 % 16 = s.lc.level := by
  have mask := (s.ct.panelMask.getD 0).isLt
  have mark := s.ks.overflowMark.toNat_le
  have last : at_ 22 = (32 * (s.ct.panelMask.getD 0).toNat + s.ks.overflowMark.toNat * 16 + s.lc.level) % 256 := by
    rw [← flag_eq, ← byte_toNat]
    exact at_join hat (j := 4) (by decide)
  omega

/-! ### Reason, sequencer, lockout and warnings -/

theorem at_key {j : Nat} (hj : j < 11) : at_ (23 + j) = (s.keyBytes.getD j 0).toNat := by rw [hat, record_key s hj]

omit hat in
/-- The reason's code, 0 for none. -/
def inhibitCodeOf : Option Reason → Nat
  | some r => inhibitCode r
  | none => 0

omit hat in
theorem inhibitCodeOf_le (x : Option Reason) : inhibitCodeOf x ≤ 15 := by
  cases x with
  | none => exact Nat.zero_le _
  | some r => exact inhibitCode_le r

theorem at_reason : at_ 23 / 16 = inhibitCodeOf s.ie.reason ∧ at_ 23 % 16 = seqCode s.ks.state := by
  have reason := inhibitCodeOf_le s.ie.reason
  have state := seqCode_le s.ks.state
  have first : at_ 23 = (16 * inhibitCodeOf s.ie.reason + seqCode s.ks.state) % 256 :=
    (at_key hat (j := 0) (by decide)).trans (byte_toNat _)
  omega

theorem at_lockout : at_ 24 = lockCode s.ks.lockout := by
  have small : lockCode s.ks.lockout ≤ 16 := by
    unfold lockCode
    split
    · exact Nat.zero_le _
    · exact (inhibitCode_le _).trans (by decide)
    · exact le_rfl
  have second : at_ 24 = lockCode s.ks.lockout % 256 := (at_key hat (j := 1) (by decide)).trans (byte_toNat _)
  omega

theorem at_warnings (h : s.ie.warnings.length ≤ 255) : at_ 25 = s.ie.warnings.length := by
  have third : at_ 25 = s.ie.warnings.length % 256 := (at_key hat (j := 2) (by decide)).trans (byte_toNat _)
  omega

theorem at_warning {k : Nat} (hk : k < 8) : at_ (26 + k) = ((s.ie.warnings[k]?.map warningByte).getD 0).toNat := by
  rw [← keyBytes_warning s hk, ← at_key hat (by omega), ← Nat.add_assoc]

/-! ### The radio and the slots -/

theorem at_radio {j : Nat} (hj : j < 3) : at_ (34 + j) = (s.radioBytes.getD j 0).toNat := by rw [hat, record_radio s hj]

theorem at_band_freq (h : s.fu.band ≤ 10) :
    65536 * at_ 34 + 256 * at_ 35 + at_ 36 = 1048576 * s.fu.band + (freqCode s.fu.freq).toNat := by
  have small := (freqCode s.fu.freq).isLt
  have band : @LE.le Nat _ s.fu.band 10 := h
  rw [show at_ 34 = _ from at_radio hat (j := 0) (by decide), show at_ 35 = _ from at_radio hat (j := 1) (by decide),
    show at_ 36 = _ from at_radio hat (j := 2) (by decide)]
  exact word_of_bytes (by omega)

theorem at_slots {j : Nat} (hj : j < 12) : at_ (37 + j) = (s.slotsBytes.getD j 0).toNat := by rw [hat, record_slots s hj]

omit hat in
/-- A slot's three bytes, at the slot's place. -/
theorem slotsBytes_getD {i : Slot} {k : Nat} (h : [Slot.main, .aux, .nextA, .nextB][k]? = some i) {d : Nat} (hd : d < 3) :
    s.slotsBytes.getD (3 * k + d) 0 = (slotBytes (s.slot i)).getD d 0 := by
  have eq := slotsBytes_eq s
  rw [eq, slotBytes_eq, slotBytes_eq, slotBytes_eq, slotBytes_eq]
  match k, h with
  | 0, rfl => match d, hd with
    | 0, _ | 1, _ | 2, _ => rfl
  | 1, rfl => match d, hd with
    | 0, _ | 1, _ | 2, _ => rfl
  | 2, rfl => match d, hd with
    | 0, _ | 1, _ | 2, _ => rfl
  | 3, rfl => match d, hd with
    | 0, _ | 1, _ | 2, _ => rfl

theorem at_slot {i : Slot} {k : Nat} (place : [Slot.main, .aux, .nextA, .nextB][k]? = some i)
    (small : slotWord (s.slot i) < 16777216) :
    65536 * at_ (37 + 3 * k) + 256 * at_ (37 + 3 * k + 1) + at_ (37 + 3 * k + 2) = slotWord (s.slot i) := by
  have inside : k < 4 := (List.getElem?_eq_some_iff.1 place).1
  have byteAt {d : Nat} (hd : d < 3) : at_ (37 + 3 * k + d) = ((slotBytes (s.slot i)).getD d 0).toNat := by
    rw [Nat.add_assoc, at_slots hat (by omega), slotsBytes_getD place hd]
  rw [show at_ (37 + 3 * k) = _ from byteAt (d := 0) (by decide), byteAt (by decide), byteAt (by decide), slotBytes_eq]
  exact word_of_bytes small

end

end Sys2Proof.Machine

/-! SUPPORT. The fields of a display record as they are read from its characters (13.4): handing over, the station, the
answer, the counters and the relays. -/

namespace Sys2Proof.Machine

section
variable {s : State} {at_ : Nat → Nat} (hat : ReadsRecord s at_)
include hat

/-! ### The latch -/

theorem at_latch {j : Nat} (hj : j < 5) : at_ (49 + j) = (s.latchBytes.getD j 0).toNat := by rw [hat, record_latch s hj]

theorem at_latch_empty (none : s.hu.latch = none) {k : Nat} (low : 49 ≤ k) (high : k ≤ 53) : at_ k = 0 := by
  obtain ⟨j, rfl⟩ := Nat.exists_eq_add_of_le low
  have small : j < 5 := by omega
  rw [at_latch hat small]
  unfold State.latchBytes
  rw [none]
  exact match j, small with
    | 0, _ | 1, _ | 2, _ | 3, _ | 4, _ => rfl

omit hat in
theorem latchBytes_of_latch {l : Latch} (latched : s.hu.latch = some l) : s.latchBytes =
    [byte (128 + l.asker.toNat), byte l.antenna, byte (s.askerLabel l).c1.toNat, byte (s.askerLabel l).c2.toNat,
      byte (s.askerLabel l).c3.toNat] := by
  unfold State.latchBytes
  rw [latched]

omit hat in
/-- The label shown is the latch's, or the one its record has (R138). -/
theorem askerLabel_eq {l : Latch} {x : Label}
    (h : l.label = some x ∨ l.label = none ∧ (s.pt.find l.asker).bind (fun r => r.label) = some x) :
    s.askerLabel l = x := by
  unfold State.askerLabel
  obtain own | ⟨none, record⟩ := h
  · rw [own]
  · rw [none, record]

theorem at_latch_occupied {l : Latch} (latched : s.hu.latch = some l) :
    at_ 49 = 128 + l.asker.toNat ∧ (l.antenna ≤ 255 → at_ 50 = l.antenna) ∧
      ∀ x, (l.label = some x ∨ l.label = none ∧ (s.pt.find l.asker).bind (fun r => r.label) = some x) →
        at_ 51 = x.c1.toNat ∧ at_ 52 = x.c2.toNat ∧ at_ 53 = x.c3.toNat := by
  have bytes {j : Nat} (hj : j < 5) := at_latch hat hj
  rw [latchBytes_of_latch latched] at bytes
  have asker := l.asker.isLt
  have h49 : at_ 49 = (128 + l.asker.toNat) % 256 := (bytes (j := 0) (by decide)).trans (byte_toNat _)
  have h50 : at_ 50 = l.antenna % 256 := (bytes (j := 1) (by decide)).trans (byte_toNat _)
  have h51 : at_ 51 = (s.askerLabel l).c1.toNat % 256 := (bytes (j := 2) (by decide)).trans (byte_toNat _)
  have h52 : at_ 52 = (s.askerLabel l).c2.toNat % 256 := (bytes (j := 3) (by decide)).trans (byte_toNat _)
  have h53 : at_ 53 = (s.askerLabel l).c3.toNat % 256 := (bytes (j := 4) (by decide)).trans (byte_toNat _)
  refine ⟨by omega, fun h => h50.trans (Nat.mod_eq_of_lt (Nat.lt_succ_of_le h)), fun x label => ?_⟩
  rw [askerLabel_eq label] at h51 h52 h53
  have c1 := x.c1.isLt
  have c2 := x.c2.isLt
  have c3 := x.c3.isLt
  omega

/-! ### The ask and the answer -/

theorem at_ask {j : Nat} (hj : j < 5) : at_ (54 + j) = (s.askBytes.getD j 0).toNat := by rw [hat, record_ask s hj]

omit hat in
/-- The ask's three bytes (R199, 13.4). -/
def State.outAskBytes (s : State) : List Byte :=
  match s.hu.ask with
  | .none => [0, 0, 0]
  | .choosing _ p => [64, 0, byte (s.timing.askLife - p)]
  | .standing target a k _ p =>
    [byte (128 + 16 * askKindCode k + target.toNat), byte (64 * s.targetAnswer target a + a), byte (s.timing.askLife - p)]

omit hat in
/-- The answer's two bytes (R199, 13.4). -/
def State.outAnswerBytes (s : State) : List Byte :=
  match s.hu.answer with
  | none => [0, 0]
  | some x => [byte (16 * answerCode x.kind + x.asker.toNat), byte x.antenna]

omit hat in
theorem askBytes_eq : s.askBytes = s.outAskBytes ++ s.outAnswerBytes := rfl

omit hat in
theorem outAskBytes_length : s.outAskBytes.length = 3 := by
  unfold State.outAskBytes
  split <;> rfl

theorem at_outAsk {j : Nat} (hj : j < 3) : at_ (54 + j) = (s.outAskBytes.getD j 0).toNat := by
  rw [at_ask hat (by omega), askBytes_eq, List.getD_append _ _ _ _ (by rw [outAskBytes_length]; exact hj)]

theorem at_outAnswer {j : Nat} (hj : j < 2) : at_ (57 + j) = (s.outAnswerBytes.getD j 0).toNat := by
  have place : 57 + j = 54 + (3 + j) := by omega
  rw [place, at_ask hat (by omega), askBytes_eq, List.getD_append_right _ _ _ _ (by rw [outAskBytes_length]; omega),
    outAskBytes_length, Nat.add_sub_cancel_left]

theorem at_ask_none (none : s.hu.ask = .none) : at_ 54 = 0 ∧ at_ 55 = 0 ∧ at_ 56 = 0 := by
  have bytes {j : Nat} (hj : j < 3) := at_outAsk hat hj
  rw [show s.outAskBytes = [0, 0, 0] by unfold State.outAskBytes; rw [none]] at bytes
  exact ⟨bytes (j := 0) (by decide), bytes (j := 1) (by decide), bytes (j := 2) (by decide)⟩

theorem at_ask_choosing {since m : Nat} (ask : s.hu.ask = .choosing since m) (life : s.timing.askLife ≤ 255) :
    at_ 54 = 64 ∧ at_ 55 = 0 ∧ at_ 56 = s.timing.askLife - m := by
  have bytes {j : Nat} (hj : j < 3) := at_outAsk hat hj
  rw [show s.outAskBytes = [64, 0, byte (s.timing.askLife - m)] by unfold State.outAskBytes; rw [ask]] at bytes
  have left : at_ 56 = (s.timing.askLife - m) % 256 := (bytes (j := 2) (by decide)).trans (byte_toNat _)
  exact ⟨bytes (j := 0) (by decide), bytes (j := 1) (by decide), left.trans (Nat.mod_eq_of_lt (by omega))⟩

theorem at_ask_standing {p : Position} {a : Nat} {kind : AskKind} {since m : Nat}
    (ask : s.hu.ask = .standing p a kind since m) (small : a ≤ 63) (life : s.timing.askLife ≤ 255) :
    at_ 54 = 128 + 16 * askKindCode kind + p.toNat ∧ at_ 55 = 64 * s.targetAnswer p a + a ∧
      at_ 56 = s.timing.askLife - m := by
  have bytes {j : Nat} (hj : j < 3) := at_outAsk hat hj
  rw [show s.outAskBytes = [byte (128 + 16 * askKindCode kind + p.toNat), byte (64 * s.targetAnswer p a + a),
    byte (s.timing.askLife - m)] by unfold State.outAskBytes; rw [ask]] at bytes
  have code := (askKinds_askKindCode kind).1
  have target := p.isLt
  have answer := targetAnswer_le s p a
  have first : at_ 54 = (128 + 16 * askKindCode kind + p.toNat) % 256 := (bytes (j := 0) (by decide)).trans (byte_toNat _)
  have second : at_ 55 = (64 * s.targetAnswer p a + a) % 256 := (bytes (j := 1) (by decide)).trans (byte_toNat _)
  have left : at_ 56 = (s.timing.askLife - m) % 256 := (bytes (j := 2) (by decide)).trans (byte_toNat _)
  omega

theorem at_answer_none (none : s.hu.answer = none) : at_ 57 = 0 ∧ at_ 58 = 0 := by
  have bytes {j : Nat} (hj : j < 2) := at_outAnswer hat hj
  rw [show s.outAnswerBytes = [0, 0] by unfold State.outAnswerBytes; rw [none]] at bytes
  exact ⟨bytes (j := 0) (by decide), bytes (j := 1) (by decide)⟩

theorem at_answer_some {x : OutAnswer} (answer : s.hu.answer = some x) :
    at_ 57 / 16 = (if x.kind = .keep then 1 else 2) ∧ at_ 57 % 16 = x.asker.toNat ∧
      (x.antenna ≤ 255 → at_ 58 = x.antenna) := by
  have bytes {j : Nat} (hj : j < 2) := at_outAnswer hat hj
  rw [show s.outAnswerBytes = [byte (16 * answerCode x.kind + x.asker.toNat), byte x.antenna] by
    unfold State.outAnswerBytes; rw [answer]] at bytes
  have asker := x.asker.isLt
  have code : answerCode x.kind ≤ 2 := by cases x.kind <;> decide
  have first : at_ 57 = (16 * answerCode x.kind + x.asker.toNat) % 256 := (bytes (j := 0) (by decide)).trans (byte_toNat _)
  have second : at_ 58 = x.antenna % 256 := (bytes (j := 1) (by decide)).trans (byte_toNat _)
  rw [← answerCode_eq]
  exact ⟨by omega, by omega, fun h => second.trans (Nat.mod_eq_of_lt (Nat.lt_succ_of_le h))⟩

/-! ### The station -/

theorem at_station {j : Nat} (hj : j < 4) : at_ (59 + j) = (s.stationBytes.getD j 0).toNat := by
  rw [hat, record_station s hj]

omit hat in
/-- The quiet's two bytes (R199, 13.4). -/
def State.quietBytes (s : State) : List Byte :=
  match s.cu.quiet with
  | none => [0, 0]
  | some q => [byte q.issuer.toNat, byte q.remaining]

omit hat in
/-- The last command's two bytes (R199, 13.4). -/
def State.lastCommandBytes (s : State) : List Byte :=
  match s.cu.last with
  | none => [0, 0]
  | some c =>
    [byte (64 * (if c.applied then 1 else 2) + 4 * (commandCode c.name).toNat + flag c.all 1),
      byte (16 * c.issuer.toNat + c.target.toNat)]

omit hat in
theorem stationBytes_eq : s.stationBytes = s.quietBytes ++ s.lastCommandBytes := rfl

omit hat in
theorem quietBytes_length : s.quietBytes.length = 2 := by
  unfold State.quietBytes
  split <;> rfl

theorem at_quiet {j : Nat} (hj : j < 2) : at_ (59 + j) = (s.quietBytes.getD j 0).toNat := by
  rw [at_station hat (by omega), stationBytes_eq, List.getD_append _ _ _ _ (by rw [quietBytes_length]; exact hj)]

theorem at_lastCommand {j : Nat} (hj : j < 2) : at_ (61 + j) = (s.lastCommandBytes.getD j 0).toNat := by
  have place : 61 + j = 59 + (2 + j) := by omega
  rw [place, at_station hat (by omega), stationBytes_eq,
    List.getD_append_right _ _ _ _ (by rw [quietBytes_length]; omega), quietBytes_length, Nat.add_sub_cancel_left]

theorem at_quiet_none (none : s.cu.quiet = none) : at_ 59 = 0 ∧ at_ 60 = 0 := by
  have bytes {j : Nat} (hj : j < 2) := at_quiet hat hj
  rw [show s.quietBytes = [0, 0] by unfold State.quietBytes; rw [none]] at bytes
  exact ⟨bytes (j := 0) (by decide), bytes (j := 1) (by decide)⟩

theorem at_quiet_some {q : Quiet} (quiet : s.cu.quiet = some q) :
    at_ 59 = q.issuer.toNat ∧ (q.remaining ≤ 255 → at_ 60 = q.remaining) := by
  have bytes {j : Nat} (hj : j < 2) := at_quiet hat hj
  rw [show s.quietBytes = [byte q.issuer.toNat, byte q.remaining] by unfold State.quietBytes; rw [quiet]] at bytes
  have issuer := q.issuer.isLt
  have first : at_ 59 = q.issuer.toNat % 256 := (bytes (j := 0) (by decide)).trans (byte_toNat _)
  have second : at_ 60 = q.remaining % 256 := (bytes (j := 1) (by decide)).trans (byte_toNat _)
  exact ⟨by omega, fun h => second.trans (Nat.mod_eq_of_lt (Nat.lt_succ_of_le h))⟩

theorem at_lastCommand_none (none : s.cu.last = none) : at_ 61 = 0 ∧ at_ 62 = 0 := by
  have bytes {j : Nat} (hj : j < 2) := at_lastCommand hat hj
  rw [show s.lastCommandBytes = [0, 0] by unfold State.lastCommandBytes; rw [none]] at bytes
  exact ⟨bytes (j := 0) (by decide), bytes (j := 1) (by decide)⟩

theorem at_lastCommand_some {c : LastCommand} (last : s.cu.last = some c) :
    at_ 61 / 64 = (if c.applied = true then 1 else 2) ∧ at_ 61 / 4 % 16 = (commandCode c.name).toNat ∧
      at_ 61 % 4 = c.all.toNat ∧ at_ 62 = 16 * c.issuer.toNat + c.target.toNat := by
  have bytes {j : Nat} (hj : j < 2) := at_lastCommand hat hj
  rw [show s.lastCommandBytes = [byte (64 * (if c.applied then 1 else 2) + 4 * (commandCode c.name).toNat + flag c.all 1),
    byte (16 * c.issuer.toNat + c.target.toNat)] by unfold State.lastCommandBytes; rw [last]] at bytes
  have issuer := c.issuer.isLt
  have target := c.target.isLt
  have name := (commandNames_commandCode c.name).1
  have all := c.all.toNat_le
  have first : at_ 61 = (64 * (if c.applied then 1 else 2) + 4 * (commandCode c.name).toNat + c.all.toNat) % 256 := by
    rw [← Nat.mul_one c.all.toNat, ← flag_eq]
    exact (bytes (j := 0) (by decide)).trans (byte_toNat _)
  have second : at_ 62 = (16 * c.issuer.toNat + c.target.toNat) % 256 := (bytes (j := 1) (by decide)).trans (byte_toNat _)
  have applied : (if c.applied = true then 1 else 2) ≤ 2 := by split <;> decide
  omega

theorem at_positions (p : Position) :
    ((256 * at_ 63 + at_ 64) / 2 ^ p.toNat % 2 = 1 ↔ ∃ r ∈ s.pt.records, r.pos = p ∧ r.mismatch = true) ∧
      ((256 * at_ 65 + at_ 66) / 2 ^ p.toNat % 2 = 1 ↔ ∃ r ∈ s.pt.records, r.pos = p ∧ r.linkLost = true) := by
  have mismatch {j : Nat} (hj : j < 2) : at_ (63 + j) = ((s.positionBytes (fun r => r.mismatch)).getD j 0).toNat := by
    rw [hat, record_mismatch s hj]
  have linkLost {j : Nat} (hj : j < 2) : at_ (65 + j) = ((s.positionBytes (fun r => r.linkLost)).getD j 0).toNat := by
    rw [hat, record_linkLost s hj]
  constructor
  · rw [show at_ 63 = _ from mismatch (j := 0) (by decide), show at_ 64 = _ from mismatch (j := 1) (by decide),
      positionBytes_word, positionWord_bit]
  · rw [show at_ 65 = _ from linkLost (j := 0) (by decide), show at_ 66 = _ from linkLost (j := 1) (by decide),
      positionBytes_word, positionWord_bit]

/-! ### The panel's answer and the counters -/

theorem at_panelAnswer {j : Nat} (hj : j < 3) : at_ (67 + j) = ((answerBytes s.pi.answer).getD j 0).toNat := by
  rw [hat, record_answer s hj]

theorem at_panelAnswer_none (none : s.pi.answer = none) : at_ 67 = 0 ∧ at_ 68 = 0 ∧ at_ 69 = 0 := by
  have bytes {j : Nat} (hj : j < 3) := at_panelAnswer hat hj
  rw [none] at bytes
  exact ⟨bytes (j := 0) (by decide), bytes (j := 1) (by decide), bytes (j := 2) (by decide)⟩

theorem at_panelAnswer_key {c : Byte} {o : PanelOutcome} (answer : s.pi.answer = some ⟨.key c, o⟩) :
    at_ 67 = 1 ∧ at_ 68 = c.toNat := by
  have bytes {j : Nat} (hj : j < 3) := at_panelAnswer hat hj
  rw [answer] at bytes
  exact ⟨bytes (j := 0) (by decide), bytes (j := 1) (by decide)⟩

theorem at_panelAnswer_block {b : Block} {o : PanelOutcome} (answer : s.pi.answer = some ⟨.block b, o⟩) :
    at_ 68 = 0 ∧ at_ 67 = blockCode b := by
  have bytes {j : Nat} (hj : j < 3) := at_panelAnswer hat hj
  rw [answer] at bytes
  have small := (blocks_blockCode b).2.1
  have first : at_ 67 = blockCode b % 256 := (bytes (j := 0) (by decide)).trans (byte_toNat _)
  exact ⟨bytes (j := 1) (by decide), by omega⟩

theorem at_panelAnswer_outcome {x : AnswerSource} {o : PanelOutcome} (answer : s.pi.answer = some ⟨x, o⟩) :
    at_ 69 = outcomeCode o % 256 := by
  have bytes : at_ 69 = _ := at_panelAnswer hat (j := 2) (by decide)
  rw [answer] at bytes
  rw [bytes, ← byte_toNat]
  cases x <;> rfl

theorem at_counters {j : Nat} (hj : j < 5) : at_ (70 + j) = (s.counterBytes.getD j 0).toNat := by
  rw [hat, record_counters s hj]

omit hat in
/-- Two decimal digits in one byte. -/
theorem decimal_byte {x d e : Nat} (h : x = (16 * d + e) % 256) (hd : d < 10) (he : e < 10) : x / 16 = d ∧ x % 16 = e := by
  omega

omit hat in
theorem decimal_digits {n : Nat} (h : n ≤ 9999) :
    1000 * (n / 1000 % 10) + 100 * (n / 100 % 10) + 10 * (n / 10 % 10) + n % 10 = n := by
  have hundreds : n / 100 = n / 10 / 10 := (Nat.div_div_eq_div_mul n 10 10).symm
  have thousands : n / 1000 = n / 10 / 10 / 10 := by rw [Nat.div_div_eq_div_mul, Nat.div_div_eq_div_mul]
  omega

theorem at_counts (ok : CountersOk s) : at_ 70 = s.lc.lineErrors ∧ at_ 71 = s.lc.overflows ∧ at_ 72 = s.fu.sentenceErrors ∧
    1000 * (at_ 73 / 16) + 100 * (at_ 73 % 16) + 10 * (at_ 74 / 16) + at_ 74 % 16 = s.ks.refusals ∧
      at_ 73 / 16 ≤ 9 ∧ at_ 73 % 16 ≤ 9 ∧ at_ 74 / 16 ≤ 9 ∧ at_ 74 % 16 ≤ 9 := by
  obtain ⟨sentences, -, errors, overflows, -, -, refusals, -⟩ := ok
  have h70 : at_ 70 = s.lc.lineErrors % 256 := (at_counters hat (j := 0) (by decide)).trans (byte_toNat _)
  have h71 : at_ 71 = s.lc.overflows % 256 := (at_counters hat (j := 1) (by decide)).trans (byte_toNat _)
  have h72 : at_ 72 = s.fu.sentenceErrors % 256 := (at_counters hat (j := 2) (by decide)).trans (byte_toNat _)
  have h73 : at_ 73 = (16 * (s.ks.refusals / 1000 % 10) + s.ks.refusals / 100 % 10) % 256 :=
    (at_counters hat (j := 3) (by decide)).trans (byte_toNat _)
  have h74 : at_ 74 = (16 * (s.ks.refusals / 10 % 10) + s.ks.refusals % 10) % 256 :=
    (at_counters hat (j := 4) (by decide)).trans (byte_toNat _)
  obtain ⟨thousands, hundreds⟩ := decimal_byte h73 (Nat.mod_lt _ (by decide)) (Nat.mod_lt _ (by decide))
  obtain ⟨tens, ones⟩ := decimal_byte h74 (Nat.mod_lt _ (by decide)) (Nat.mod_lt _ (by decide))
  have digits := decimal_digits refusals
  rw [thousands, hundreds, tens, ones]
  omega

/-! ### The relays -/

theorem at_relay {j : Nat} (hj : j < 6) : at_ (75 + j) = (s.relayBytes.getD j 0).toNat := by rw [hat, record_relay s hj]

omit hat in
/-- The Relay Driver's state's code (13.4). -/
def relayCode : RelayState → Nat
  | .steady => 0
  | .breaking => 1
  | .making => 2

theorem at_relayState : at_ 75 / 64 = relayCode s.rd.state ∧ at_ 75 % 64 = lineOn 10 s.rd.lines.filter := by
  have line := lineOn_le 10 s.rd.lines.filter
  have code : relayCode s.rd.state ≤ 2 := by cases s.rd.state <;> decide
  have first : at_ 75 = (64 * relayCode s.rd.state + lineOn 10 s.rd.lines.filter) % 256 :=
    (at_relay hat (j := 0) (by decide)).trans (byte_toNat _)
  omega

theorem at_targetFilter : at_ 80 = lineOn 10 s.rd.target.filter := by
  have line := lineOn_le 10 s.rd.target.filter
  exact (at_relay hat (j := 5) (by decide)).trans ((byte_toNat _).trans (Nat.mod_eq_of_lt (by omega)))

theorem at_antennaLines :
    at_ 76 = lineOn 32 (s.rd.lines.ant &&& ~~~s.auxPathAnt) ∧ at_ 77 = lineOn 32 (s.rd.lines.ant &&& s.auxPathAnt) ∧
      at_ 78 = lineOn 32 (s.rd.target.ant &&& ~~~s.auxPathAnt) ∧ at_ 79 = lineOn 32 (s.rd.target.ant &&& s.auxPathAnt) := by
  have whole (l : BitVec 32) : (byte (lineOn 32 l)).toNat = lineOn 32 l :=
    (byte_toNat _).trans (Nat.mod_eq_of_lt (Nat.lt_of_le_of_lt (lineOn_le 32 l) (by decide)))
  exact ⟨(at_relay hat (j := 1) (by decide)).trans (whole _), (at_relay hat (j := 2) (by decide)).trans (whole _),
    (at_relay hat (j := 3) (by decide)).trans (whole _), (at_relay hat (j := 4) (by decide)).trans (whole _)⟩

end

end Sys2Proof.Machine

/-! SUPPORT. The display record settled (O52): when records start, and their fields as the record shows them. -/

namespace Sys2Proof.Machine

/-! ### When a record starts (R199, R200) -/

/-- The second is over with no record on its way: one starts with the content as it stands. -/
theorem refresh_starts {s : State} {due : Nat} (running : s.pi.refresh = .running due) (idle : s.pi.inFlight = false) :
    ∃ u, exec .displayRefreshExpiry s = .next (commit .nothing s u) ∧ u.now = max s.now due ∧
      u.pi.last = some s.displayed ∧ u.pi.inFlight = true ∧
      u.pi.refresh = .running (max s.now due + Config.sec 1) := by
  have eq : s.onExpiry s.pi.refresh State.refreshDue = (s.reach due).startRecord :=
    (onExpiry_of_running running State.refreshDue).trans (if_neg (Bool.eq_false_iff.1 idle))
  refine ⟨(s.reach due).startRecord, ?_, rfl, rfl, rfl, rfl⟩
  rw [← eq]
  rfl

/-- The first record after reset carries the content before the first command (R200; log 33). -/
theorem commit_first_record (heard : KeyHeard) {before s : State} (none : s.pi.last = .none) (idle : s.pi.inFlight = false) :
    (commit heard before s).pi.last = some before.displayed ∧ (commit heard before s).pi.inFlight = true ∧
      ((commit heard before s).pi.pendingChange = true ↔ before.displayed ≠ (commit heard before s).displayed) := by
  have owed : (reactOffered heard before s).firstOwed = true := by
    rw [firstOwed_iff, reactOffered_panel]
    exact ⟨none, idle⟩
  rw [commit_displayed, commit_panel, piReact_first owed]
  exact ⟨rfl, rfl, by rw [bne_iff_ne]⟩

/-- After the first record: a change starts one or is pending, and no change sends nothing (R199). -/
theorem commit_later_record {heard : KeyHeard} {before s t : State} (reached : commit heard before s = t)
    (sent : s.pi.last ≠ none ∨ s.pi.inFlight = true) :
    (before.displayed = t.displayed → t.pi.last = s.pi.last ∧ t.pi.inFlight = s.pi.inFlight ∧
      t.pi.pendingChange = s.pi.pendingChange ∧ t.pi.refresh = s.pi.refresh) ∧
    (before.displayed ≠ t.displayed → s.pi.inFlight = true →
      t.pi.last = s.pi.last ∧ t.pi.inFlight = true ∧ t.pi.pendingChange = true ∧ t.pi.refresh = s.pi.refresh) ∧
    (before.displayed ≠ t.displayed → s.pi.inFlight = false →
      t.pi.last = some t.displayed ∧ t.pi.inFlight = true ∧ t.pi.pendingChange = false ∧
        t.pi.refresh = .running (t.now + Config.sec 1)) := by
  subst reached
  have panel := reactOffered_panel heard before s
  have last : (reactOffered heard before s).pi.last = s.pi.last := by rw [panel]
  have flight : (reactOffered heard before s).pi.inFlight = s.pi.inFlight := by rw [panel]
  have pending : (reactOffered heard before s).pi.pendingChange = s.pi.pendingChange := by rw [panel]
  have refresh : (reactOffered heard before s).pi.refresh = s.pi.refresh := by rw [panel]
  have first : (reactOffered heard before s).firstOwed = false := by
    refine Bool.eq_false_iff.2 fun owed => ?_
    obtain ⟨none, idle⟩ := (firstOwed_iff _).1 owed
    rw [last] at none
    rw [flight] at idle
    exact sent.elim (fun h => h none) (fun h => by simp [idle] at h)
  rw [commit_displayed, commit_panel, ← reactOffered_now]
  refine ⟨fun same => ?_, fun changed on => ?_, fun changed idle => ?_⟩
  · rw [piReact_same_content first same]
    exact ⟨last, flight, pending, refresh⟩
  · rw [piReact_waits first changed (flight.trans on)]
    exact ⟨last, flight.trans on, rfl, refresh⟩
  · rw [piReact_starts first changed (flight.trans idle)]
    exact ⟨rfl, rfl, rfl, rfl⟩

/-- A record is 82 characters: 165, 79, the content and the check (13.4). -/
theorem displayRecord_frame (s : State) : (displayRecord s.content).length = 82 ∧
    (displayRecord s.content).getD 0 0 = 165 ∧ (displayRecord s.content).getD 1 0 = 79 ∧ s.displayed.content = s.content ∧
    (((displayRecord s.content).take 81).drop 1).foldl (fun acc x => acc + x.toNat) 0 % 256 =
      ((displayRecord s.content).getD 81 0).toNat :=
  ⟨by rw [displayRecord_length, content_length], rfl, rfl, rfl, displayRecord_check (content_length s)⟩

/-! ### The fields -/

section
variable {s : State} {at_ : Nat → Nat} (hat : ReadsRecord s at_)
include hat

/-- A lamp shows the first row of the lamp table that applies (R198). -/
theorem record_shows_lamp (n lamp : Nat) (shows : Slot → Prop) (low : 1 ≤ n) (high : n ≤ 32)
    (code : lamp = (if n % 2 = 1 then at_ (2 + (n - 1) / 2) / 16 else at_ (2 + (n - 1) / 2) % 16))
    (lit : ∀ i, shows i ↔
      (∃ h, (s.slot i).held = some h ∧ (h.antenna = n ∨ n ∈ s.membersOf h.antenna h.mask)) ∨
      (∃ x ∈ (s.slot i).freeing, x.antenna = n ∨ n ∈ s.membersOf x.antenna x.mask) ∨
      ∃ c, (s.slot i).cand = some c ∧ c.antenna = n) :
    (s.ps.plan = none ∨ (s.antenna n).kind = .absent ∨ (s.antenna n).kind = .stackPort ∧ s.groupOf n = none →
      lamp = 0) ∧
    (s.ps.plan ≠ none → (s.antenna n).kind ≠ .absent → (s.antenna n).kind ≠ .stackPort ∨ s.groupOf n ≠ none →
      (shows .main → lamp = 2) ∧ (¬ shows .main → shows .aux → lamp = 3) ∧
      (¬ shows .main → ¬ shows .aux → shows .nextA ∨ shows .nextB → lamp = 4) ∧
      ((∀ i, ¬ shows i) →
        ((∃ p k since m, s.hu.ask = .standing p n k since m) → lamp = 8) ∧
        ((∀ p k since m, s.hu.ask ≠ .standing p n k since m) →
          ((∃ e ∈ s.ct.waitList, e.antenna = n) → lamp = 6) ∧
          ((∀ e ∈ s.ct.waitList, e.antenna ≠ n) →
            ((∃ x ∈ s.ct.reservations, x.antenna = n ∧ s.jc.number ≠ some x.position) → lamp = 7) ∧
            ((∀ x ∈ s.ct.reservations, x.antenna = n → s.jc.number = some x.position) →
              lamp = if s.holderCount n < s.capacity n then 1 else 5))))) := by
  have shown (i : Slot) : shows i ↔ s.slotShows i n = true := (lit i).trans (slotShows_iff s i n).symm
  have dark (i : Slot) : ¬ shows i ↔ s.slotShows i n = false := by rw [shown, Bool.not_eq_true]
  obtain ⟨gone, here⟩ := lamp_table s n
  rw [code, at_lamp hat low high]
  refine ⟨fun h => gone ((noSuchAntenna_iff s n).2 h), fun plan kind port => ?_⟩
  have there : s.noSuchAntenna n = false := by
    refine Bool.eq_false_iff.2 fun h => ?_
    obtain h | h | ⟨h, none⟩ := (noSuchAntenna_iff s n).1 h
    · exact plan h
    · exact kind h
    · exact port.elim (fun k => k h) (fun g => g none)
  obtain ⟨main, aux, next, empty⟩ := here there
  refine ⟨fun m => main ((shown _).1 m), fun m a => aux ((dark _).1 m) ((shown _).1 a), fun m a x => ?_, fun all => ?_⟩
  · refine next ((dark _).1 m) ((dark _).1 a) ?_
    rw [Bool.or_eq_true, ← shown, ← shown]
    exact x
  · obtain ⟨asked, quiet⟩ := empty fun i => (dark i).1 (all i)
    refine ⟨fun ask => asked ((asked_iff s n).2 ask), fun noAsk => ?_⟩
    have unasked : s.asked n = false := by
      refine Bool.eq_false_iff.2 fun h => ?_
      obtain ⟨p, k, since, m, ask⟩ := (asked_iff s n).1 h
      exact noAsk p k since m ask
    obtain ⟨waits, idle⟩ := quiet unasked
    refine ⟨fun wait => waits ((waitEntry_isSome_iff s n).2 wait), fun noWait => ?_⟩
    have unwaited : (s.waitEntry n).isSome = false := by
      refine Bool.eq_false_iff.2 fun h => ?_
      obtain ⟨e, mem, same⟩ := (waitEntry_isSome_iff s n).1 h
      exact noWait e mem same
    obtain ⟨kept, free⟩ := idle unwaited
    refine ⟨fun reserved => kept ((reservedElsewhere_iff s n).2 reserved), fun own => ?_⟩
    have unreserved : s.reservedElsewhere n = false := by
      refine Bool.eq_false_iff.2 fun h => ?_
      obtain ⟨x, mem, same, other⟩ := (reservedElsewhere_iff s n).1 h
      exact other (own x mem same)
    exact (free unreserved).trans (if_congr decide_eq_true_iff rfl rfl)

/-- Joining, the plan check, the flags and the panel mask. -/
theorem record_shows_joining :
    at_ 18 / 32 = joinCode s.jc.state ∧ at_ 18 % 32 = s.numberCode ∧
      (s.jc.attempts ≤ 255 → at_ 19 = s.jc.attempts) ∧ at_ 20 = s.ps.planCheck.toNat ∧
      (∀ x ∈ [(7, s.ps.planValid), (6, s.pi.waitMode), (5, s.ct.relearn.isRunning), (4, s.cu.standby),
        (3, s.cu.deferred), (2, s.pt.linkLost), (1, s.pt.disagreement), (0, s.cu.quiet.isSome)],
        at_ 21 / 2 ^ x.1 % 2 = x.2.toNat) ∧
      (s.lc.level ≤ 15 → at_ 22 / 32 = (s.ct.panelMask.getD 0).toNat ∧ at_ 22 / 16 % 2 = s.ks.overflowMark.toNat ∧
        at_ 22 % 16 = s.lc.level) :=
  ⟨(at_join_first hat).1, (at_join_first hat).2, at_attempts hat, at_planCheck hat, at_flags hat, at_panelMask hat⟩

/-- Reason, sequencer, lockout and the first eight warnings. -/
theorem record_shows_keying :
    (∀ r, s.ie.reason = some r → allReasons[at_ 23 / 16 - 1]? = some r ∧ 1 ≤ at_ 23 / 16) ∧
      (s.ie.reason = none → at_ 23 / 16 = 0) ∧
      [SeqState.receive, .keyWait, .announce, .ampOn, .transmit, .tail, .lockout][at_ 23 % 16]? = some s.ks.state ∧
      (∀ r, s.ks.lockout = some (.inhibit r) → allReasons[at_ 24 - 1]? = some r ∧ 1 ≤ at_ 24) ∧
      (s.ks.lockout = some .queue → at_ 24 = 16) ∧ (s.ks.lockout = none → at_ 24 = 0) ∧
      (s.ie.warnings.length ≤ 255 → at_ 25 = s.ie.warnings.length) ∧
      ∀ k < 8, (s.ie.warnings[k]? = none → at_ (26 + k) = 0) ∧
        ∀ kind p, s.ie.warnings[k]? = some (kind, p) → at_ (26 + k) % 16 = p.toNat ∧
          [WarningKind.spacing, .harmonic2, .harmonic3][at_ (26 + k) / 16 - 1]? = some kind ∧ 1 ≤ at_ (26 + k) / 16 := by
  obtain ⟨reason, state⟩ := at_reason hat
  rw [reason, state, at_lockout hat]
  refine ⟨fun r h => ?_, fun h => ?_, seqStates_seqCode _, fun r h => ?_, fun h => ?_, fun h => ?_, at_warnings hat,
    fun k hk => ⟨fun h => ?_, fun kind p h => ?_⟩⟩
  · rw [h]
    exact allReasons_inhibitCode r
  · rw [h]
    rfl
  · rw [h]
    exact allReasons_inhibitCode r
  · rw [h]
    rfl
  · rw [h]
    rfl
  · rw [at_warning hat hk, h]
    rfl
  · rw [at_warning hat hk, h]
    exact warningByte_toNat kind p

/-- A slot's candidate, else its hold, else its latest freeing part, else nothing (R199). -/
theorem record_shows_slot (i : Slot) (k antenna code tenure : Nat) (mask : Mask)
    (place : [Slot.main, .aux, .nextA, .nextB][k]? = some i) (number : antenna ≤ 63) (period : tenure ≤ 63)
    (part : (∃ c, (s.slot i).cand = some c ∧ antenna = c.antenna ∧ code = (if c.phase = .queued then 3 else 4) ∧
        tenure = 0 ∧ mask = c.mask) ∨
      (∃ h, (s.slot i).cand = none ∧ (s.slot i).held = some h ∧ antenna = h.antenna ∧ code = 1 ∧
        tenure = h.tenure ∧ mask = h.mask) ∨
      (∃ x, (s.slot i).cand = none ∧ (s.slot i).held = none ∧ (s.slot i).freeing.getLast? = some x ∧
        antenna = x.antenna ∧ code = 2 ∧ tenure = x.tenure ∧ mask = x.mask) ∨
      ((s.slot i).cand = none ∧ (s.slot i).held = none ∧ (s.slot i).freeing = [] ∧ antenna = 0 ∧ code = 0 ∧
        tenure = 0 ∧ mask = 0)) :
    65536 * at_ (37 + 3 * k) + 256 * at_ (37 + 3 * k + 1) + at_ (37 + 3 * k + 2) =
      262144 * antenna + 32768 * code + 512 * tenure + 64 * mask.toNat := by
  have shown : slotWord (s.slot i) = 262144 * antenna + 32768 * code + 512 * tenure + 64 * mask.toNat ∧ code ≤ 4 := by
    obtain ⟨c, cand, rfl, rfl, rfl, rfl⟩ | ⟨h, none, held, rfl, rfl, rfl, rfl⟩ |
      ⟨x, none, bare, last, rfl, rfl, rfl, rfl⟩ | ⟨none, bare, free, rfl, rfl, rfl, rfl⟩ := part
    · exact ⟨slotWord_cand cand, by split <;> decide⟩
    · exact ⟨slotWord_held none held, by decide⟩
    · exact ⟨slotWord_freeing none bare last, by decide⟩
    · exact ⟨slotWord_empty none bare free, by decide⟩
  obtain ⟨word, small⟩ := shown
  have places := mask.isLt
  rw [← word]
  exact at_slot hat place (by omega)

/-- The latch, the ask and the outgoing answer. -/
theorem record_shows_handover :
    (s.hu.latch = none → ∀ k, 49 ≤ k → k ≤ 53 → at_ k = 0) ∧
      (∀ l, s.hu.latch = some l → at_ 49 = 128 + l.asker.toNat ∧ (l.antenna ≤ 255 → at_ 50 = l.antenna) ∧
        ∀ x, (l.label = some x ∨ l.label = none ∧ (s.pt.find l.asker).bind (fun r => r.label) = some x) →
          at_ 51 = x.c1.toNat ∧ at_ 52 = x.c2.toNat ∧ at_ 53 = x.c3.toNat) ∧
      (s.hu.ask = .none → at_ 54 = 0 ∧ at_ 55 = 0 ∧ at_ 56 = 0) ∧
      (∀ since m, s.hu.ask = .choosing since m → s.timing.askLife ≤ 255 →
        at_ 54 = 64 ∧ at_ 55 = 0 ∧ at_ 56 = s.timing.askLife - m) ∧
      (∀ p a kind since m, s.hu.ask = .standing p a kind since m → a ≤ 63 → s.timing.askLife ≤ 255 →
        at_ 54 / 64 = 2 ∧ at_ 54 % 16 = p.toNat ∧
        [AskKind.main, .aux, .next][at_ 54 / 16 % 4]? = some kind ∧ at_ 55 % 64 = a ∧
        at_ 56 = s.timing.askLife - m ∧
        (∀ r me k, s.pt.find p = some r → s.jc.number = some me → r.answer = some (me, a, k) →
          at_ 55 / 64 = if k = .keep then 1 else 2) ∧
        ((∀ r me k, s.pt.find p = some r → s.jc.number = some me → r.answer ≠ some (me, a, k)) → at_ 55 / 64 = 0)) ∧
      (s.hu.answer = none → at_ 57 = 0 ∧ at_ 58 = 0) ∧
      ∀ x, s.hu.answer = some x → at_ 57 / 16 = (if x.kind = .keep then 1 else 2) ∧ at_ 57 % 16 = x.asker.toNat ∧
        (x.antenna ≤ 255 → at_ 58 = x.antenna) := by
  refine ⟨fun none k => at_latch_empty hat none, fun l => at_latch_occupied hat, at_ask_none hat,
    fun since m => at_ask_choosing hat, fun p a kind since m ask small life => ?_, at_answer_none hat,
    fun x => at_answer_some hat⟩
  obtain ⟨first, second, left⟩ := at_ask_standing hat ask small life
  obtain ⟨code, kinds⟩ := askKinds_askKindCode kind
  have target := p.isLt
  have number : (a : Nat) < 64 := Nat.lt_succ_of_le small
  have kindAt : at_ 54 / 16 % 4 = askKindCode kind := by omega
  have answerAt : at_ 55 / 64 = s.targetAnswer p a := by
    rw [second, Nat.mul_add_div (by decide), Nat.div_eq_of_lt number, Nat.add_zero]
  have antennaAt : at_ 55 % 64 = a := by rw [second, Nat.mul_add_mod, Nat.mod_eq_of_lt number]
  refine ⟨by omega, by omega, kindAt ▸ kinds, antennaAt, left, fun r me k found own answer => ?_, fun none => ?_⟩
  · rw [answerAt]
    exact targetAnswer_of_answer found own answer
  · rw [answerAt]
    exact targetAnswer_none none

/-- Quiet, the last command and the positions flagged. -/
theorem record_shows_station :
    (s.cu.quiet = none → at_ 59 = 0 ∧ at_ 60 = 0) ∧
      (∀ q, s.cu.quiet = some q → at_ 59 = q.issuer.toNat ∧ (q.remaining ≤ 255 → at_ 60 = q.remaining)) ∧
      (s.cu.last = none → at_ 61 = 0 ∧ at_ 62 = 0) ∧
      (∀ c, s.cu.last = some c → at_ 61 / 64 = (if c.applied = true then 1 else 2) ∧
        [CommandName.quiet, .quietEnd, .rejoin, .relearn][at_ 61 / 4 % 16]? = some c.name ∧
        at_ 61 % 4 = c.all.toNat ∧ at_ 62 = 16 * c.issuer.toNat + c.target.toNat) ∧
      ∀ p : Position,
        ((256 * at_ 63 + at_ 64) / 2 ^ p.toNat % 2 = 1 ↔ ∃ r ∈ s.pt.records, r.pos = p ∧ r.mismatch = true) ∧
        ((256 * at_ 65 + at_ 66) / 2 ^ p.toNat % 2 = 1 ↔ ∃ r ∈ s.pt.records, r.pos = p ∧ r.linkLost = true) := by
  refine ⟨at_quiet_none hat, fun q => at_quiet_some hat, at_lastCommand_none hat, fun c last => ?_, at_positions hat⟩
  obtain ⟨applied, name, all, route⟩ := at_lastCommand_some hat last
  exact ⟨applied, name ▸ (commandNames_commandCode c.name).2, all, route⟩

/-- The panel's answer and the counters. -/
theorem record_shows_answer :
    (s.pi.answer = none → at_ 67 = 0 ∧ at_ 68 = 0 ∧ at_ 69 = 0) ∧
      (∀ c o, s.pi.answer = some ⟨.key c, o⟩ → at_ 67 = 1 ∧ at_ 68 = c.toNat) ∧
      (∀ b o, s.pi.answer = some ⟨.block b, o⟩ → at_ 68 = 0 ∧ 2 ≤ at_ 67 ∧
        [Block.fu, .ps, .jc, .lc, .pt, .sg, .ct, .hu, .ie, .ks, .rd, .cu, .pi][at_ 67 - 2]? = some b) ∧
      (∀ x o, s.pi.answer = some ⟨x, o⟩ → (∀ d, o ≠ .denied d) → 1 ≤ at_ 69 ∧
        [PanelOutcome.accepted, .waiting, .asking, .valueSet, .unknown, .wait, .kept, .giving, .notSent][at_ 69 - 1]? =
          some o) ∧
      (∀ x d, s.pi.answer = some ⟨x, .denied d⟩ → 16 ≤ at_ 69 ∧
        [Denial.notRunning, .noSuchAntenna, .wrongKind, .privateOwner, .notCovered, .relearn, .linkLost, .planDiff,
          .reserved, .mine, .busy, .full, .waitFull, .queue, .mask, .reshaping, .capacity, .notHeld, .notSingle, .noAsk,
          .notPermitted][at_ 69 - 16]? = some d) ∧
      (CountersOk s → at_ 70 = s.lc.lineErrors ∧ at_ 71 = s.lc.overflows ∧ at_ 72 = s.fu.sentenceErrors ∧
        1000 * (at_ 73 / 16) + 100 * (at_ 73 % 16) + 10 * (at_ 74 / 16) + at_ 74 % 16 = s.ks.refusals ∧
        at_ 73 / 16 ≤ 9 ∧ at_ 73 % 16 ≤ 9 ∧ at_ 74 / 16 ≤ 9 ∧ at_ 74 % 16 ≤ 9) := by
  refine ⟨at_panelAnswer_none hat, fun c o => at_panelAnswer_key hat, fun b o answer => ?_, fun x o answer taken => ?_,
    fun x d answer => ?_, at_counts hat⟩
  · obtain ⟨zero, code⟩ := at_panelAnswer_block hat answer
    obtain ⟨low, -, named⟩ := blocks_blockCode b
    exact ⟨zero, by omega, code ▸ named⟩
  · obtain ⟨low, high, named⟩ := outcomes_outcomeCode taken
    have code : at_ 69 = outcomeCode o := (at_panelAnswer_outcome hat answer).trans (Nat.mod_eq_of_lt (by omega))
    exact ⟨by omega, code ▸ named⟩
  · obtain ⟨low, high, named⟩ := denials_denialCode d
    have code : at_ 69 = denialCode d := (at_panelAnswer_outcome hat answer).trans (Nat.mod_eq_of_lt (by
      show denialCode d < 256
      omega))
    exact ⟨by omega, code ▸ named⟩

/-- The relay lines and the target. -/
theorem record_shows_relays :
    [RelayState.steady, .breaking, .making][at_ 75 / 64]? = some s.rd.state ∧
    (∀ b, b ≤ 10 → (s.rd.lines.filter = filterBit b → at_ 75 % 64 = b) ∧ (s.rd.target.filter = filterBit b → at_ 80 = b)) ∧
    ∀ a, a ≤ 32 → (s.rd.lines.ant &&& ~~~s.auxPathAnt = antBit a → at_ 76 = a) ∧
      (s.rd.lines.ant &&& s.auxPathAnt = antBit a → at_ 77 = a) ∧
      (s.rd.target.ant &&& ~~~s.auxPathAnt = antBit a → at_ 78 = a) ∧
      (s.rd.target.ant &&& s.auxPathAnt = antBit a → at_ 79 = a) := by
  obtain ⟨state, filter⟩ := at_relayState hat
  obtain ⟨main, aux, targetMain, targetAux⟩ := at_antennaLines hat
  refine ⟨?_, fun b small => ⟨fun line => ?_, fun line => ?_⟩, fun a small => ⟨fun line => ?_, fun line => ?_, fun line => ?_,
    fun line => ?_⟩⟩
  · rw [state]
    cases s.rd.state <;> rfl
  · rw [filter, line, lineOn_filterBit small]
  · rw [at_targetFilter hat, line, lineOn_filterBit small]
  · rw [main, line, lineOn_antBit small]
  · rw [aux, line, lineOn_antBit small]
  · rw [targetMain, line, lineOn_antBit small]
  · rw [targetAux, line, lineOn_antBit small]

end

end Sys2Proof.Machine

namespace Sys2Proof.Proofs
open Sys2Proof.Machine

/-- Settles O52. -/
theorem displayRecordsFollowContent : Obligations.DisplayRecordsFollowContent := by
  unfold Obligations.DisplayRecordsFollowContent
  refine ⟨fun s flight => ⟨s.recordSent, exec_displayRecordSent flight, recordSent_fields flight⟩,
    fun s due running idle => refresh_starts running idle,
    fun heard before s none idle => commit_first_record heard none idle,
    fun heard before s t reached sent => commit_later_record reached sent, displayRecord_frame,
    fun s at_ word order hat hword horder => ?_⟩
  obtain rfl : order = allReasons := horder
  refine ⟨fun n lamp shows low high code lit => record_shows_lamp hat n lamp shows low high code lit,
    record_shows_joining hat, record_shows_keying hat, fun band => ?_,
    fun i k antenna code tenure mask place number period part => ?_, record_shows_handover hat, record_shows_station hat,
    record_shows_answer hat, record_shows_relays hat⟩
  · rw [hword]
    exact at_band_freq hat band
  · rw [hword]
    exact record_shows_slot hat i k antenna code tenure mask place number period part

end Sys2Proof.Proofs
